-- ==== Sys2Proof/Word.lean ====
section
/-! DEFINITION. The words of the NK2416 station: bytes, station ids, round numbers and line times. -/

namespace Sys2Proof

/-- One byte, as carried on the trigger line, the tap port and in the configuration image (R177). -/
abbrev Byte := BitVec 8

/-- A station id. Valid ids are 1 to 24 (00_scope.md, Identity). -/
abbrev StationId := BitVec 8

/-- A round number: 0 to 16,777,215, wrapping to 0 (1.1). -/
abbrev Round := BitVec 24

/-- A line time, written round:phase (00_scope.md, Time). The phase counts ticks within the round. -/
structure LineTime where
  round : Round
  phase : Nat
deriving DecidableEq, Repr

/-- The line time 0:0, at which the clock rests while it is stopped (R13). -/
def LineTime.zero : LineTime := ⟨0, 0⟩

end Sys2Proof
end

