-- ==== Sys2Proof/Config.lean ====
section
/-! DEFINITION. What the configuration image fixes (10.1), the capacities the chapters fix, and the values the
spec leaves open. -/

namespace Sys2Proof

/-- Edge kinds (5.1): RISE is a change from low to high at the pin, FALL from high to low. -/
inductive Edge where
  | rise
  | fall
deriving DecidableEq, Repr

/-- Edge selection of an input (05_input_capture.md). -/
inductive EdgeSelection where
  | off
  | rise
  | fall
  | both
deriving DecidableEq, Repr

/-- Trigger edges of an input (05_input_capture.md). -/
inductive TriggerEdges where
  | rise
  | fall
  | both
deriving DecidableEq, Repr

/-- Output modes (4.7). -/
inductive OutputMode where
  | off
  | level
  | pulse
  | round
deriving DecidableEq, Repr

/-- Actions (3.1). -/
inductive Action where
  | set
  | clear
  | toggle
  | fire
deriving DecidableEq, Repr

/-- Configuration of one input (05_input_capture.md). `triggerEdges` and `lead` are read only while the tag is not 0. -/
structure InputConfig where
  selection : EdgeSelection
  hold : Nat
  share : Bool
  tag : Byte
  triggerEdges : TriggerEdges
  lead : Nat
deriving DecidableEq, Repr

/-- Configuration of one output (4.7). `width` is read only in PULSE mode. -/
structure OutputConfig where
  mode : OutputMode
  activeLow : Bool
  safeActive : Bool
  width : Nat
  log : Bool
deriving DecidableEq, Repr

/-- One binding (3.1). Its index is its position in the table. -/
structure Binding where
  tag : Byte
  output : Fin 8
  action : Action
  offset : Int
deriving DecidableEq, Repr

/-- The values the blocks take from the image at a good load (R175). -/
structure StationConfig where
  id : StationId
  roundLength : Nat
  stepLimit : Nat
  lineDelay : Nat
  margin : Nat
  sendCount : Nat
  horizon : Nat
  attention : Bool
  inputs : Vector InputConfig 8
  outputs : Vector OutputConfig 8
  bindings : List Binding
deriving DecidableEq, Repr

/-- The configuration while no image has been taken: no bindings (R67), no inputs (R101), attention-on-release not
taken (R166). DESIGN CHOICE (log 15), unsafe: the numbers are 0, since the spec gives them no value before a load. -/
def StationConfig.empty : StationConfig where
  id := 0
  roundLength := 0
  stepLimit := 0
  lineDelay := 0
  margin := 0
  sendCount := 0
  horizon := 0
  attention := false
  inputs := Vector.replicate 8 ⟨.off, 0, false, 0, .rise, 0⟩
  outputs := Vector.replicate 8 ⟨.off, false, false, 0, false⟩
  bindings := []

/-- The bytes that the configuration memory acknowledges in a read: its bus address, the two bytes of the offset, and its bus
address after the repeated start (R169, R177). -/
inductive AddressedByte where
  | busAddress
  | offsetHigh
  | offsetLow
  | repeatedAddress
deriving DecidableEq, Repr

/-- Why a read of the configuration memory is unanswered (R169): CSDA is still low after the recovery clocks, or, after a recovery
of `clocks` clocks, the memory leaves the byte at `place` without an acknowledgement. -/
inductive Unanswered where
  | heldLow
  | unacknowledged (clocks : Fin 10) (place : AddressedByte)
deriving DecidableEq, Repr, Inhabited

namespace Config

/-- Capacity of the Schedule (R68). -/
abbrev scheduleCapacity : Nat := 32
/-- Capacity of the arm outbox (R45). -/
abbrev armCapacity : Nat := 8
/-- Capacity of the cancel outbox (R55). -/
abbrev cancelCapacity : Nat := 8
/-- Capacity of one sender's list of the arm history (R60). -/
abbrev historyCapacity : Nat := 8
/-- Capacity of the event outbox (R97). -/
abbrev eventOutboxCapacity : Nat := 16
/-- Capacity of the Event Store, both collections together (R102). -/
abbrev storeCapacity : Nat := 128
/-- The arm reach, in rounds (R46, R48, R64). -/
abbrev armReach : Nat := 250
/-- Greatest magnitude of the rate trim, in ppm (R8). -/
abbrev trimLimit : Int := 200
/-- One symbol time, in reference periods (7.1). -/
abbrev symbolTime : Nat := 40
/-- The gap before a window, in reference periods: three symbol times (R139). -/
abbrev gapTime : Nat := 120
/-- Slots of a window (R139). -/
abbrev windowSlots : Nat := 72
/-- Consecutive collisions at which the transmitter is muted (R150). -/
abbrev muteCollisions : Nat := 8
/-- Round boundaries a mute lasts (R150). -/
abbrev muteRounds : Nat := 16
/-- The 7-bit bus address of the configuration memory (R177). -/
abbrev memoryAddress : BitVec 7 := 0x50
/-- The clocks of a bus recovery at most (R169). -/
abbrev mostRecoveryClocks : Nat := 9
/-- One bus clock of 400 kHz, in reference periods of 50 ns (R169). -/
abbrev busClock : Nat := 50
/-- The marker of the configuration image (11.6). -/
abbrev marker : Nat := 42517

/-- A FREE VALUE. R116 gives the RESTART note the station's own id as its origin. A restart taken in FAULT finds no
image taken (R174), and the spec does not say which id the station then has; only that ids are 1 to 24. The n-th such
restart uses the id `(stationIdUnloaded n) + 1` (log 16). -/
opaque stationIdUnloaded : Nat → Fin 24

/-- A FREE VALUE. Where an adoption step and the advances of a reference period fall together, R9 gives the outcome of either
order and does not say which is taken. The n-th free value says whether the advances are taken first (log 5). -/
opaque advancesBeforeStep : Nat → Bool

/-- A FREE VALUE. Where a close or a boundary has been taken and the handling of a TIME frame ends next, R9 and R25 give the
outcome of a step made in the same reference period after it, and the command does not say whether the handling ended in that
period or in the next. The n-th free value says whether it ended in the period of the close (log 5). -/
opaque stepInClosedPeriod : Nat → Bool

/-- A FREE VALUE. How long the configuration memory holds CSDA low is the world's, and the commands do not tell it: the n-th free
value says after how many recovery clocks CSDA is seen high in a read that is answered (R169, log 18). -/
opaque recoveryClocks : Nat → Fin 10

/-- A FREE VALUE. READ_UNANSWERED does not tell for which of the two causes of R169 the read is left unanswered: the n-th free value
does (log 18). -/
opaque unansweredCause : Nat → Unanswered

end Config

end Sys2Proof
end

