-- ==== Sys2Proof/Syntax.lean ====
section
/-! DEFINITION. The commands of the station: one constructor per row of spec/opcode_table.json, in the table's order.
Each command is one happening (00_scope.md, Happenings and their order). -/

namespace Sys2Proof

/-- The commands. The operand of a tap take point is the parameter byte whose completion is the take point (R155);
commands without a parameter byte are completed by their command byte. -/
inductive Instr where
  /-- FULL_RESET (R176): power-up, or the RESET pin is asserted. -/
  | fullReset
  /-- REFERENCE_PERIOD (R2): the end of a reference period. -/
  | referencePeriod
  /-- ROUND_CLOSE (R3): the end of a reference period in which a single advance closes the round, that close taken first. -/
  | roundClose
  /-- OVERTIME_END (R5): the end of a reference period in which the overtime count reaches 0, that boundary taken first. -/
  | overtimeEnd
  /-- PEER_BARRED (R30): a round close at which `peer` reaches 3 strikes. -/
  | peerBarred (peer : StationId)
  /-- PEER_SILENT_ABSENT (R31): a round close at which the silent rounds of `peer` reach 8. -/
  | peerSilentAbsent (peer : StationId)
  /-- BARRED_ROUNDS_END (R31): a round close at which the barred rounds of `peer` reach 0. -/
  | barredRoundsEnd (peer : StationId)
  /-- LISTEN_PERIOD_END (R18): a round close at which the listen count reaches 0. -/
  | listenPeriodEnd
  /-- GATHERING_PROGRESS_LOCKED (R33): a round close at which progress reaches 2. -/
  | gatheringProgressLocked
  /-- GATHERING_LONELY_ALONE (R33): a round close at which the lonely count in GATHERING reaches 4. -/
  | gatheringLonelyAlone
  /-- LOCKED_LONELY_ALONE (R34): a round close at which the lonely count in LOCKED reaches 8. -/
  | lockedLonelyAlone
  /-- CLAMP_LIMIT_ADRIFT (R36): a round close at which the clamp count reaches 3. -/
  | clampLimitAdrift
  /-- DRIFT_LIMIT_REFOUND (R35): a round close at which the drift count reaches 16. -/
  | driftLimitRefound
  /-- MUTE_END (R151): the end of a reference period at whose boundary the mute count reaches 0, that boundary taken first. -/
  | muteEnd
  /-- SCHEDULE_ENTRY_DUE (R72): the Schedule looks for reached entries. -/
  | scheduleEntryDue
  /-- PULSE_END (R83): line time has reached the pulse end of `output`. -/
  | pulseEnd (output : Fin 8)
  /-- ARM_EXPIRED (R53): line time has passed the action time of the arm outbox record `armId`. -/
  | armExpired (armId : Byte)
  /-- SETTLE (R105): the Event Store looks at the head of its settling list. -/
  | settle
  /-- INPUT_CHANGE (R90): `input` is sampled in this reference period at `level` (true is high). -/
  | inputChange (input : Fin 8) (level : Bool)
  /-- EDGE_ACCEPTED (R91): the samples of this reference period are taken, and with them the acceptances. -/
  | edgeAccepted
  /-- SYMBOL_CONFIRMED (R118, R139): the start-bit sample of a begun symbol is low. -/
  | symbolConfirmed
  /-- SYMBOL_ENDED (R139): the kind bit of a symbol ends. -/
  | symbolEnded
  /-- GAP_COMPLETE (R139): the gap count has reached 120. -/
  | gapComplete
  /-- QUIET (R119): one symbol time of silence has passed. -/
  | quiet
  /-- RECEIVE_OPEN (R124, R125): an OPEN is recognised. -/
  | receiveOpen
  /-- RECEIVE_DATA_SYMBOL (R124, R125): a data symbol carrying `byte` is recognised. -/
  | receiveDataSymbol (byte : Byte)
  /-- RECEIVE_QUASH (R124, R125): a QUASH is recognised. -/
  | receiveQuash
  /-- RECEIVE_INVALID_SYMBOL (R118): a control symbol of another content than the three patterns is recognised. -/
  | receiveInvalidSymbol (content : Byte)
  /-- RECEIVE_SHUT (R126): a SHUT is recognised. -/
  | receiveShut
  /-- FRAME_HANDLING_END (R134): the handling of a frame ends. -/
  | frameHandlingEnd
  /-- SLOT_START (R144): the start of the window slot now running. -/
  | slotStart
  /-- SYMBOL_READBACK (R146): the ten bit samples of the symbol being sent, bit 0 the start bit. -/
  | symbolReadback (bits : BitVec 10)
  /-- FRAME_GOOD_END (R147): the end of the kind bit of a SHUT read back well. -/
  | frameGoodEnd
  /-- QUASH_END (R148): the end of the QUASH of an abandoned frame. -/
  | quashEnd
  /-- SCS_FALL (R154). -/
  | scsFall
  /-- SCS_RISE (R154). -/
  | scsRise
  /-- RESTART (R165): the command byte of RESTART completes. -/
  | restart
  /-- READ_STATUS (R158): the command byte of READ STATUS completes. -/
  | readStatus
  /-- READ_COUNTERS (R160): the clear option byte completes. -/
  | readCounters (clearOption : Byte)
  /-- READ_PEER (R161): the station id byte completes. -/
  | readPeer (id : Byte)
  /-- READ_SCHEDULE (R161): the position byte completes. -/
  | readSchedule (position : Byte)
  /-- READ_OUTBOX (R161): the position byte completes. -/
  | readOutbox (position : Byte)
  /-- COUNT_EVENTS (R161): the command byte of COUNT EVENTS completes. -/
  | countEvents
  /-- READ_EVENT (R162): the command byte of READ EVENT completes. -/
  | readEvent
  /-- POST_TRIGGER (R163): the eighth parameter byte completes; the seven before it came by TAP_BYTE_COMPLETED. -/
  | postTrigger (lastByte : Byte)
  /-- CANCEL_TRIGGER (R164): the arm id byte completes. -/
  | cancelTrigger (armId : Byte)
  /-- BAD_COMMAND (R155): an unknown command byte completes. -/
  | badCommand (code : Byte)
  /-- READ_EVENT_RESPONSE_BEGIN (R111): the turnaround byte of a READ EVENT completes. -/
  | readEventResponseBegin
  /-- TRANSACTION_DONE (R154): the last response byte has been clocked out. -/
  | transactionDone
  /-- READ_UNANSWERED (R169): a read of the configuration memory is left unanswered. -/
  | readUnanswered
  /-- HEAD_READ_DONE (R170): the head read completes with the image's first four bytes. -/
  | headReadDone (byte0 byte1 byte2 byte3 : Byte)
  /-- BODY_READ_DONE (R171): the body read completes with the image's bytes from offset 4 to its last. -/
  | bodyReadDone (bytes : List Byte)
  /-- TAP_BYTE_COMPLETED (R154): a byte completes at its eighth rising edge of SCK. -/
  | tapByteCompleted (byte : Byte)
  /-- SYMBOL_BEGINS (R118): a falling edge of LRX, or LRX low as a kind bit ends or as the receiver leaves OFF. -/
  | symbolBegins
  /-- START_BIT_GLITCH (R118): the start-bit sample of a begun symbol is high. -/
  | startBitGlitch
  /-- RESET_RELEASED (R176): RESET is released, or the power-on reset ends. -/
  | resetReleased
deriving DecidableEq, Repr

end Sys2Proof
end

