-- ==== Sys2Proof/WellFormed.lean ====
section
/-! DEFINITION. Which command terms stand for a happening the spec knows. A term that fails a check is not refused by
exec: its happening cannot occur, and it changes nothing (log 1). -/

namespace Sys2Proof

/-- Station ids are 1 to 24 (00_scope.md, Identity). -/
def validStationId (id : StationId) : Bool := 1 ≤ id.toNat && id.toNat ≤ 24

/-- The contents of the three control symbols OPEN, SHUT and QUASH (11.2). -/
def controlPatterns : List Byte := [0x96, 0xA5, 0xC3]

/-- The codes of the ten tap commands (11.4). -/
def tapCodes : List Byte := [0x01, 0x02, 0x03, 0x04, 0x05, 0x06, 0x07, 0x10, 0x11, 0x20]

/-- The length of a body read: the image's 139 + 6k bytes less the four of the head, for k from 0 to 48 (11.6). -/
def validBodyLength (n : Nat) : Bool := 135 ≤ n && n ≤ 423 && (n - 135) % 6 == 0

/-- The checks of a command term. -/
def Instr.wellFormed : Instr → Bool
  | .peerBarred peer => validStationId peer
  | .peerSilentAbsent peer => validStationId peer
  | .barredRoundsEnd peer => validStationId peer
  | .receiveInvalidSymbol content => !controlPatterns.contains content
  | .badCommand code => !tapCodes.contains code
  | .bodyReadDone bytes => validBodyLength bytes.length
  | .fullReset | .referencePeriod | .roundClose | .overtimeEnd | .listenPeriodEnd | .gatheringProgressLocked
  | .gatheringLonelyAlone | .lockedLonelyAlone | .clampLimitAdrift | .driftLimitRefound | .muteEnd
  | .scheduleEntryDue | .pulseEnd _ | .armExpired _ | .settle | .inputChange _ _ | .edgeAccepted | .symbolConfirmed
  | .symbolEnded | .gapComplete | .quiet | .receiveOpen | .receiveDataSymbol _ | .receiveQuash | .receiveShut
  | .frameHandlingEnd | .slotStart | .symbolReadback _ | .frameGoodEnd | .quashEnd | .scsFall | .scsRise | .restart
  | .readStatus | .readCounters _ | .readPeer _ | .readSchedule _ | .readOutbox _ | .countEvents | .readEvent
  | .postTrigger _ | .cancelTrigger _ | .readEventResponseBegin | .transactionDone | .readUnanswered
  | .headReadDone _ _ _ _ | .tapByteCompleted _ | .symbolBegins | .startBitGlitch | .resetReleased => true

end Sys2Proof
end

