-- ==== Sys2Proof/Decode.lean ====
section
/-! DEFINITION. The commands of this block arrive as happenings, not as words: no row of spec/opcode_table.json gives
bits, so no word spells a command (log 22). -/

namespace Sys2Proof

/-- The command that a word spells by the table's bits: no row of the table has any. -/
def decodeTableWord (_nbits _w : Nat) : Option Instr := none

end Sys2Proof
end

