-- ==== Sys2Proof/Machine/State.lean ====
section
/-! DEFINITION. The state of the station, block by block, as plain data, and its values after a reset. -/

namespace Sys2Proof.Machine

/-! ### Outcomes that stop -/

/-- The faults of a step. There are none: the spec gives every happening an effect, or says that nothing changes, and
none of them stops the station. The Loader's FAULT is a state of the station (R174). -/
inductive Fault where
deriving DecidableEq, Repr

/-- The refusals of a step. -/
inductive Refusal where
  /-- Raised by an arm of `exec` for a command that has no meaning yet (safe: nothing can be proved of its effect).
  No arm of this model raises it. -/
  | notModelled (mnemonic : String)
deriving DecidableEq, Repr

/-! ### Line Clock (chapter 1) -/

/-- The Line Clock (1.1): the line time, the rate trim in ppm, the pace count, the overtime count, whether it runs, the
kept start-bit time of R11, and the new line time of an adoption step that has been handed over in the reference period now
running and is made at its end (R9). -/
structure LineClock where
  now : LineTime
  trim : Int
  pace : Nat
  overtime : Nat
  running : Bool
  startBit : Option LineTime
  handed : Option LineTime
deriving DecidableEq, Repr

/-- R13. -/
def LineClock.reset : LineClock := ⟨.zero, 0, 0, 0, false, none, none⟩

/-! ### Agreement Unit (chapter 2) -/

/-- Agreement states (2.1). -/
inductive AgreementState where
  | unset
  | listening
  | alone
  | gathering
  | locked
  | adrift
deriving DecidableEq, Repr

/-- The last adjustment of the clock (R20). -/
inductive Adjustment where
  | correction (c : Int)
  | step
deriving DecidableEq, Repr

/-- The condition of the station's own TIME frame (R37). -/
inductive TimeFrame where
  | idle
  | pending
  | inFlight
  | inFlightPending
deriving DecidableEq, Repr

/-- The state of a peer table entry (2.3). -/
inductive PeerState where
  | absent
  | live
  | barred
deriving DecidableEq, Repr

/-- One entry of the peer table (2.3). -/
structure Peer where
  state : PeerState
  offset : Option Int
  offsetRound : Option Round
  fresh : Bool
  heard : Bool
  senderState : Option AgreementState
  founder : Option StationId
  strikes : Nat
  silent : Nat
  barred : Nat
deriving DecidableEq, Repr

/-- An ABSENT entry (2.3, R31). -/
def Peer.none : Peer := ⟨.absent, .none, .none, false, false, .none, .none, 0, 0, 0⟩

/-- The Agreement Unit (R15, R20, R37, 2.3). Entry i of `peers` is that of station id i + 1. -/
structure Agreement where
  state : AgreementState
  founder : Option StationId
  listenCount : Nat
  clampCount : Nat
  progress : Nat
  lonelyCount : Nat
  driftCount : Nat
  adjustCount : Byte
  lastAdjust : Adjustment
  timeFrame : TimeFrame
  peers : Vector Peer 24
deriving DecidableEq, Repr

/-- R42. -/
def Agreement.reset : Agreement :=
  ⟨.unset, none, 0, 0, 0, 0, 0, 0, .correction 0, .idle, Vector.replicate 24 Peer.none⟩

/-! ### Arm Unit (chapter 3) -/

/-- What asked for an arm (3.2). -/
inductive ArmSource where
  | input (i : Fin 8)
  | tap
deriving DecidableEq, Repr

/-- A record of the arm outbox (3.2). -/
structure ArmRecord where
  id : Byte
  tag : Byte
  action : LineTime
  source : ArmSource
  sends : Nat
  effective : Bool
  lastRound : Option Round
deriving DecidableEq, Repr

/-- A record of the cancel outbox (3.6). -/
structure CancelRecord where
  id : Byte
  sends : Nat
  lastRound : Option Round
deriving DecidableEq, Repr

/-- An arm of the in-flight list (3.4). -/
structure CarriedArm where
  id : Byte
  tag : Byte
  action : LineTime
  first : Bool
deriving DecidableEq, Repr

/-- A cancel of the in-flight list (R58). -/
structure CarriedCancel where
  id : Byte
  first : Bool
deriving DecidableEq, Repr

/-- The in-flight list with the round of the slot start (R50, R58). -/
inductive InFlight where
  | none
  | arms (round : Round) (carried : List CarriedArm)
  | cancels (round : Round) (carried : List CarriedCancel)
deriving DecidableEq, Repr

/-- The status of an arm history entry; a placeholder holds neither tag nor action time (3.7). -/
inductive HistoryStatus where
  | accepted (tag : Byte) (action : LineTime)
  | cancelled (tag : Byte) (action : LineTime)
  | placeholder
deriving DecidableEq, Repr

/-- An entry of the arm history (3.7). -/
structure HistoryEntry where
  id : Byte
  status : HistoryStatus
deriving DecidableEq, Repr

/-- The Arm Unit but for the binding table, which is `StationConfig.bindings`. Every list is oldest first; list i of
`history` is that of sender i + 1. -/
structure Arms where
  outbox : List ArmRecord
  cancels : List CancelRecord
  inFlight : InFlight
  history : Vector (List HistoryEntry) 24
  nextId : Byte
deriving DecidableEq, Repr

/-- R67. -/
def Arms.reset : Arms := ⟨[], [], .none, Vector.replicate 24 [], 0⟩

/-! ### Schedule and Output Stage (chapter 4) -/

/-- A schedule entry, and an insertion request (4.1, R44). -/
structure ScheduleEntry where
  due : LineTime
  output : Fin 8
  action : Action
  sender : StationId
  armId : Byte
  tag : Byte
  binding : Nat
deriving DecidableEq, Repr

/-- The condition of an output (4.7). -/
inductive OutputCondition where
  | undriven
  | safe
  | acting
deriving DecidableEq, Repr

/-- The state of one output (4.7); `level` is true while ACTIVE. -/
structure Output where
  condition : OutputCondition
  level : Bool
  pulseEnd : Option LineTime
  latchRound : Option Round
deriving DecidableEq, Repr

/-- R88. -/
def Output.reset : Output := ⟨.undriven, false, none, none⟩

/-! ### Capture Unit (chapter 5) -/

/-- The filter condition of an input, with the pending edge, its stamp, the hold count and the stepped mark while a
change is held (5.1). -/
inductive FilterCondition where
  | stable
  | pending (edge : Edge) (stamp : LineTime) (hold : Nat) (stepped : Bool)
deriving DecidableEq, Repr

/-- The filter of one input and its outstanding arm (5.1); levels are true for HIGH. -/
structure InputFilter where
  stable : Option Bool
  condition : FilterCondition
  outstanding : Option Byte
deriving DecidableEq, Repr

/-- R101. -/
def InputFilter.reset : InputFilter := ⟨none, .stable, none⟩

/-- A record of the event outbox (R96). -/
structure SharedEdge where
  channel : Fin 8
  edge : Edge
  sure : Bool
  tag : Byte
  stamp : LineTime
deriving DecidableEq, Repr

/-- The Capture Unit (chapter 5). -/
structure Capture where
  filters : Vector InputFilter 8
  outbox : List SharedEdge
  inFlight : Nat
deriving DecidableEq, Repr

/-- R101. -/
def Capture.reset : Capture := ⟨Vector.replicate 8 InputFilter.reset, [], 0⟩

/-! ### Event Store (chapter 6) -/

/-- The note codes (6.5). -/
inductive NoteCode where
  | acted
  | missed
  | evicted
  | scheduleFull
  | armLate
  | armFar
  | armForeign
  | armExpired
  | triggerBusy
  | triggerFull
  | triggerLead
  | triggerState
  | step
  | agreement
  | peerBarred
  | idClash
  | muted
  | restart
deriving DecidableEq, Repr

/-- What a record is: an edge with its channel and kind, or a note with its code and detail (6.1). -/
inductive RecordBody where
  | edge (channel : Fin 8) (edge : Edge)
  | note (code : NoteCode) (detail : Byte)
deriving DecidableEq, Repr

/-- An event record (6.1). GAP is never stored: it is added as the record is read out (R102, R111). -/
structure EventRecord where
  body : RecordBody
  origin : StationId
  sure : Bool
  tag : Byte
  stamp : LineTime
  late : Bool
  stepped : Bool
  unshared : Bool
deriving DecidableEq, Repr

/-- The gap state (R110). -/
inductive Gap where
  | clear
  | pending
  | offered
deriving DecidableEq, Repr

/-- The Event Store (chapter 6). The head of `settling` is its earliest record, that of `lane` the next to be read. -/
structure EventStore where
  settling : List EventRecord
  lane : List EventRecord
  mark : Option LineTime
  gap : Gap
deriving DecidableEq, Repr

/-- R115. -/
def EventStore.reset : EventStore := ⟨[], [], none, .clear⟩

/-! ### Framer (chapter 7) -/

/-- The four kinds of frame (R120). -/
inductive FrameKind where
  | time
  | event
  | arm
  | cancel
deriving DecidableEq, Repr

/-- The frame being taken (7.3): receive stamp, adjustment count kept with it, the bytes so far and the check computed
over them. -/
structure Taking where
  stamp : LineTime
  adjust : Byte
  bytes : List Byte
  check : BitVec 16
deriving DecidableEq, Repr

/-- The receiver (7.3). -/
inductive Receiver where
  | off
  | waitOpen
  | taking (frame : Taking)
  | skipping
deriving DecidableEq, Repr

/-- The symbol on LRX and the reference periods since it began (R118). A begun symbol holds the two noted values. -/
inductive LineSymbol where
  | none
  | begun (noted : LineTime) (adjust : Byte) (age : Nat)
  | confirmed (age : Nat)
  | recognised (age : Nat)
deriving DecidableEq, Repr

/-- What a receive buffer that is not FREE holds (7.5). -/
structure ReceivedFrame where
  kind : FrameKind
  sender : StationId
  body : List Byte
  stamp : LineTime
  adjust : Byte
deriving DecidableEq, Repr

/-- A receive buffer (7.5). -/
inductive Buffer where
  | free
  | full (frame : ReceivedFrame)
  | handling (frame : ReceivedFrame)
deriving DecidableEq, Repr

/-- The line counters, in the order of the table of 7.6. -/
inductive Counter where
  | stray
  | broken
  | quashed
  | short
  | length
  | check
  | sender
  | long
  | symbol
  | truncated
  | kind
  | malformed
  | overrun
  | idClash
  | collision
deriving DecidableEq, Repr

/-- Where the transmit symbol engine stands with its frame (R122, R138): it sends the frame, it is to send a QUASH after
the symbol in progress, or it sends the QUASH. -/
inductive EngineCourse where
  | frame
  | abandon
  | quash
deriving DecidableEq, Repr

/-- The frame the transmit symbol engine is sending (R122): its kind, the data symbols between OPEN and SHUT, the
transmit stamp, the index of the symbol on LTX (0 is the OPEN), the reference periods since that symbol began, whether
it has been read back well, the course, and whether a restart has left it without an owner (R138). -/
structure Engine where
  kind : FrameKind
  bytes : List Byte
  stamp : LineTime
  index : Nat
  age : Nat
  readWell : Bool
  course : EngineCourse
  orphan : Bool
deriving DecidableEq, Repr

/-- The Framer (chapter 7). The handler is busy exactly while a buffer is HANDLING (R133). `aFirst`: where both buffers
are FULL, the frame in A was taken first. `ripe`: the handling in progress has lasted a reference period. -/
structure Framer where
  receiver : Receiver
  startCount : Option Byte
  symbol : LineSymbol
  silence : Nat
  quietFound : Bool
  bufferA : Buffer
  bufferB : Buffer
  aFirst : Bool
  ripe : Bool
  counters : Vector (BitVec 16) 15
  engine : Option Engine
deriving DecidableEq, Repr

/-- R136 and R137; `silence`, `quietFound`, `aFirst` and `ripe` are the model's own (log 23). -/
def Framer.reset : Framer :=
  ⟨.off, none, .none, 0, false, .free, .free, false, false, Vector.replicate 15 0, none⟩

/-! ### Access Unit (chapter 8) -/

/-- The line monitor (8.1). -/
inductive Monitor where
  | busy
  | gap
  | window
deriving DecidableEq, Repr

/-- The transmitter (8.3). -/
inductive Transmitter where
  | off
  | idle
  | waiting
  | sending
  | quashing
  | muted
deriving DecidableEq, Repr

/-- The Access Unit (chapter 8). `slotTaken`: the start of the slot now running has been taken. `reportA`: the Arm Unit's
report of class A content, as it stands with the Access Unit (R49, R143). -/
structure Access where
  monitor : Monitor
  gapCount : Nat
  slotIndex : Nat
  slotCount : Nat
  slotTaken : Bool
  rotation : StationId
  tx : Transmitter
  yield : Bool
  collisions : Nat
  mute : Nat
  reportA : Bool
deriving DecidableEq, Repr

/-- R153; `slotTaken` is the model's own (log 23). -/
def Access.reset : Access := ⟨.busy, 0, 0, 0, false, 0, .off, false, 0, 0, false⟩

/-! ### Tap Port (chapter 9) -/

/-- The transaction states (R154). -/
inductive TapState where
  | idle
  | command
  | parameters
  | turnaround
  | response
  | done
deriving DecidableEq, Repr

/-- The ten commands of R155, and an unknown command byte. -/
inductive TapCommand where
  | readStatus
  | readCounters
  | readPeer
  | readSchedule
  | readOutbox
  | countEvents
  | readEvent
  | postTrigger
  | cancelTrigger
  | restart
  | unknown
deriving DecidableEq, Repr

/-- What the Event Store has given a READ EVENT in progress (R111, R162): nothing, nothing yet but the command was
accepted, an empty record, or the head of the release lane. -/
inductive EventRead where
  | none
  | awaited
  | empty
  | head
deriving DecidableEq, Repr

/-- The Tap Port (chapter 9): the transaction, the byte last clocked out on SDO, and the status-change latch with its
set-since-take mark. -/
structure Tap where
  state : TapState
  command : Option TapCommand
  params : List Byte
  response : List Byte
  sdo : Byte
  eventRead : EventRead
  restartTaken : Bool
  latch : Bool
  setSinceTake : Bool
deriving DecidableEq, Repr

/-- R167; the fields of a transaction that is not in progress are empty (log 23). -/
def Tap.reset : Tap := ⟨.idle, none, [], [], 0, .none, false, true, true⟩

/-! ### Loader (chapter 10) -/

/-- Loader states (10.2). -/
inductive LoaderState where
  | loading
  | loaded
  | fault
deriving DecidableEq, Repr

/-- Fault codes (10.2). -/
inductive FaultCode where
  | none
  | noMemory
  | badMarker
  | badLength
  | badCheck
  | badValue
  | badBinding
deriving DecidableEq, Repr

/-- The read of the configuration memory in progress (R169): none, the head read, or the body read with the bytes of the
head. -/
inductive LoaderRead where
  | none
  | head
  | body (head : List Byte)
deriving DecidableEq, Repr

/-- What stands on CSCL and CSDA in one part of a read (R169, R177): a recovery clock of CSCL, a stop, a start, the bus address with
the direction of the transfer, a byte of the offset, or a data byte. `ack` is the acknowledgement that ends the byte: the memory's
after an address or offset byte, the Loader's after a data byte. -/
inductive BusEvent where
  | clock
  | stop
  | start
  | address (memory : BitVec 7) (read ack : Bool)
  | offset (byte : Byte) (ack : Bool)
  | data (byte : Byte) (ack : Bool)
deriving DecidableEq, Repr

/-- The Loader (10.2). `bus`: what has stood on CSCL and CSDA, in order, in the reads of this load that have ended. -/
structure Loader where
  state : LoaderState
  fault : FaultCode
  retry : Nat
  read : LoaderRead
  bus : List BusEvent
deriving DecidableEq, Repr

/-- R168: a load is begun with the head read. -/
def Loader.begin : Loader := ⟨.loading, .none, 0, .head, []⟩

/-- R168, R176: while RESET is asserted the load has not begun. -/
def Loader.held : Loader := ⟨.loading, .none, 0, .none, []⟩

/-! ### The station -/

/-- The station. `inPins` are the levels of IN0 to IN7 (bit i is INi, 1 is high), `sampled` the inputs sampled in the
reference period now running, `resetHeld` whether the RESET pin is asserted or the power-on reset lasts, `lateHandling`
whether a reference period has just been ended that brought a close or a boundary while a handling could end in it, so that the end
of that handling, commanded next, may still belong to that period (R1, R9, R25, log 5), `freeIndex` how many free values have
been used, `pending` the commands that wait, first in, first out. -/
structure State where
  clock : LineClock
  agreement : Agreement
  arms : Arms
  schedule : List ScheduleEntry
  outputs : Vector Output 8
  capture : Capture
  store : EventStore
  framer : Framer
  access : Access
  tap : Tap
  loader : Loader
  config : StationConfig
  inPins : BitVec 8
  sampled : BitVec 8
  resetHeld : Bool
  lateHandling : Bool
  freeIndex : Nat
  pending : List Instr
deriving DecidableEq, Repr

namespace State

/-- The station right after a full reset has been released: every block at its full-reset values, the load begun with
the head read (R13, R42, R67, R77, R88, R101, R115, R136, R153, R167, R168, R176). DESIGN CHOICE (log 14, 17), unsafe:
the input pins are low, and the reset is not held. -/
def reset : State where
  clock := .reset
  agreement := .reset
  arms := .reset
  schedule := []
  outputs := Vector.replicate 8 Output.reset
  capture := .reset
  store := .reset
  framer := .reset
  access := .reset
  tap := .reset
  loader := .begin
  config := .empty
  inPins := 0
  sampled := 0
  resetHeld := false
  lateHandling := false
  freeIndex := 0
  pending := []

/-! #### Setters: one field each. Their lemmas stand in Sys2Proof/Laws/State.lean. -/

/-- `s` with its `clock` set. -/
def setClock (s : State) (x : LineClock) : State := { s with clock := x }

/-- `s` with its `agreement` set. -/
def setAgreement (s : State) (x : Agreement) : State := { s with agreement := x }

/-- `s` with its `arms` set. -/
def setArms (s : State) (x : Arms) : State := { s with arms := x }

/-- `s` with its `schedule` set. -/
def setSchedule (s : State) (x : List ScheduleEntry) : State := { s with schedule := x }

/-- `s` with its `outputs` set. -/
def setOutputs (s : State) (x : Vector Output 8) : State := { s with outputs := x }

/-- `s` with its `capture` set. -/
def setCapture (s : State) (x : Capture) : State := { s with capture := x }

/-- `s` with its `store` set. -/
def setStore (s : State) (x : EventStore) : State := { s with store := x }

/-- `s` with its `framer` set. -/
def setFramer (s : State) (x : Framer) : State := { s with framer := x }

/-- `s` with its `access` set. -/
def setAccess (s : State) (x : Access) : State := { s with access := x }

/-- `s` with its `tap` set. -/
def setTap (s : State) (x : Tap) : State := { s with tap := x }

/-- `s` with its `loader` set. -/
def setLoader (s : State) (x : Loader) : State := { s with loader := x }

/-- `s` with its `config` set. -/
def setConfig (s : State) (x : StationConfig) : State := { s with config := x }

/-- `s` with its `inPins` set. -/
def setInPins (s : State) (x : BitVec 8) : State := { s with inPins := x }

/-- `s` with its `sampled` set. -/
def setSampled (s : State) (x : BitVec 8) : State := { s with sampled := x }

/-- `s` with its `resetHeld` set. -/
def setResetHeld (s : State) (x : Bool) : State := { s with resetHeld := x }

/-- `s` with its `lateHandling` set. -/
def setLateHandling (s : State) (x : Bool) : State := { s with lateHandling := x }

/-- `s` with its `freeIndex` set. -/
def setFreeIndex (s : State) (x : Nat) : State := { s with freeIndex := x }

/-- `s` with its `pending` set. -/
def setPending (s : State) (x : List Instr) : State := { s with pending := x }

end State

end Sys2Proof.Machine
end

