-- ==== Sys2Proof/Machine/Time.lean ====
section
/-! DEFINITION. Time arithmetic (1.4): every comparison and addition of line times in the model is made here. The round
length L is a parameter. -/

namespace Sys2Proof.Machine

/-- The difference from `a` to `b` in ticks (R6). The round difference of 24 bits, read as a signed number, lies in the
range -8,388,608 to +8,388,607. -/
def timeDiff (len : Nat) (a b : LineTime) : Int :=
  (b.round - a.round).toInt * len + ((b.phase : Int) - a.phase)

/-- `t` plus a signed number of ticks (R7). -/
def timeAdd (len : Nat) (t : LineTime) (n : Int) : LineTime :=
  ⟨t.round + BitVec.ofInt 24 ((t.phase + n) / len), ((t.phase + n) % len).toNat⟩

/-- `t` plus `k` whole rounds (R7). -/
def timeAddRounds (t : LineTime) (k : Nat) : LineTime := ⟨t.round + BitVec.ofNat 24 k, t.phase⟩

/-- `a` is earlier than `b` (R6): the difference from `b` to `a` is negative. -/
def earlier (len : Nat) (a b : LineTime) : Bool := timeDiff len b a < 0

/-- `a` is later than `b` (R6): the difference from `b` to `a` is positive. -/
def later (len : Nat) (a b : LineTime) : Bool := 0 < timeDiff len b a

/-- The line time `t` is reached at `now`: now is not earlier than it (R6). -/
def reached (len : Nat) (now t : LineTime) : Bool := !earlier len now t

/-- The line time `t` is passed at `now`: now is later than it (R6). -/
def passed (len : Nat) (now t : LineTime) : Bool := later len now t

/-- A line time formed from a carried round and phase, the phase added to phase 0 of the round (R134, R22). -/
def carriedTime (len : Nat) (round phase : Nat) : LineTime := timeAdd len ⟨BitVec.ofNat 24 round, 0⟩ phase

namespace State

/-- The round length L taken from the image (R14). -/
def len (s : State) : Nat := s.config.roundLength

/-- The line time read now (R1). -/
def now (s : State) : LineTime := s.clock.now

/-- The line time that the Event Store goes by: its reaction to an adoption step is made as the step is handed over (R109),
so from then on it stands on the new timeline, while now is the old line time to the end of the period (R9). The checks on a request
from an input go by it too: they judge the request of an edge accepted after the step by the adopted time (R95). -/
def storeNow (s : State) : LineTime := s.clock.handed.getD s.clock.now

/-- `f` of the station with the clock reading `t` and the Event Store going by `store`; the clock itself is left as it was. -/
def atReadings (s : State) (t store : LineTime) (f : State → State) : State :=
  (f (s.setClock { s.clock with now := t, handed := some store })).setClock s.clock

/-- `f` of the station with the clock reading `t`; the clock itself is left as it was, and the Event Store goes by the line
time it went by: after a hand-over the new line time (R109, log 5). -/
def atReading (s : State) (t : LineTime) (f : State → State) : State := s.atReadings t s.storeNow f

/-- The agreement state is one of the acting states ALONE, GATHERING and LOCKED (00_scope.md, Terms). -/
def acting (s : State) : Bool :=
  s.agreement.state == .alone || s.agreement.state == .gathering || s.agreement.state == .locked

end State

end Sys2Proof.Machine
end

