-- ==== Sys2Proof/Machine/Operands.lean ====
section
/-! DEFINITION. The byte and bit layouts of chapter 11: fields, symbols, frames, tap parameters and responses, event
records and the configuration image; and the check of R121. -/

namespace Sys2Proof.Machine

/-! ### Fields (R177) -/

/-- `k` bytes of `n`, least significant byte first (R177). -/
def leBytes : Nat → Nat → List Byte
  | 0, _ => []
  | k + 1, n => BitVec.ofNat 8 n :: leBytes k (n / 256)

/-- The number carried by bytes, least significant byte first (R177). -/
def leValue : List Byte → Nat
  | [] => 0
  | b :: bs => b.toNat + 256 * leValue bs

/-- `k` bytes of a signed number in two's complement (R177). -/
def leBytesSigned (k : Nat) (i : Int) : List Byte := leBytes k (i % (256 ^ k : Nat)).toNat

/-- The signed number carried by `k` bytes in two's complement (R177). -/
def leSigned (k : Nat) (bs : List Byte) : Int :=
  let v := leValue bs
  if 2 * v < 256 ^ k then v else (v : Int) - (256 ^ k : Nat)

/-- The field of `k` bytes at `offset` of `bs`. -/
def fieldAt (bs : List Byte) (offset k : Nat) : List Byte := (bs.drop offset).take k

/-- The byte at `offset` of `bs`. -/
def byteAt (bs : List Byte) (offset : Nat) : Byte := bs.getD offset 0

/-- The number in the field of `k` bytes at `offset`. -/
def numAt (bs : List Byte) (offset k : Nat) : Nat := leValue (fieldAt bs offset k)

/-- A line time as a round field and a phase field of 3 bytes each (R177). -/
def timeBytes (t : LineTime) : List Byte := leBytes 3 t.round.toNat ++ leBytes 3 t.phase

/-- An absent field is carried as 0 (R177). -/
def absentAsZero (o : Option Byte) : Byte := o.getD 0

/-- A flag as a bit. -/
def bit (b : Bool) (i : Nat) : Nat := if b then 2 ^ i else 0

/-! ### Codes (2.1, 6.5, 11.1) -/

/-- The codes of the state table of 2.1. -/
def AgreementState.code : AgreementState → Nat
  | .unset => 0
  | .listening => 1
  | .alone => 2
  | .gathering => 3
  | .locked => 4
  | .adrift => 5

/-- The sender state of a TIME frame: 2 to 5 (R19). -/
def senderStateOf (b : Byte) : Option AgreementState :=
  match b.toNat with
  | 2 => some .alone
  | 3 => some .gathering
  | 4 => some .locked
  | 5 => some .adrift
  | _ => none

/-- Peer entry states (11.1). -/
def PeerState.code : PeerState → Nat
  | .absent => 0
  | .live => 1
  | .barred => 2

/-- Transmitter states (11.1). -/
def Transmitter.code : Transmitter → Nat
  | .off => 0
  | .idle => 1
  | .waiting => 2
  | .sending => 3
  | .quashing => 4
  | .muted => 5

/-- Loader states (11.1). -/
def LoaderState.code : LoaderState → Nat
  | .loading => 0
  | .loaded => 1
  | .fault => 2

/-- Fault codes (11.1). -/
def FaultCode.code : FaultCode → Nat
  | .none => 0
  | .noMemory => 1
  | .badMarker => 2
  | .badLength => 3
  | .badCheck => 4
  | .badValue => 5
  | .badBinding => 6

/-- Actions (11.1). -/
def actionCode : Action → Nat
  | .set => 1
  | .clear => 2
  | .toggle => 3
  | .fire => 4

/-- The action a code names (11.1). -/
def actionOf (b : Byte) : Option Action :=
  match b.toNat with
  | 1 => some .set
  | 2 => some .clear
  | 3 => some .toggle
  | 4 => some .fire
  | _ => none

/-- Output modes (11.1). -/
def outputModeOf (b : Byte) : Option OutputMode :=
  match b.toNat with
  | 0 => some .off
  | 1 => some .level
  | 2 => some .pulse
  | 3 => some .round
  | _ => none

/-- Edge selections (11.1). -/
def edgeSelectionOf (b : Byte) : Option EdgeSelection :=
  match b.toNat with
  | 0 => some .off
  | 1 => some .rise
  | 2 => some .fall
  | 3 => some .both
  | _ => none

/-- Trigger edges (11.1). -/
def triggerEdgesOf (b : Byte) : Option TriggerEdges :=
  match b.toNat with
  | 1 => some .rise
  | 2 => some .fall
  | 3 => some .both
  | _ => none

/-- Arm sources (11.1). -/
def ArmSource.code : ArmSource → Nat
  | .input i => i.val
  | .tap => 8

/-- Frame kinds (R120). -/
def FrameKind.code : FrameKind → Byte
  | .time => 1
  | .event => 2
  | .arm => 3
  | .cancel => 4

/-- The frame kind of a kind byte; none for 0 and 5 to 255 (R131). -/
def frameKindOf (b : Byte) : Option FrameKind :=
  match b.toNat with
  | 1 => some .time
  | 2 => some .event
  | 3 => some .arm
  | 4 => some .cancel
  | _ => none

/-- Note codes (6.5). -/
def NoteCode.code : NoteCode → Nat
  | .acted => 1
  | .missed => 2
  | .evicted => 3
  | .scheduleFull => 4
  | .armLate => 5
  | .armFar => 6
  | .armForeign => 7
  | .armExpired => 8
  | .triggerBusy => 9
  | .triggerFull => 10
  | .triggerLead => 11
  | .triggerState => 12
  | .step => 13
  | .agreement => 14
  | .peerBarred => 15
  | .idClash => 16
  | .muted => 17
  | .restart => 18

/-- Result codes (11.4). -/
inductive ResultCode where
  | accepted
  | refusedState
  | refusedLead
  | refusedReach
  | refusedFull
  | refusedTag
  | unknown
  | notReady
  | badCommand
  | badParameter
deriving DecidableEq, Repr

/-- The values of the result codes (11.4). -/
def ResultCode.byte : ResultCode → Byte
  | .accepted => 0
  | .refusedState => 1
  | .refusedLead => 2
  | .refusedReach => 3
  | .refusedFull => 4
  | .refusedTag => 5
  | .unknown => 6
  | .notReady => 7
  | .badCommand => 8
  | .badParameter => 9

/-- The command a command byte names (11.4). -/
def tapCommandOf (b : Byte) : TapCommand :=
  match b.toNat with
  | 1 => .readStatus
  | 2 => .readCounters
  | 3 => .readPeer
  | 4 => .readSchedule
  | 5 => .readOutbox
  | 6 => .countEvents
  | 7 => .readEvent
  | 16 => .postTrigger
  | 17 => .cancelTrigger
  | 32 => .restart
  | _ => .unknown

/-- Parameter bytes of each command (R155); an unknown command byte is taken as a command with none. -/
def TapCommand.paramCount : TapCommand → Nat
  | .readStatus | .countEvents | .readEvent | .restart | .unknown => 0
  | .readCounters | .readPeer | .readSchedule | .readOutbox | .cancelTrigger => 1
  | .postTrigger => 8

/-! ### Symbols (7.1, 11.2) -/

/-- The symbols the station drives (R117). -/
inductive DrivenSymbol where
  | opening
  | data (byte : Byte)
  | shut
  | quash
deriving DecidableEq, Repr

/-- The content of a symbol (11.2). -/
def DrivenSymbol.content : DrivenSymbol → Byte
  | .opening => 0x96
  | .data byte => byte
  | .shut => 0xA5
  | .quash => 0xC3

/-- The kind bit of a symbol: 1 for a data symbol, 0 for a control symbol (R117). -/
def DrivenSymbol.kindBit : DrivenSymbol → Bool
  | .data _ => true
  | _ => false

/-- The ten bits of a symbol in the order they are driven, bit 0 first: start bit low, content bits 0 to 7, kind bit
(R117, 11.2). -/
def DrivenSymbol.bits (y : DrivenSymbol) : BitVec 10 :=
  BitVec.ofNat 10 (2 * y.content.toNat + bit y.kindBit 9)

/-! ### The check (R121) -/

/-- One bit of the check computation (R121): compare with stage 15, move every stage up, and where they differ invert
stages 0, 2 and 15. -/
def checkBit (r : BitVec 16) (b : Bool) : BitVec 16 :=
  let moved := r <<< 1
  if b != r.getLsbD 15 then moved ^^^ 0x8005 else moved

/-- One byte of the check computation, least significant bit first (R121). -/
def checkByte (r : BitVec 16) (b : Byte) : BitVec 16 :=
  (List.range 8).foldl (fun r i => checkBit r (b.getLsbD i)) r

/-- The register with every stage at 1 (R121). -/
def checkStart : BitVec 16 := 0xFFFF

/-- The check of a run of bytes (R121). -/
def checkOf (bs : List Byte) : BitVec 16 := bs.foldl checkByte checkStart

/-- The two check bytes: stages 0 to 7, then stages 8 to 15 (R121). -/
def checkBytes (r : BitVec 16) : List Byte := leBytes 2 r.toNat

/-! ### Frames (7.2, 11.3) -/

/-- The data symbols of a frame: header, body and check (R120, R121). -/
def frameBytes (kind : FrameKind) (own : StationId) (body : List Byte) : List Byte :=
  let covered := kind.code :: own :: BitVec.ofNat 8 body.length :: body
  covered ++ checkBytes (checkOf covered)

/-- The channel byte of an EVENT entry or event record (R178). -/
def channelByte (channel : Fin 8) (edge : Edge) (sure : Bool) : Byte :=
  BitVec.ofNat 8 (channel.val + bit (edge == .fall) 3 + bit (!sure) 4)

/-- The channel of a channel byte (R178). -/
def channelOf (b : Byte) : Fin 8 := Fin.ofNat 8 (b.toNat % 8)

/-- The edge of a channel byte (R178). -/
def edgeOf (b : Byte) : Edge := if b.getLsbD 3 then .fall else .rise

/-- Whether a channel byte carries SURE (R178). -/
def sureOf (b : Byte) : Bool := !b.getLsbD 4

/-- The body of a TIME frame (R40, 11.3). -/
def timeBody (state : AgreementState) (founder : StationId) (stamp : LineTime) : List Byte :=
  BitVec.ofNat 8 state.code :: founder :: timeBytes stamp

/-- One entry of an EVENT frame (11.3). -/
def eventEntry (e : SharedEdge) : List Byte :=
  channelByte e.channel e.edge e.sure :: e.tag :: timeBytes e.stamp

/-- The body of an EVENT frame (11.3). -/
def eventBody (es : List SharedEdge) : List Byte :=
  BitVec.ofNat 8 es.length :: es.flatMap eventEntry

/-- One entry of an ARM frame: the phase in the low 21 bits of its field, the spare sent as 0 (11.3). -/
def armEntry (r : ArmRecord) : List Byte :=
  r.id :: r.tag :: (leBytes 3 r.action.round.toNat ++ leBytes 3 (r.action.phase % 2 ^ 21))

/-- The body of an ARM frame (11.3). -/
def armBody (rs : List ArmRecord) : List Byte := BitVec.ofNat 8 rs.length :: rs.flatMap armEntry

/-- The body of a CANCEL frame (11.3). -/
def cancelBody (rs : List CancelRecord) : List Byte := BitVec.ofNat 8 rs.length :: rs.map (·.id)

/-- The first `n` entries of 8 bytes of a run of bytes. -/
def entries8 : Nat → List Byte → List (List Byte)
  | 0, _ => []
  | n + 1, bs => bs.take 8 :: entries8 n (bs.drop 8)

/-- The entries of a received EVENT body (R107, R134). -/
def eventEntries (len : Nat) (body : List Byte) : List SharedEdge :=
  (entries8 (byteAt body 0).toNat (body.drop 1)).map fun e =>
    { channel := channelOf (byteAt e 0), edge := edgeOf (byteAt e 0), sure := sureOf (byteAt e 0), tag := byteAt e 1,
      stamp := carriedTime len (numAt e 2 3) (numAt e 5 3) }

/-- One arm of a received ARM body. -/
structure ReceivedArm where
  id : Byte
  tag : Byte
  action : LineTime
deriving DecidableEq, Repr

/-- The arms of a received ARM body; the spare bits of the phase field are not read (R62, R134, 11.3). -/
def armEntries (len : Nat) (body : List Byte) : List ReceivedArm :=
  (entries8 (byteAt body 0).toNat (body.drop 1)).map fun e =>
    { id := byteAt e 0, tag := byteAt e 1, action := carriedTime len (numAt e 2 3) (numAt e 5 3 % 2 ^ 21) }

/-- The arm ids of a received CANCEL body (R134). -/
def cancelIds (body : List Byte) : List Byte := (body.drop 1).take (byteAt body 0).toNat

/-- Whether the body is well formed for its kind (R131). -/
def bodyWellFormed (kind : FrameKind) (body : List Byte) : Bool :=
  let n := (byteAt body 0).toNat
  match kind with
  | .time => body.length == 8 && (senderStateOf (byteAt body 0)).isSome && validStationId (byteAt body 1)
  | .event => 1 ≤ body.length && 1 ≤ n && n ≤ 5 && body.length == 1 + 8 * n
  | .arm =>
    1 ≤ body.length && 1 ≤ n && n ≤ 4 && body.length == 1 + 8 * n
      && (entries8 n (body.drop 1)).all fun e => byteAt e 1 != 0
  | .cancel => 1 ≤ body.length && 1 ≤ n && n ≤ 8 && body.length == 1 + n

/-! ### Event records and tap responses (11.4, 11.5) -/

/-- The bytes of an event record at offsets 1 to 13 of the response, with GAP where it is added (11.5, R178). -/
def recordBytes (r : EventRecord) (gap : Bool) : List Byte :=
  let flags := BitVec.ofNat 8 (bit r.late 0 + bit gap 1 + bit r.stepped 2 + bit r.unshared 3)
  match r.body with
  | .edge channel edge =>
    [1, r.origin, channelByte channel edge r.sure, r.tag, 0, 0] ++ timeBytes r.stamp ++ [flags]
  | .note code detail =>
    [2, r.origin, BitVec.ofNat 8 (bit (!r.sure) 4), r.tag, BitVec.ofNat 8 code.code, detail] ++ timeBytes r.stamp
      ++ [flags]

/-- The bytes of an empty record: all 0, but for GAP where it is added (R111, 11.5). -/
def emptyRecordBytes (gap : Bool) : List Byte := List.replicate 12 0 ++ [BitVec.ofNat 8 (bit gap 1)]

/-- The bytes of a peer table entry (11.4). Bit 3 of the flags, for which R178 states no meaning, is 0: DESIGN CHOICE (log 34),
unsafe. -/
def peerBytes (p : Peer) : List Byte :=
  [BitVec.ofNat 8 p.state.code, BitVec.ofNat 8 (bit p.fresh 0 + bit p.heard 1 + bit p.offset.isSome 2)]
    ++ leBytesSigned 6 (p.offset.getD 0) ++ leBytes 3 (p.offsetRound.getD 0).toNat
    ++ [BitVec.ofNat 8 ((p.senderState.map (·.code)).getD 0), absentAsZero p.founder, BitVec.ofNat 8 p.strikes,
      BitVec.ofNat 8 p.silent, BitVec.ofNat 8 p.barred]

/-- The bytes of a schedule entry (11.4). -/
def scheduleBytes (e : ScheduleEntry) : List Byte :=
  timeBytes e.due ++ [BitVec.ofNat 8 e.output.val, BitVec.ofNat 8 (actionCode e.action), e.sender, e.armId, e.tag,
    BitVec.ofNat 8 e.binding]

/-- The bytes of an arm outbox record (11.4). Bits 2 and 3 of the flags, for which R178 states no meaning, are 0: DESIGN CHOICE
(log 34), unsafe. -/
def armRecordBytes (r : ArmRecord) : List Byte :=
  [r.id, r.tag] ++ timeBytes r.action ++ [BitVec.ofNat 8 r.source.code, BitVec.ofNat 8 r.sends,
    BitVec.ofNat 8 (bit r.effective 0 + bit r.lastRound.isSome 1)] ++ leBytes 3 (r.lastRound.getD 0).toNat

/-! ### The configuration image (11.6) -/

/-- The length of an image of `k` bindings (R170, 11.6). -/
def imageLength (k : Nat) : Nat := 139 + 6 * k

/-- The head's length is that of the fixed part and 0 to 48 bindings (R170). -/
def lengthValid (n : Nat) : Bool := 139 ≤ n && n ≤ 427 && (n - 139) % 6 == 0

/-- The number of bindings of an image of `n` bytes (R170). -/
def bindingCount (n : Nat) : Nat := (n - 139) / 6

/-- The entry of input `i` (11.6). -/
def inputOf (image : List Byte) (i : Nat) : InputConfig :=
  let at0 := 17 + 10 * i
  { selection := (edgeSelectionOf (byteAt image at0)).getD .off
    hold := numAt image (at0 + 1) 2
    share := (byteAt image (at0 + 3)).getLsbD 0
    tag := byteAt image (at0 + 4)
    triggerEdges := (triggerEdgesOf (byteAt image (at0 + 5))).getD .rise
    lead := numAt image (at0 + 6) 4 }

/-- The entry of output `i` (11.6, R178). -/
def outputOf (image : List Byte) (i : Nat) : OutputConfig :=
  let at0 := 97 + 5 * i
  { mode := (outputModeOf (byteAt image at0)).getD .off
    activeLow := (byteAt image (at0 + 1)).getLsbD 0
    safeActive := (byteAt image (at0 + 1)).getLsbD 1
    log := (byteAt image (at0 + 1)).getLsbD 2
    width := numAt image (at0 + 2) 3 }

/-- The entry of binding `b` (11.6). -/
def bindingOf (image : List Byte) (b : Nat) : Binding :=
  let at0 := 137 + 6 * b
  { tag := byteAt image at0
    output := Fin.ofNat 8 (byteAt image (at0 + 1)).toNat
    action := (actionOf (byteAt image (at0 + 2))).getD .set
    offset := leSigned 3 (fieldAt image (at0 + 3) 3) }

/-- The values of an image (11.6). -/
def configOf (image : List Byte) : StationConfig where
  id := byteAt image 4
  roundLength := numAt image 5 3
  stepLimit := numAt image 8 2
  lineDelay := numAt image 10 1
  margin := numAt image 11 3
  sendCount := numAt image 14 1
  horizon := numAt image 15 1
  attention := (byteAt image 16).getLsbD 0
  inputs := Vector.ofFn fun i => inputOf image i
  outputs := Vector.ofFn fun i => outputOf image i
  bindings := (List.range (bindingCount image.length)).map (bindingOf image)

/-- The station-wide values in range (R172, 10.1). -/
def stationValuesValid (c : StationConfig) : Bool :=
  validStationId c.id && 20000 ≤ c.roundLength && c.roundLength ≤ 2000000 && c.roundLength % 100 == 0
    && 10 ≤ c.stepLimit && c.stepLimit ≤ 500 && 2000 ≤ c.margin && c.margin ≤ 100000
    && 1 ≤ c.sendCount && c.sendCount ≤ 3 && 1 ≤ c.horizon && c.horizon ≤ 8

/-- The values of input `i` in range; the trigger edges are not tested where the tag is 0 (R172). -/
def inputValuesValid (image : List Byte) (i : Nat) : Bool :=
  let at0 := 17 + 10 * i
  (edgeSelectionOf (byteAt image at0)).isSome
    && (byteAt image (at0 + 4) == 0 || (triggerEdgesOf (byteAt image (at0 + 5))).isSome)

/-- The values of output `i` in range; the pulse width is tested only in PULSE mode (R172). -/
def outputValuesValid (image : List Byte) (i : Nat) : Bool :=
  let at0 := 97 + 5 * i
  match outputModeOf (byteAt image at0) with
  | none => false
  | some .pulse => 1 ≤ numAt image (at0 + 2) 3 && numAt image (at0 + 2) 3 ≤ 1000000
  | some _ => true

/-- The values of binding `b` in range (R172). -/
def bindingValuesValid (image : List Byte) (b : Nat) : Bool :=
  let at0 := 137 + 6 * b
  let offset := leSigned 3 (fieldAt image (at0 + 3) 3)
  byteAt image at0 != 0 && (byteAt image (at0 + 1)).toNat < 8 && (actionOf (byteAt image (at0 + 2))).isSome
    && -65535 ≤ offset && offset ≤ 65535

/-- Every value of the image is in range (R172). -/
def valuesValid (image : List Byte) : Bool :=
  stationValuesValid (configOf image) && (List.range 8).all (inputValuesValid image)
    && (List.range 8).all (outputValuesValid image)
    && (List.range (bindingCount image.length)).all (bindingValuesValid image)

/-- The actions an output mode accepts (3.1). -/
def modeAccepts : OutputMode → Action → Bool
  | .level, .set | .level, .clear | .level, .toggle => true
  | .pulse, .fire => true
  | .round, .set => true
  | _, _ => false

/-- The binding check of R173: every action suits its output's mode, and no two bindings are equal. -/
def bindingsValid (c : StationConfig) : Bool :=
  (c.bindings.all fun b => modeAccepts (c.outputs[b.output]).mode b.action) && decide c.bindings.Nodup

/-- The edge kinds a selection admits (5.1). -/
def selectionAdmits : EdgeSelection → Edge → Bool
  | .rise, .rise | .fall, .fall | .both, _ => true
  | _, _ => false

/-- The edge kinds among an input's trigger edges (5.1). -/
def triggerIncludes : TriggerEdges → Edge → Bool
  | .rise, .rise | .fall, .fall | .both, _ => true
  | _, _ => false

/-- The trigger check of R173 for one input whose trigger tag is not 0. -/
def triggerValid (c : StationConfig) (i : InputConfig) : Bool :=
  i.tag == 0
    || ((!triggerIncludes i.triggerEdges .rise || selectionAdmits i.selection .rise)
      && (!triggerIncludes i.triggerEdges .fall || selectionAdmits i.selection .fall)
      && c.margin ≤ i.lead && i.lead ≤ 250 * c.roundLength)

/-- The trigger check of R173. -/
def triggersValid (c : StationConfig) : Bool := c.inputs.toList.all (triggerValid c)

/-- The checks that follow the body read, in their order; the code of the first that fails (R171 to R173). -/
def imageFault (image : List Byte) : FaultCode :=
  let covered := image.take (image.length - 2)
  if checkBytes (checkOf covered) ≠ image.drop (image.length - 2) then .badCheck
  else if !valuesValid image then .badValue
  else if !bindingsValid (configOf image) then .badBinding
  else if !triggersValid (configOf image) then .badValue
  else .none

end Sys2Proof.Machine
end

