-- ==== Sys2Proof/Machine/Flags.lean ====
section
/-! DEFINITION. The station's flags and counters that report: the line counters (7.6), the status-change latch (R159),
and the pins that are functions of the state: ATN, the output pins, LTX, LDE and SDO. -/

namespace Sys2Proof.Machine

/-! ### Line counters (R135) -/

/-- The place of a counter in the table of 7.6. -/
def Counter.index : Counter → Fin 15
  | .stray => 0
  | .broken => 1
  | .quashed => 2
  | .short => 3
  | .length => 4
  | .check => 5
  | .sender => 6
  | .long => 7
  | .symbol => 8
  | .truncated => 9
  | .kind => 10
  | .malformed => 11
  | .overrun => 12
  | .idClash => 13
  | .collision => 14

/-- Counting raises a counter by 1, and leaves 65,535 as it is (R135). -/
def countUp (n : BitVec 16) : BitVec 16 := if n = 0xFFFF then n else n + 1

namespace State

/-- The counter's value. -/
def counter (s : State) (c : Counter) : BitVec 16 := s.framer.counters[c.index]

/-- Count under `c` (R135). -/
def countAlways (s : State) (c : Counter) : State :=
  s.setFramer { s.framer with counters := s.framer.counters.set c.index.val (countUp (s.counter c)) }

/-- The transmitter is SENDING or QUASHING (R128). -/
def transmitting (s : State) : Bool := s.access.tx == .sending || s.access.tx == .quashing

/-- The receiver counts nothing while the transmitter is SENDING or QUASHING (R128, R135). -/
def count (s : State) (c : Counter) : State := if s.transmitting then s else s.countAlways c

/-! ### The status-change latch (R159) -/

/-- The latch is set, and with it the set-since-take mark (R159). -/
def setLatch (s : State) : State := s.setTap { s.tap with latch := true, setSinceTake := true }

/-! ### Pins -/

/-- ATN is asserted (driven low) while the latch is SET, or while attention-on-release is configured and the release
lane is not empty (R166). -/
def atn (s : State) : Bool := s.tap.latch || (s.config.attention && !s.store.lane.isEmpty)

end State

/-- How an output pin is driven (R78): released, or driven high or low. -/
inductive PinDrive where
  | released
  | driven (high : Bool)
deriving DecidableEq, Repr

/-- The pin of an output (R78). -/
def Output.pin (c : OutputConfig) (o : Output) : PinDrive :=
  match o.condition with
  | .undriven => .released
  | .safe => .driven (c.safeActive != c.activeLow)
  | .acting => .driven (o.level != c.activeLow)

/-- The symbol on LTX: the QUASH, or the symbol of the frame at the engine's index (R117, R122). -/
def Engine.symbol (e : Engine) : DrivenSymbol :=
  if e.course = .quash then .quash
  else if e.index = 0 then .opening
  else if e.index ≤ e.bytes.length then .data (e.bytes.getD (e.index - 1) 0)
  else .shut

/-- The engine is at the SHUT of its frame. -/
def Engine.atShut (e : Engine) : Bool := e.course ≠ .quash && e.bytes.length < e.index

namespace State

/-- The output pin OUT`i` (R78). -/
def outPin (s : State) (i : Fin 8) : PinDrive := Output.pin (s.config.outputs[i]) (s.outputs[i])

/-- LTX: the bit of the symbol being driven, each held for 4 reference periods (R117), and high while LDE is released. The latter is
a DESIGN CHOICE (log 36), unsafe: R117 says that a line which no station drives rests high, and nothing of the pin LTX then. -/
def ltx (s : State) : Bool :=
  match s.framer.engine with
  | none => true
  | some e => if e.age < Config.symbolTime then e.symbol.bits.getLsbD (e.age / 4) else true

/-- LDE is enabled from the OPEN's start bit to the end of the last kind bit (R122). -/
def lde (s : State) : Bool :=
  match s.framer.engine with
  | none => false
  | some e => e.age < Config.symbolTime

/-- The Loader releases CSCL and CSDA: no read of the configuration memory is in progress (R168, R176). -/
def busReleased (s : State) : Bool := s.loader.read == .none

/-- SDO is driven only while SCS is low (R154); the byte last clocked out. -/
def sdoPin (s : State) : Option Byte := if s.tap.state = .idle then none else some s.tap.sdo

end State

end Sys2Proof.Machine
end

