-- ==== Sys2Proof/Machine/Ops.lean ====
section
/-! DEFINITION. The named operations that several commands share: the Event Store's taking and settling of records and
its notes (chapter 6), the Output Stage's actions (4.8) and the Schedule's insertion, looks and removals (4.2 to 4.5). -/

namespace Sys2Proof.Machine

/-- A station id's place in a table of 24 entries. Ids that reach a table are 1 to 24 (R126, R155); others wrap (log 29). -/
def stationIx (id : StationId) : Fin 24 := Fin.ofNat 24 (id.toNat + 23)

/-! ### Event Store (chapter 6) -/

/-- Records held in both collections (R102). -/
def EventStore.total (st : EventStore) : Nat := st.settling.length + st.lane.length

/-- The record has reached the horizon: the difference from now to its timestamp is -H × L ticks or less (R105). -/
def settled (len horizon : Nat) (now : LineTime) (r : EventRecord) : Bool :=
  timeDiff len now r.stamp ≤ -((horizon * len : Nat) : Int)

/-- The release mark after the test of its age: absent once the difference from now to it is -8,388,607 × L or less
(R105; taken at the end of a look, log 20). -/
def ageMark (len : Nat) (now : LineTime) (mark : Option LineTime) : Option LineTime :=
  mark.filter fun m => -(8388607 * (len : Int)) < timeDiff len now m

/-- The release mark after records have settled: the timestamp of the last one moved (R105). -/
def markAfter (mark : Option LineTime) (moved : List EventRecord) : Option LineTime :=
  match moved.getLast? with
  | none => mark
  | some r => some r.stamp

/-- A look at the head of the settling list (R105): heads that have reached the horizon move to the tail of the release
lane and set the release mark. -/
def EventStore.look (len horizon : Nat) (now : LineTime) (st : EventStore) : EventStore :=
  let moved := st.settling.takeWhile (settled len horizon now)
  { st with
    settling := st.settling.dropWhile (settled len horizon now)
    lane := st.lane ++ moved
    mark := ageMark len now (markAfter st.mark moved) }

/-- The key of `a` is later than that of `b` (R102): timestamps by their differences from now, then origins. -/
def keyLater (len : Nat) (now : LineTime) (a b : EventRecord) : Bool :=
  let da := timeDiff len now a.stamp
  let db := timeDiff len now b.stamp
  db < da || (da == db && b.origin.toNat < a.origin.toNat)

/-- Insertion into the settling list after every record whose key is not later than its own (R104). -/
def insertByKey (len : Nat) (now : LineTime) (r : EventRecord) : List EventRecord → List EventRecord
  | [] => [r]
  | x :: xs => if keyLater len now x r then r :: x :: xs else x :: insertByKey len now r xs

/-- The record is earlier than the release mark, by differences from now (R102, R104). -/
def beforeMark (len : Nat) (now : LineTime) (mark : Option LineTime) (r : EventRecord) : Bool :=
  match mark with
  | none => false
  | some m => timeDiff len now r.stamp < timeDiff len now m

/-- The Event Store takes a record by the three tests of R104; the look of R105 follows an insertion. -/
def EventStore.take (len horizon : Nat) (now : LineTime) (r : EventRecord) (st : EventStore) : EventStore :=
  if Config.storeCapacity ≤ st.total then { st with gap := .pending }
  else if beforeMark len now st.mark r then { st with lane := st.lane ++ [{ r with late := true }] }
  else EventStore.look len horizon now { st with settling := insertByKey len now r st.settling }

/-- A record moved by a step or restart (R109, R116). -/
def EventRecord.markStepped (r : EventRecord) : EventRecord := { r with stepped := true }

/-- The whole settling list moves to the tail of the release lane flagged STEPPED, and the mark becomes absent (R109,
R116). -/
def EventStore.flush (st : EventStore) : EventStore :=
  { st with settling := [], lane := st.lane ++ st.settling.map EventRecord.markStepped, mark := none }

/-- The record of a note (R108). -/
def noteRecord (code : NoteCode) (origin : StationId) (detail tag : Byte) (stamp : LineTime) (sure : Bool) :
    EventRecord :=
  ⟨.note code detail, origin, sure, tag, stamp, false, false, false⟩

namespace State

/-- The Event Store takes a record (R104); in UNSET it takes none (R103). -/
def takeRecord (s : State) (r : EventRecord) : State :=
  if s.agreement.state = .unset then s else s.setStore (s.store.take s.len s.config.horizon s.storeNow r)

/-- The Event Store looks at the head of its settling list (R105). -/
def lookStore (s : State) : State := s.setStore (s.store.look s.len s.config.horizon s.storeNow)

/-- Notes and own edges are SURE while the agreement state is ALONE or LOCKED (R108, R94). -/
def sureState (s : State) : Bool := s.agreement.state == .alone || s.agreement.state == .locked

/-- A block raises a note: timestamp now, quality by the agreement state (R108). -/
def note (s : State) (code : NoteCode) (origin : StationId) (detail tag : Byte) : State :=
  s.takeRecord (noteRecord code origin detail tag s.now s.sureState)

/-- A note with origin own id. -/
def ownNote (s : State) (code : NoteCode) (detail tag : Byte) : State := s.note code s.config.id detail tag

end State

/-! ### Output Stage (4.7 to 4.9) -/

/-- An action handed over makes a SAFE output ACTING, from its safe level (R80). -/
def Output.begin (o : Output) : Output := if o.condition = .safe then { o with condition := .acting } else o

/-- LEVEL mode (R81). -/
def Output.levelAct (a : Action) (o : Output) : Output :=
  match a with
  | .set => { o with level := true }
  | .clear => { o with level := false }
  | .toggle => { o with level := !o.level }
  | .fire => o

/-- The Output Stage carries out an action of an entry due at `due` (R80 to R86). The loader admits only actions that
suit the mode (R173); any other leaves the output as it is. -/
def Output.act (c : OutputConfig) (len : Nat) (now due : LineTime) (a : Action) (o : Output) : Output :=
  match c.mode, a with
  | .level, .set => o.begin.levelAct .set
  | .level, .clear => o.begin.levelAct .clear
  | .level, .toggle => o.begin.levelAct .toggle
  | .pulse, .fire => { o.begin with level := true, pulseEnd := some (timeAdd len now c.width) }
  | .round, .set => { o.begin with level := due.round == now.round, latchRound := some due.round }
  | _, _ => o

/-- The pulse end is reached: the level becomes INACTIVE and the pulse end absent (R83). -/
def Output.endPulse (len : Nat) (now : LineTime) (o : Output) : Output :=
  match o.pulseEnd with
  | none => o
  | some t => if reached len now t then { o with level := false, pulseEnd := none } else o

/-- The round boundary into `round`: a ROUND output in ACTING whose latch differs loses it (R85). -/
def Output.boundary (c : OutputConfig) (round : Round) (o : Output) : Output :=
  if c.mode = .round ∧ o.condition = .acting ∧ o.latchRound ≠ some round then
    { o with level := false, latchRound := none }
  else o

/-- The reaction to an adoption step (R87). -/
def Output.step (c : OutputConfig) (len : Nat) (old new : LineTime) (o : Output) : Output :=
  if o.condition = .acting then
    match c.mode with
    | .pulse => o.endPulse len new
    | .round => if o.latchRound.isSome && old.round != new.round then { o with level := false, latchRound := none } else o
    | _ => o
  else o

/-- SAFE: at the safe level, with neither pulse end nor latch round (R78, R79). -/
def Output.safe (c : OutputConfig) : Output := ⟨.safe, c.safeActive, none, none⟩

namespace State

/-- Every output changed by `f` of its configuration and state. -/
def mapOutputs (s : State) (f : OutputConfig → Output → Output) : State :=
  s.setOutputs (Vector.ofFn fun i => f (s.config.outputs[i]) (s.outputs[i]))

/-- Every output becomes SAFE (R79). -/
def safeOutputs (s : State) : State := s.mapOutputs fun c _ => Output.safe c

/-- The pulse end of one output is taken if it is reached (R83). -/
def endPulse (s : State) (i : Fin 8) : State :=
  s.setOutputs (s.outputs.set i.val ((s.outputs[i]).endPulse s.len s.now))

/-- Every pulse end that is reached is taken (R83). -/
def endPulses (s : State) : State := s.mapOutputs fun _ o => o.endPulse s.len s.now

/-! ### Schedule (4.2 to 4.5) -/

/-- A note of the Schedule about an entry or request (R71). -/
def entryNote (s : State) (code : NoteCode) (e : ScheduleEntry) : State :=
  s.note code e.sender (BitVec.ofNat 8 e.output.val) e.tag

/-- The entry's action is handed to the Output Stage, with an ACTED note where the output logs (R72, R80). -/
def execute (s : State) (e : ScheduleEntry) : State :=
  let acted := s.setOutputs (s.outputs.set e.output.val
    ((s.outputs[e.output]).act (s.config.outputs[e.output]) s.len s.now e.due e.action))
  if (s.config.outputs[e.output]).log then acted.entryNote .acted e else acted

/-- What happens to an entry taken: executed in an acting state, MISSED in ADRIFT (R72). -/
def takeEntry (s : State) (e : ScheduleEntry) : State := if s.acting then s.execute e else s.entryNote .missed e

/-- The entry's due time has been reached. -/
def entryReached (s : State) (e : ScheduleEntry) : Bool := reached s.len s.now e.due

/-- The Schedule looks for reached entries: the head and every new head that has been reached are taken in order (R72).
In UNSET and LISTENING it takes nothing (R72, R77). -/
def lookSchedule (s : State) : State :=
  if s.acting || s.agreement.state == .adrift then
    (s.schedule.takeWhile s.entryReached).foldl takeEntry (s.setSchedule (s.schedule.dropWhile s.entryReached))
  else s

end State

/-- Insertion after every entry whose due time is not later than its own (R68, R69). -/
def insertEntry (len : Nat) (e : ScheduleEntry) : List ScheduleEntry → List ScheduleEntry
  | [] => [e]
  | x :: xs => if later len x.due e.due then e :: x :: xs else x :: insertEntry len e xs

namespace State

/-- The request is inserted, and the Schedule looks for reached entries straight after (R69, R72). -/
def insertAndLook (s : State) (e : ScheduleEntry) : State :=
  (s.setSchedule (insertEntry s.len e s.schedule)).lookSchedule

/-- A request that finds the Schedule full: the last entry is evicted for an earlier one, or the request is refused
(R70). -/
def insertFull (s : State) (e : ScheduleEntry) : State :=
  match s.schedule.getLast? with
  | none => s
  | some last =>
    if earlier s.len e.due last.due then
      ((s.setSchedule s.schedule.dropLast).entryNote .evicted last).insertAndLook e
    else s.entryNote .scheduleFull e

/-- The Schedule takes an insertion request (R69, R70). -/
def insertRequest (s : State) (e : ScheduleEntry) : State :=
  if earlier s.len e.due s.now then s.entryNote .missed e
  else if s.schedule.length < Config.scheduleCapacity then s.insertAndLook e
  else s.insertFull e

/-- Every entry of the origin (sender, arm id) leaves without a note (R74). -/
def removeOrigin (s : State) (sender : StationId) (armId : Byte) : State :=
  s.setSchedule (s.schedule.filter fun e => !(e.sender == sender && e.armId == armId))

/-- The Schedule's reaction to an adoption step, at the new line time: entries earlier than it leave with MISSED notes,
in order (R75). The look at the new reading follows as the reactions end. -/
def stepSchedule (s : State) : State :=
  (s.schedule.filter fun e => earlier s.len e.due s.now).foldl (entryNote · .missed ·)
    (s.setSchedule (s.schedule.filter fun e => !earlier s.len e.due s.now))

end State

end Sys2Proof.Machine
end

