-- ==== Sys2Proof/Machine/ArmOps.lean ====
section
/-! DEFINITION. The operations of the Arm Unit (chapter 3): the arm history, the bindings, the two outboxes and the
in-flight list, requests, expiry, cancels and received frames. -/

namespace Sys2Proof.Machine

/-! ### The arm history (3.7) -/

/-- A list of at most 8 entries makes room: the oldest entry is removed from a list of 8 (R60). -/
def makeRoom (es : List HistoryEntry) : List HistoryEntry :=
  if Config.historyCapacity ≤ es.length then es.drop 1 else es

/-- Entering an arm (R60): an entry of the same id is removed first, then the oldest of a full list. -/
def enterHistory (id tag : Byte) (action : LineTime) (es : List HistoryEntry) : List HistoryEntry :=
  makeRoom (es.filter fun e => e.id != id) ++ [⟨id, .accepted tag action⟩]

/-- An entry after a cancel: CANCELLED, keeping its tag and action time (R60). -/
def HistoryEntry.cancel (e : HistoryEntry) : HistoryEntry :=
  match e.status with
  | .accepted tag action => { e with status := .cancelled tag action }
  | _ => e

/-- Cancelling the entry of `id` in its place, or inserting a placeholder where there is none (R59, R60, R66). -/
def cancelHistory (id : Byte) (es : List HistoryEntry) : List HistoryEntry :=
  if es.any fun e => e.id == id then es.map fun e => if e.id == id then e.cancel else e
  else makeRoom es ++ [⟨id, .placeholder⟩]

/-- The entry of an arm id. -/
def findHistory (id : Byte) (es : List HistoryEntry) : Option HistoryEntry := es.find? fun e => e.id == id

/-- What the identity check finds (R63): whether an arm goes on to the reach check. -/
def isNewArm (tag : Byte) (action : LineTime) : Option HistoryEntry → Bool
  | none => true
  | some e =>
    match e.status with
    | .accepted t a => !(t == tag && a == action)
    | .cancelled t a => !(t == tag && a == action)
    | .placeholder => false

namespace State

/-- The history list of a sender. -/
def historyOf (s : State) (sender : StationId) : List HistoryEntry := s.arms.history[stationIx sender]

/-- The history list of a sender, changed. -/
def setHistory (s : State) (sender : StationId) (es : List HistoryEntry) : State :=
  s.setArms { s.arms with history := s.arms.history.set (stationIx sender).val es }

/-! ### Applying the bindings (R44) -/

/-- The insertion request of a binding (R44). -/
def requestOf (s : State) (sender : StationId) (armId tag : Byte) (action : LineTime) (b : Binding × Nat) :
    ScheduleEntry :=
  ⟨timeAdd s.len action b.1.offset, b.1.output, b.1.action, sender, armId, tag, b.2⟩

/-- The bindings of the tag are applied in rising order of index, one request each (R43, R44). -/
def applyBindings (s : State) (sender : StationId) (armId tag : Byte) (action : LineTime) : State :=
  ((s.config.bindings.zipIdx.filter fun b => b.1.tag == tag).map (s.requestOf sender armId tag action)).foldl
    insertRequest s

/-- The arm is entered ACCEPTED in the sender's history, and its bindings are applied (R51, R64). -/
def acceptArm (s : State) (sender : StationId) (armId tag : Byte) (action : LineTime) : State :=
  (s.setHistory sender (enterHistory armId tag action (s.historyOf sender))).applyBindings sender armId tag action

/-- The origin's schedule entries are removed and its history entry becomes CANCELLED, or a placeholder (R59, R61, R66). -/
def cancelArm (s : State) (sender : StationId) (armId : Byte) : State :=
  (s.removeOrigin sender armId).setHistory sender (cancelHistory armId (s.historyOf sender))

end State

/-! ### The outboxes and the in-flight list -/

/-- The arm id is carried by an ARM frame in flight. -/
def InFlight.carriesArm (f : InFlight) (id : Byte) : Bool :=
  match f with
  | .arms _ carried => carried.any fun a => a.id == id
  | _ => false

/-- The arm id is carried by a CANCEL frame in flight. -/
def InFlight.carriesCancel (f : InFlight) (id : Byte) : Bool :=
  match f with
  | .cancels _ carried => carried.any fun a => a.id == id
  | _ => false

namespace State

/-- The input's outstanding arm is released: the input that holds the id holds none (R45, R100). -/
def releaseArm (s : State) (r : ArmRecord) : State :=
  match r.source with
  | .tap => s
  | .input _ =>
    s.setCapture { s.capture with
      filters := Vector.ofFn fun i =>
        if (s.capture.filters[i]).outstanding = some r.id then { s.capture.filters[i] with outstanding := none }
        else s.capture.filters[i] }

/-- The records that satisfy `p` leave the arm outbox; the others keep their order, and each leaving record's input is
released (R45). -/
def removeArms (s : State) (p : ArmRecord → Bool) : State :=
  (s.arms.outbox.filter p).foldl releaseArm
    (s.setArms { s.arms with outbox := s.arms.outbox.filter fun r => !p r })

/-- The record of `id` in the arm outbox, changed. -/
def updateArm (s : State) (id : Byte) (f : ArmRecord → ArmRecord) : State :=
  s.setArms { s.arms with outbox := s.arms.outbox.map fun r => if r.id == id then f r else r }

/-- An arm record is eligible for a frame (R49). -/
def armEligible (s : State) (r : ArmRecord) : Bool :=
  s.acting && r.sends < s.config.sendCount && r.lastRound != some s.now.round && !s.arms.inFlight.carriesArm r.id
    && !passed s.len s.now r.action

/-- A cancel record is eligible for a frame (R58). -/
def cancelEligible (s : State) (r : CancelRecord) : Bool :=
  (s.acting || s.agreement.state == .adrift) && r.sends < s.config.sendCount && r.lastRound != some s.now.round
    && !s.arms.inFlight.carriesCancel r.id

/-! ### Expiry and the step (3.5) -/

/-- The record leaves because its action time has passed, with an ARM-EXPIRED note if it is not effective (R53, R54). -/
def expireArm (s : State) (r : ArmRecord) : State :=
  (if r.effective then s else s.ownNote .armExpired r.id r.tag).removeArms fun x => x.id == r.id

/-- The records for which `p` holds leave as passed, oldest first: DESIGN CHOICE (log 21), unsafe, for R53 and R54 give the records
of one happening no order, and it is that of their notes. -/
def expireWhere (s : State) (p : ArmRecord → Bool) : State := (s.arms.outbox.filter p).foldl expireArm s

/-- The record's action time has passed and no frame in flight carries it (R53). -/
def armPassed (s : State) (r : ArmRecord) : Bool := passed s.len s.now r.action && !s.arms.inFlight.carriesArm r.id

/-- Every record of which R53 holds leaves. -/
def expireArms (s : State) : State := s.expireWhere s.armPassed

/-- The record is passed by an adoption step to the line time read, and no frame in flight carries it (R54). -/
def armStepped (s : State) (r : ArmRecord) : Bool :=
  earlier s.len r.action s.now && !s.arms.inFlight.carriesArm r.id

/-- The Arm Unit's reaction to an adoption step, at the new line time (R54). -/
def stepArms (s : State) : State := s.expireWhere s.armStepped

/-- The Arm Unit's reaction to a step that has come first in this period, before a request is checked (R100, R54): `judged` is the
adopted time then, and now where no step has come (R95). -/
def stepArmsFirst (s : State) (judged : LineTime) : State := if judged = s.now then s else s.atReading judged stepArms

/-! ### Creating an arm (3.3) -/

/-- The id is held by a record of either outbox (R47). -/
def armIdHeld (s : State) (id : Byte) : Bool :=
  (s.arms.outbox.any fun r => r.id == id) || s.arms.cancels.any fun r => r.id == id

/-- The first free id from `id` on; at most 16 ids are held, so one is found within `fuel` tries (R47). -/
def freeArmId (s : State) : Nat → Byte → Byte
  | 0, id => id
  | fuel + 1, id => if s.armIdHeld id then s.freeArmId fuel (id + 1) else id

/-- The id of the next arm (R47). -/
def newArmId (s : State) : Byte := s.freeArmId 256 s.arms.nextId

/-- A request that passes its checks creates one record at the newest end (R47, R100). -/
def createArm (s : State) (tag : Byte) (action : LineTime) (source : ArmSource) : State :=
  let id := s.newArmId
  let made := s.setArms { s.arms with
    outbox := s.arms.outbox ++ [⟨id, tag, action, source, 0, false, none⟩]
    nextId := id + 1 }
  match source with
  | .tap => made
  | .input i =>
    made.setCapture { s.capture with
      filters := s.capture.filters.set i.val { s.capture.filters[i] with outstanding := some id } }

/-- The line time `t` plus the margin M (R46, R48). -/
def earliestAction (s : State) (t : LineTime) : LineTime := timeAdd s.len t s.config.margin

/-- The line time `t` plus 250 rounds (R46, R48, R64). -/
def latestAction (t : LineTime) : LineTime := timeAddRounds t Config.armReach

/-- The checks of R46 on an arm request from an input, in order, then the record. `judged` is the line time that the checks go by:
now, or the adopted time where a step has come first in this period (R95). A note is timestamped now (R108). -/
def checkRequest (s : State) (i : Fin 8) (stamp judged : LineTime) : State :=
  let c := s.config.inputs[i]
  let action := timeAdd s.len stamp c.lead
  let detail := BitVec.ofNat 8 i.val
  if !s.acting then s.ownNote .triggerState detail c.tag
  else if earlier s.len action (s.earliestAction judged) then s.ownNote .triggerLead detail c.tag
  else if later s.len action (latestAction judged) then s.ownNote .triggerLead detail c.tag
  else if (s.capture.filters[i]).outstanding.isSome then s.ownNote .triggerBusy detail c.tag
  else if Config.armCapacity ≤ s.arms.outbox.length then s.ownNote .triggerFull detail c.tag
  else s.createArm c.tag action (.input i)

/-- An arm request from an input. Where a step has come first in this period, the arms that it passes have left, and their inputs are
released, before the request is checked (R100). -/
def requestFromInput (s : State) (i : Fin 8) (stamp judged : LineTime) : State :=
  (s.stepArmsFirst judged).checkRequest i stamp judged

/-- The result of the checks of R48 on a POST TRIGGER, in order. -/
def tapArmCheck (s : State) (tag : Byte) (action : LineTime) : ResultCode :=
  if !s.acting then .refusedState
  else if tag = 0 then .refusedTag
  else if earlier s.len action (s.earliestAction s.now) then .refusedLead
  else if later s.len action (latestAction s.now) then .refusedReach
  else if Config.armCapacity ≤ s.arms.outbox.length then .refusedFull
  else .accepted

/-! ### Sent and collided frames (3.4, 3.6) -/

/-- One arm of an ARM frame sent well (R51): the send is counted, a first send makes the arm effective at this station,
and the record leaves when its sends are complete or its action time has passed. -/
def armSent (round : Round) (s : State) (a : CarriedArm) : State :=
  let counted := s.updateArm a.id fun r => { r with sends := r.sends + 1, lastRound := some round }
  let effective :=
    if a.first then
      (counted.updateArm a.id fun r => { r with effective := true }).acceptArm s.config.id a.id a.tag a.action
    else counted
  effective.removeArms fun r => r.id == a.id && (s.config.sendCount ≤ r.sends || passed s.len s.now r.action)

/-- One cancel of a CANCEL frame sent well (R59). -/
def cancelSent (round : Round) (s : State) (a : CarriedCancel) : State :=
  let counted := s.setArms { s.arms with
    cancels := s.arms.cancels.map fun r =>
      if r.id == a.id then { r with sends := r.sends + 1, lastRound := some round } else r }
  let taken := if a.first then counted.cancelArm s.config.id a.id else counted
  taken.setArms { taken.arms with
    cancels := taken.arms.cancels.filter fun r => !(r.id == a.id && s.config.sendCount ≤ r.sends) }

/-- The in-flight list is cleared. -/
def clearInFlight (s : State) : State := s.setArms { s.arms with inFlight := .none }

/-- The report of a good send to the Arm Unit (R51, R59). -/
def armsSentWell (s : State) : State :=
  match s.arms.inFlight with
  | .none => s
  | .arms round carried => (carried.foldl (armSent round) s).clearInFlight
  | .cancels round carried => (carried.foldl (cancelSent round) s).clearInFlight

/-- The report of a collision to the Arm Unit: the records are left as they were, the list is cleared, and records whose
action time has passed during the flight expire at once (R52, R59), in outbox order: DESIGN CHOICE (log 21), unsafe, for R52
gives them no order, and it is that of their notes. -/
def armsCollided (s : State) : State :=
  match s.arms.inFlight with
  | .none => s
  | .arms _ carried =>
    let cleared := s.clearInFlight
    cleared.expireWhere fun r => cleared.armPassed r && carried.any fun a => a.id == r.id
  | .cancels _ _ => s.clearInFlight

/-! ### Cancels from the tap (R56, R57) -/

/-- A record of the outbox never sent and not in flight (R56, row 1). -/
def cancelsUnsent (s : State) (id : Byte) : Bool :=
  s.arms.outbox.any fun r => r.id == id && !r.effective && !s.arms.inFlight.carriesArm id

/-- The own history holds the id ACCEPTED (R56, row 2). -/
def ownAccepted (s : State) (id : Byte) : Bool :=
  match findHistory id (s.historyOf s.config.id) with
  | some ⟨_, .accepted _ _⟩ => true
  | _ => false

/-- Row 2 of R56: a record effective or in flight, an id in flight, or an own history entry that is ACCEPTED. -/
def cancelsSent (s : State) (id : Byte) : Bool :=
  (s.arms.outbox.any fun r => r.id == id) || s.arms.inFlight.carriesArm id || s.ownAccepted id

/-- A cancel of the id is queued or in flight (R57, row 1). -/
def cancelQueued (s : State) (id : Byte) : Bool :=
  (s.arms.cancels.any fun r => r.id == id) || s.arms.inFlight.carriesCancel id

/-- The result of CANCEL TRIGGER (R56, R57). -/
def cancelResult (s : State) (id : Byte) : ResultCode :=
  if s.cancelsUnsent id then .accepted
  else if s.cancelsSent id then
    if s.cancelQueued id then .accepted
    else if Config.cancelCapacity ≤ s.arms.cancels.length then .refusedFull
    else .accepted
  else .unknown

/-- The effect of CANCEL TRIGGER (R56, R57). -/
def cancelEffect (s : State) (id : Byte) : State :=
  if s.cancelsUnsent id then s.removeArms fun r => r.id == id
  else if s.cancelsSent id && !s.cancelQueued id && s.arms.cancels.length < Config.cancelCapacity then
    let left := s.removeArms fun r => r.id == id
    left.setArms { left.arms with cancels := left.arms.cancels ++ [⟨id, 0, none⟩] }
  else s

/-! ### Received frames (3.8, 3.9) -/

/-- The sender's entry in the peer table. -/
def peerOf (s : State) (id : StationId) : Peer := s.agreement.peers[stationIx id]

/-- The sender's entry is LIVE with the station's own founder (R63, R107). -/
def onOwnTimeline (s : State) (sender : StationId) : Bool :=
  (s.peerOf sender).state == .live && (s.peerOf sender).founder.isSome
    && (s.peerOf sender).founder == s.agreement.founder

/-- One arm of a received ARM frame: sender check, identity check, reach check and acceptance (R63, R64). -/
def takeArm (sender : StationId) (s : State) (a : ReceivedArm) : State :=
  if !s.onOwnTimeline sender then s.note .armForeign sender a.id a.tag
  else if !isNewArm a.tag a.action (findHistory a.id (s.historyOf sender)) then s
  else if earlier s.len a.action s.now then s.note .armLate sender a.id a.tag
  else if later s.len a.action (latestAction s.now) then s.note .armFar sender a.id a.tag
  else s.acceptArm sender a.id a.tag a.action

/-- A received ARM frame is taken in the acting states, arm by arm (R62). -/
def takeArmFrame (s : State) (sender : StationId) (arms : List ReceivedArm) : State :=
  if s.acting then arms.foldl (takeArm sender) s else s

/-- A received CANCEL frame is taken in the acting states and in ADRIFT, id by id (R65, R66). -/
def takeCancelFrame (s : State) (sender : StationId) (ids : List Byte) : State :=
  if s.acting || s.agreement.state == .adrift then ids.foldl (fun s id => s.cancelArm sender id) s else s

end State

end Sys2Proof.Machine
end

