-- ==== Sys2Proof/Machine/ReportOps.lean ====
section
/-! DEFINITION. What the owners report to the Access Unit as pending (R49, R37, R97), and the transmitter's IDLE and WAITING
(R143). -/

namespace Sys2Proof.Machine

namespace State

/-- The arm records eligible now, oldest first (R49). -/
def eligibleArms (s : State) : List ArmRecord := s.arms.outbox.filter s.armEligible

/-- The cancel records eligible now, oldest first (R58). -/
def eligibleCancels (s : State) : List CancelRecord := s.arms.cancels.filter s.cancelEligible

/-- A record of an outbox is eligible, so that there is class A content to report (R49). -/
def classA (s : State) : Bool := !s.eligibleArms.isEmpty || !s.eligibleCancels.isEmpty

/-- The own TIME frame is PENDING (R37, R143). -/
def timePending (s : State) : Bool := s.agreement.timeFrame == .pending

/-- The Capture Unit reports class B content (R97). -/
def eventsPending (s : State) : Bool := s.capture.inFlight < s.capture.outbox.length

/-- Class B content is pending (R143). -/
def classB (s : State) : Bool := s.timePending || s.eventsPending

/-- Content of any class is reported as pending (R143): class A as the Arm Unit's report stands, class B as its owners' content
stands, which no change of the reading alone begins or ends. -/
def contentPending (s : State) : Bool := s.access.reportA || s.classB

/-- The transmitter state set. -/
def setTx (s : State) (x : Transmitter) : State := s.setAccess { s.access with tx := x }

/-- A transmitter in IDLE or WAITING is WAITING exactly while content is reported as pending (R143). -/
def moveTx (s : State) : State :=
  if s.access.tx = .idle ∨ s.access.tx = .waiting then s.setTx (if s.contentPending then .waiting else .idle) else s

/-- The Arm Unit's report is made by the reading `t`, and the transmitter follows it (R49, R143). -/
def reportAt (s : State) (t : LineTime) : State :=
  (s.setAccess { s.access with reportA := (s.setClock { s.clock with now := t }).classA }).moveTx

/-- The report as the content stands at the reading of now. Every happening that changes an owner's content brings it up,
and so do ARM_EXPIRED and the end of a period, at which the Arm Unit takes the reading (log 32). -/
def refreshTx (s : State) : State := s.reportAt s.now

end State

end Sys2Proof.Machine
end

