-- ==== Sys2Proof/Machine/AgreementOps.lean ====
section
/-! DEFINITION. The operations of the Agreement Unit (chapter 2): changes of state, received TIME frames, adoption, and
the work of the round close; and the reactions of the other blocks to an adoption step. -/

namespace Sys2Proof.Machine

/-- Half a sum, rounded toward zero (R28). -/
def halfTowardZero (n : Int) : Int := n.tdiv 2

/-- Insertion into a sorted list of offsets. -/
def insertOffset (x : Int) : List Int → List Int
  | [] => [x]
  | y :: ys => if x ≤ y then x :: y :: ys else y :: insertOffset x ys

/-- The offsets sorted (R28). -/
def sortOffsets : List Int → List Int
  | [] => []
  | x :: xs => insertOffset x (sortOffsets xs)

/-- How many values are discarded from each end of a list of `n` (R28). -/
def discards (n : Nat) : Nat := if n ≤ 2 then 0 else if n ≤ 6 then 1 else 2

/-- The unclamped correction from the contributors' offsets and the station's own 0 (R28). -/
def rawCorrection (offsets : List Int) : Int :=
  let sorted := sortOffsets (0 :: offsets)
  let d := discards sorted.length
  let kept := (sorted.drop d).take (sorted.length - 2 * d)
  halfTowardZero (kept.headD 0 + kept.getLastD 0)

/-- A correction clamped to the step limit S (R29). -/
def clampTo (limit : Nat) (c : Int) : Int :=
  if (limit : Int) < c then limit else if c < -(limit : Int) then -(limit : Int) else c

/-- What a round close works from (R26): the contributors' offsets, the unclamped correction, whether it is clamped, and
the correction handed to the Line Clock. -/
structure CloseFigures where
  offsets : List Int
  raw : Int
  clamped : Bool
  correction : Int
deriving DecidableEq, Repr

/-- The entry contributes (R27): LIVE, fresh, LOCKED or ALONE, under the station's own founder. -/
def Peer.contributes (own : Option StationId) (p : Peer) : Bool :=
  p.state == .live && p.fresh && p.offset.isSome && (p.senderState == some .locked || p.senderState == some .alone)
    && p.founder.isSome && p.founder == own

/-- The founder under which peers contribute; none in LISTENING, where the steps 1 to 3 of R26 are skipped. -/
def Agreement.timeline (a : Agreement) : Option StationId := if a.state = .listening then none else a.founder

/-- The figures of a close (R26 to R29); in LISTENING there is no contributor and the correction is 0 (R26, R3). -/
def Agreement.figures (limit : Nat) (a : Agreement) : CloseFigures :=
  let offsets := (a.peers.toList.filter (Peer.contributes a.timeline)).map fun p => p.offset.getD 0
  let raw := rawCorrection offsets
  ⟨offsets, raw, (limit : Int) < |raw|, clampTo limit raw⟩

/-- The strikes of an entry at a close with contributors: a contributor more than 4S from the unclamped correction gains
one, any other contributor's become 0 (R30). -/
def Peer.strike (own : Option StationId) (limit : Nat) (raw : Int) (p : Peer) : Peer :=
  if p.contributes own then
    { p with strikes := if 4 * (limit : Int) < |p.offset.getD 0 - raw| then p.strikes + 1 else 0 }
  else p

/-- The entry reaches 3 strikes at this close (R30). -/
def Peer.strikesOut (own : Option StationId) (limit : Nat) (raw : Int) (p : Peer) : Bool :=
  p.contributes own && 3 ≤ (p.strike own limit raw).strikes

/-- An entry that reaches 3 strikes becomes BARRED for 16 rounds (R30). -/
def Peer.bar (p : Peer) : Peer := { p with state := .barred, barred := 16, fresh := false }

/-- Ageing of an entry at a close (R31); `barredNow` says that it became BARRED at this close. -/
def Peer.age (barredNow : Bool) (p : Peer) : Peer :=
  match p.state with
  | .absent => p
  | .live => if p.heard then p else if 8 ≤ p.silent + 1 then Peer.none else { p with silent := p.silent + 1 }
  | .barred => if barredNow then p else if p.barred ≤ 1 then Peer.none else { p with barred := p.barred - 1 }

/-- The work of one close on one entry: strikes and barring (outside LISTENING, and only with contributors), ageing, and
the clearing of heard and fresh (R26, R30, R31). -/
def Peer.close (own : Option StationId) (limit : Nat) (k : CloseFigures) (p : Peer) : Peer :=
  let struck := p.strike own limit k.raw
  let out := p.strikesOut own limit k.raw
  let aged := Peer.age out (if out then struck.bar else struck)
  { aged with heard := false, fresh := false }

/-- The own TIME frame's condition after a close that marks it pending (R38). -/
def TimeFrame.mark : TimeFrame → TimeFrame
  | .idle | .pending => .pending
  | .inFlight | .inFlightPending => .inFlightPending

/-- The condition after a good send (R39). -/
def TimeFrame.sent : TimeFrame → TimeFrame
  | .inFlightPending => .pending
  | .inFlight => .idle
  | other => other

/-- The condition after a collision (R39). -/
def TimeFrame.collided : TimeFrame → TimeFrame
  | .inFlight | .inFlightPending => .pending
  | other => other

namespace State

/-- A change of agreement state (R15, R16): the counts are cleared, an AGREEMENT note is appended with the new code, the
latch is set; entering ADRIFT makes every output SAFE (R79); entering ALONE or GATHERING from LISTENING takes the
transmitter out of OFF (R143). -/
def enterAgreement (s : State) (new : AgreementState) : State :=
  let entered := s.setAgreement { s.agreement with
    state := new
    clampCount := 0
    progress := 0
    lonelyCount := 0
    driftCount := if new = .adrift then 0 else s.agreement.driftCount }
  let noted := (entered.ownNote .agreement (BitVec.ofNat 8 new.code) 0).setLatch
  let driven := if new = .adrift then noted.safeOutputs else noted
  if s.access.tx = .off ∧ (new = .alone ∨ new = .gathering) then
    driven.setAccess { driven.access with tx := .idle }
  else driven

/-! ### Received TIME frames (2.3) -/

/-- The offset of a TIME frame, or none where its stamp is not usable (R22). -/
def frameOffset (s : State) (stamp : LineTime) (noted : Byte) (sent : LineTime) : Option Int :=
  let difference := timeDiff s.len stamp (timeAdd s.len sent s.config.lineDelay)
  if stamp.phase + 1 = s.len then none
  else if s.agreement.adjustCount = noted then some difference
  else if s.agreement.adjustCount = noted + 1 then
    match s.agreement.lastAdjust with
    | .correction c => some (difference - c)
    | .step => none
  else none

/-- The round whose close is next (R22): during an overtime that of the round after now's. -/
def closingRound (s : State) : Round := if 0 < s.clock.overtime then s.now.round + 1 else s.now.round

end State

/-- The update of the sender's entry (R21). -/
def Peer.heardFrom (sender : AgreementState) (founder : StationId) (offset : Option Int) (round : Round) (p : Peer) :
    Peer :=
  match p.state with
  | .barred => { p with senderState := some sender, founder := some founder }
  | .absent | .live =>
    let live : Peer := if p.state = .absent then { p with state := .live, strikes := 0, barred := 0 } else p
    let taken := { live with senderState := some sender, founder := some founder, heard := true, silent := 0 }
    match offset with
    | .none => taken
    | .some o => { taken with offset := some o, offsetRound := some round, fresh := true }

/-- A LIVE entry becomes not fresh at a step (R23). -/
def Peer.stale (p : Peer) : Peer := if p.state = .live then { p with fresh := false } else p

namespace State

/-- A TIME frame that was taken with a usable stamp from a sender not BARRED causes an adoption (R24). -/
def adopts (s : State) (sender : AgreementState) (founder : StationId) : Bool :=
  (sender == .locked || sender == .alone) &&
    match s.agreement.state with
    | .listening | .adrift => true
    | .alone | .gathering | .locked =>
      match s.agreement.founder with
      | none => false
      | some own => founder.toNat < own.toNat
    | .unset => false

/-- The Event Store's reaction to a step or restart (R109). -/
def flushStore (s : State) : State := s.setStore s.store.flush

end State

/-- The Capture Unit's mark of a held edge at a step (R95). -/
def InputFilter.markStepped (f : InputFilter) : InputFilter :=
  match f.condition with
  | .stable => f
  | .pending edge stamp hold _ => { f with condition := .pending edge stamp hold true }

namespace State

/-- The Capture Unit's reaction to an adoption step (R95). -/
def stepCapture (s : State) : State :=
  s.setCapture { s.capture with
    filters := Vector.ofFn fun i => (s.capture.filters[i]).markStepped
    outbox := s.capture.outbox.map fun e => { e with sure := false } }

/-- The Agreement Unit's own part of an adoption (R25, steps 3, 4, 6 and 7). -/
def adoptAgreement (s : State) (founder : StationId) : State :=
  s.setAgreement { s.agreement with
    adjustCount := s.agreement.adjustCount + 1
    lastAdjust := .step
    founder := some founder
    peers := Vector.ofFn fun i => (s.agreement.peers[i]).stale
    clampCount := 0
    progress := 0
    lonelyCount := 0
    listenCount := 0 }

/-- The looks that the present reading calls for and that have not been commanded (R72, R83, R53, R105). -/
def takeLooks (s : State) : State := s.lookSchedule.endPulses.expireArms.lookStore

/-- The new line time is handed to the Line Clock, which takes it at the end of the reference period (R9); the Event Store
reacts as it is handed over (R109). -/
def handStep (s : State) (new : LineTime) : State := s.flushStore.setClock { s.clock with handed := some new }

/-- The STEP note of an adoption: UNSURE, timestamped now (R25, R108). -/
def stepNote (s : State) (founder : StationId) : State :=
  s.takeRecord (noteRecord .step s.config.id founder 0 s.now false)

end State

/-- The Line Clock once the step handed over is made: line time is the new one and the overtime is discarded; trim, pace
count and running flag stay (R9). -/
def LineClock.stepped (c : LineClock) : LineClock :=
  match c.handed with
  | none => c
  | some new => { c with now := new, overtime := 0, handed := none }

namespace State

/-- The step handed over is made: the Line Clock takes the new line time, and the Output Stage, the Capture Unit, the Schedule
and the Arm Unit react, and the Schedule looks at the new reading (R9, R87, R95, R75, R54; order log 8). -/
def makeStep (s : State) : State :=
  match s.clock.handed with
  | none => s
  | some new =>
    let driven := (s.setClock s.clock.stepped).mapOutputs fun c o => Output.step c s.len s.now new o
    driven.stepCapture.stepSchedule.stepArms.lookSchedule

/-- An adoption (R25), after the looks of the present reading, which came with that reading: the new line time, now plus the
offset, is handed over; the Agreement Unit takes the founder and its counts; STEP and AGREEMENT notes follow at the new line
time. -/
def handAdoption (s : State) (founder : StationId) (offset : Int) : State :=
  let new := timeAdd s.len s.now offset
  ((s.takeLooks.handStep new).adoptAgreement founder).atReading new fun h =>
    if s.agreement.state = .gathering then h.stepNote founder
    else (h.stepNote founder).enterAgreement .gathering

/-- An adoption whose handling may have ended in the reference period that ended last, after its close or boundary was taken: a
free value says whether it did, and then the step is made at once, as that period ends, and overrides the reading and the
overtime that the close left (R9, R25; log 5). -/
def adoptLate (s : State) : State :=
  (if Config.stepInClosedPeriod s.freeIndex then s.makeStep else s).setFreeIndex (s.freeIndex + 1)

/-- An adoption, with the report of the pending content by the reading at which the frame was handled (R25, R9, R143). -/
def adopt (s : State) (founder : StationId) (offset : Int) : State :=
  (if s.lateHandling then (s.handAdoption founder offset).adoptLate else s.handAdoption founder offset).reportAt s.now

/-- The sender's entry of the peer table, changed. -/
def setPeer (s : State) (id : StationId) (p : Peer) : State :=
  s.setAgreement { s.agreement with peers := s.agreement.peers.set (stationIx id).val p }

/-- A received TIME frame (R19, R21, R22, R24). -/
def takeTimeFrame (s : State) (sender : StationId) (state : AgreementState) (founder : StationId)
    (sent stamp : LineTime) (noted : Byte) : State :=
  if s.agreement.state = .unset then s
  else
    let offset := s.frameOffset stamp noted sent
    let updated := s.setPeer sender ((s.peerOf sender).heardFrom state founder offset s.closingRound)
    if (s.peerOf sender).state ≠ .barred ∧ s.adopts state founder = true then
      match offset with
      | none => updated
      | some o => updated.adopt founder o
    else updated

/-! ### The round close (2.4, 2.5) -/

/-- The adjustment count and last adjustment after a close with correction `c` (R20). -/
def noteCorrection (a : Agreement) (c : Int) : Agreement :=
  if c = 0 then a else { a with adjustCount := a.adjustCount + 1, lastAdjust := .correction c }

/-- The clamp count after a close (R29). -/
def clampCountAfter (s : State) (k : CloseFigures) : Nat :=
  if s.acting then if k.clamped then s.agreement.clampCount + 1 else 0 else s.agreement.clampCount

/-- A PEER-BARRED note for each entry barred at this close (R30), in rising order of id: DESIGN CHOICE (log 21), unsafe, for
R30 gives the notes of one close no order, and it decides which of them a store with little room loses. -/
def noteBarred (s : State) (before : Agreement) (k : CloseFigures) : State :=
  (List.finRange 24).foldl
    (fun s i =>
      if (before.peers[i]).strikesOut before.timeline s.config.stepLimit k.raw then
        s.note .peerBarred (BitVec.ofNat 8 (i.val + 1)) 3 0
      else s) s

/-- The peer-table work of a close (R26 steps 3, 4 and 7) and the counts of R20 and R29. -/
def closePeers (s : State) (k : CloseFigures) : State :=
  let a := noteCorrection s.agreement k.correction
  s.setAgreement { a with
    clampCount := s.clampCountAfter k
    peers := Vector.ofFn fun i => (s.agreement.peers[i]).close s.agreement.timeline s.config.stepLimit k }

/-- The founder set. -/
def setFounder (s : State) (f : StationId) : State := s.setAgreement { s.agreement with founder := some f }

/-- The transition of a close in LISTENING (R18). -/
def closeListening (s : State) : State :=
  let lowered := s.setAgreement { s.agreement with listenCount := s.agreement.listenCount - 1 }
  if s.agreement.listenCount ≤ 1 then (lowered.setFounder s.config.id).enterAgreement .alone else lowered

/-- The transition of a close in ALONE (R32). -/
def closeAlone (s : State) (k : CloseFigures) : State :=
  if k.offsets ≠ [] ∧ k.clamped = false then s.enterAgreement .locked else s

/-- The transition of a close in GATHERING (R33). -/
def closeGathering (s : State) (k : CloseFigures) : State :=
  if k.offsets = [] then
    if 4 ≤ s.agreement.lonelyCount + 1 then s.enterAgreement .alone
    else s.setAgreement { s.agreement with lonelyCount := s.agreement.lonelyCount + 1 }
  else if k.clamped then s.setAgreement { s.agreement with progress := 0, lonelyCount := 0 }
  else if 2 ≤ s.agreement.progress + 1 then s.enterAgreement .locked
  else s.setAgreement { s.agreement with progress := s.agreement.progress + 1, lonelyCount := 0 }

/-- The transition of a close in LOCKED (R34). -/
def closeLocked (s : State) (k : CloseFigures) : State :=
  if k.offsets = [] then
    if 8 ≤ s.agreement.lonelyCount + 1 then s.enterAgreement .alone
    else s.setAgreement { s.agreement with lonelyCount := s.agreement.lonelyCount + 1 }
  else s.setAgreement { s.agreement with lonelyCount := 0 }

/-- The transition of a close in ADRIFT (R35); re-founding sets the drift count back to 0 (R15). -/
def closeAdrift (s : State) : State :=
  if 16 ≤ s.agreement.driftCount + 1 then
    ((s.setAgreement { s.agreement with driftCount := 0 }).setFounder s.config.id).enterAgreement .alone
  else s.setAgreement { s.agreement with driftCount := s.agreement.driftCount + 1 }

/-- The transition of a close (2.5): in ALONE, GATHERING and LOCKED the clamp count is tested first (R36). -/
def closeTransition (s : State) (k : CloseFigures) : State :=
  if s.acting = true ∧ 3 ≤ s.agreement.clampCount then s.enterAgreement .adrift
  else
    match s.agreement.state with
    | .unset => s
    | .listening => s.closeListening
    | .alone => s.closeAlone k
    | .gathering => s.closeGathering k
    | .locked => s.closeLocked k
    | .adrift => s.closeAdrift

/-- The own TIME frame is marked pending in ALONE, GATHERING, LOCKED and ADRIFT (R26 step 6, R38). -/
def markTimeFrame (s : State) : State :=
  if s.acting || s.agreement.state == .adrift then
    s.setAgreement { s.agreement with timeFrame := s.agreement.timeFrame.mark }
  else s

/-- The Agreement Unit's work of a round close, after the Line Clock has taken the correction (R26; the notes carry the
reading that follows the closing advance, log 7). -/
def closeWork (s : State) (k : CloseFigures) : State :=
  (((s.closePeers k).noteBarred s.agreement k).closeTransition k).markTimeFrame

end State

end Sys2Proof.Machine
end

