-- ==== Sys2Proof/Machine/CaptureOps.lean ====
section
/-! DEFINITION. The operations of the Capture Unit (chapter 5): samples, acceptance and sharing of edges, and the event
outbox. Each input is sampled once in a reference period (R89): by its own command, or at the end of the period. -/

namespace Sys2Proof.Machine

/-- A sample of an input at `level` (R89 to R91). -/
def InputFilter.sample (level : Bool) (now : LineTime) (f : InputFilter) : InputFilter :=
  match f.stable with
  | none => { f with stable := some level, condition := .stable }
  | some v =>
    match f.condition with
    | .stable =>
      if level = v then f else { f with condition := .pending (if level then .rise else .fall) now 0 false }
    | .pending edge stamp hold stepped =>
      if level = v then { f with condition := .stable }
      else { f with condition := .pending edge stamp (hold + 1) stepped }

/-- The hold count equals the hold time: the edge is accepted at this sample (R91). -/
def InputFilter.holdDone (c : InputConfig) (f : InputFilter) : Bool :=
  match f.condition with
  | .stable => false
  | .pending _ _ hold _ => hold == c.hold

namespace State

/-- The inputs are sampled while the Line Clock runs, but not those of edge selection OFF (R89), and once a period. -/
def canSample (s : State) (i : Fin 8) : Bool :=
  s.clock.running && (s.config.inputs[i]).selection != .off && !s.sampled.getLsbD i.val

/-- The filter of input `i` after its sample of this reference period. -/
def sampledFilter (s : State) (i : Fin 8) : InputFilter :=
  (s.capture.filters[i]).sample (s.inPins.getLsbD i.val) s.now

/-- A filter set. -/
def setFilter (s : State) (i : Fin 8) (f : InputFilter) : State :=
  s.setCapture { s.capture with filters := s.capture.filters.set i.val f }

/-- Input `i` is sampled in this reference period, if it has not been (R89 to R91). -/
def sampleInput (s : State) (i : Fin 8) : State :=
  if s.canSample i then (s.setFilter i (s.sampledFilter i)).setSampled (s.sampled ||| BitVec.twoPow 8 i.val) else s

/-- Every input is sampled, if it has not been in this period. -/
def sampleInputs (s : State) : State := (List.finRange 8).foldl sampleInput s

/-- The acceptance of input `i`'s edge falls in this reference period. -/
def acceptDue (s : State) (i : Fin 8) : Bool :=
  s.clock.running && s.sampled.getLsbD i.val && (s.capture.filters[i]).holdDone (s.config.inputs[i])

/-- Edges are shared in the acting states and in ADRIFT (R96). -/
def canShare (s : State) : Bool := s.acting || s.agreement.state == .adrift

/-- An edge of a selected kind is handed on (R92): the copy to the event outbox (R96), the record to the Event Store
(R93, R94), the request to the Arm Unit (R99), whose checks go by `judged` (R95). -/
def handOn (s : State) (i : Fin 8) (edge : Edge) (stamp : LineTime) (stepped : Bool) (judged : LineTime) : State :=
  let c := s.config.inputs[i]
  let triggers := c.tag != 0 && triggerIncludes c.triggerEdges edge
  let tag := if triggers then c.tag else 0
  let sure := s.sureState && !stepped
  let copies := c.share && s.canShare && s.capture.outbox.length < Config.eventOutboxCapacity
  let shared :=
    if copies then s.setCapture { s.capture with outbox := s.capture.outbox ++ [⟨i, edge, sure, tag, stamp⟩] } else s
  let recorded := shared.takeRecord
    ⟨.edge i edge, s.config.id, sure, tag, stamp, false, false, c.share && !copies⟩
  if triggers then recorded.requestFromInput i stamp judged else recorded

/-- The edge held at input `i` is accepted: the stable level becomes the new level, and an edge of a selected kind is
handed on (R91, R92). -/
def acceptEdge (judged : LineTime) (s : State) (i : Fin 8) : State :=
  match (s.capture.filters[i]).condition with
  | .stable => s
  | .pending edge stamp _ stepped =>
    let accepted := s.setFilter i
      { s.capture.filters[i] with stable := some (edge == .rise), condition := .stable }
    if selectionAdmits (s.config.inputs[i]).selection edge then accepted.handOn i edge stamp stepped judged else accepted

/-- The acceptances of this reference period are taken in rising order of input number, each whole (R92). -/
def acceptEdges (judged : LineTime) (s : State) : State :=
  (List.finRange 8).foldl (fun s i => if s.acceptDue i then acceptEdge judged s i else s) s

/-- The report of a good send of an EVENT frame: the records carried leave (R98). -/
def eventsSentWell (s : State) : State :=
  s.setCapture { s.capture with outbox := s.capture.outbox.drop s.capture.inFlight, inFlight := 0 }

/-- The report of a collided EVENT frame: every record stays (R98). -/
def eventsCollided (s : State) : State := s.setCapture { s.capture with inFlight := 0 }

end State

end Sys2Proof.Machine
end

