-- ==== Sys2Proof/Machine/AccessOps.lean ====
section
/-! DEFINITION. The operations of the Access Unit and the transmit symbol engine (chapter 8, R122): slots, assembly of a frame, readback, and the two ends of an attempt. -/

namespace Sys2Proof.Machine

namespace State

/-! ### Slots (R142) -/

/-- The station's position: own id - rotation - 1, modulo 24 (R142). -/
def position (s : State) : Nat := (((s.config.id.toNat : Int) - s.access.rotation.toNat - 1) % 24).toNat

/-- The class A slot (R142). -/
def slotA (s : State) : Nat := s.position

/-- The class B slot (R142). -/
def slotB (s : State) : Nat := 24 + s.position

/-- The late slot (R142). -/
def slotLate (s : State) : Nat := 48 + (s.config.id.toNat - 1)

/-- A frame is to be begun at the slot now starting, by the reports as they stand (R144). -/
def slotBegins (s : State) : Bool :=
  if s.access.yield then s.access.slotIndex == s.slotLate && s.contentPending
  else (s.access.slotIndex == s.slotA && s.access.reportA)
    || (s.access.slotIndex == s.slotB && s.classB && !s.access.reportA)

/-! ### Assembly (R145) -/

/-- The frame goes to the transmit symbol engine, which begins the OPEN and takes the transmit stamp (R145, R122, R10);
the transmitter goes to SENDING, and a set yield flag is cleared (R144). -/
def beginFrame (s : State) (kind : FrameKind) (body : List Byte) : State :=
  let engined := s.setFramer { s.framer with
    engine := some ⟨kind, frameBytes kind s.config.id body, s.now, 0, 0, false, .frame, false⟩ }
  engined.setAccess { s.access with tx := .sending, yield := false }

/-- A CANCEL frame of up to 8 records is assembled (R58). -/
def beginCancel (s : State) (rs : List CancelRecord) : State :=
  (s.setArms { s.arms with
    inFlight := .cancels s.now.round (rs.map fun r => ⟨r.id, r.sends == 0⟩) }).beginFrame .cancel (cancelBody rs)

/-- An ARM frame of up to 4 records is assembled (R50). -/
def beginArm (s : State) (rs : List ArmRecord) : State :=
  (s.setArms { s.arms with
    inFlight := .arms s.now.round (rs.map fun r => ⟨r.id, r.tag, r.action, r.sends == 0⟩) }).beginFrame .arm
      (armBody rs)

/-- The own TIME frame is assembled, with the transmit stamp in its place (R39, R40, R10). -/
def beginTime (s : State) : State :=
  (s.setAgreement { s.agreement with timeFrame := .inFlight }).beginFrame .time
    (timeBody s.agreement.state (s.agreement.founder.getD 0) s.now)

/-- An EVENT frame of up to 5 records is assembled (R98). -/
def beginEvent (s : State) : State :=
  let given := s.capture.outbox.take 5
  (s.setCapture { s.capture with inFlight := given.length }).beginFrame .event (eventBody given)

/-- The frame that the pending content makes, by the rows of R145: those of class A where class A is reported, and a row whose
owner gives no record gives way to the next. The state as it is where no row gives a record. -/
def assemble (s : State) : State :=
  if s.access.reportA = true ∧ s.eligibleCancels ≠ [] then s.beginCancel (s.eligibleCancels.take 8)
  else if s.access.reportA = true ∧ s.eligibleArms ≠ [] then s.beginArm (s.eligibleArms.take 4)
  else if s.timePending then s.beginTime
  else if s.eventsPending then s.beginEvent
  else s

/-- The start of the slot now running has not been taken (R144). -/
def slotDue (s : State) : Bool :=
  s.access.monitor == .window && s.access.slotCount == 0 && !s.access.slotTaken

/-- The start of a slot (R144): a WAITING transmitter whose slot it is begins a frame, and the reports follow; where the
owners give no record it begins none (R145). The engine sends one frame at a time (R122, log 31). -/
def takeSlot (s : State) : State :=
  if s.slotDue then
    let started := s.setAccess { s.access with slotTaken := true }
    if s.access.tx = .waiting ∧ s.framer.engine = none ∧ s.slotBegins = true then started.assemble.refreshTx else started
  else s

/-! ### Readback and the ends of an attempt (8.5) -/

/-- The engine changed. -/
def setEngine (s : State) (e : Option Engine) : State := s.setFramer { s.framer with engine := e }

/-- The readback of the symbol being sent (R146). -/
def readback (s : State) (bits : BitVec 10) : State :=
  match s.framer.engine with
  | none => s
  | some e =>
    if s.access.tx = .sending ∧ e.course = .frame ∧ e.age = 38 ∧ e.readWell = false ∧ e.orphan = false then
      if bits = e.symbol.bits then s.setEngine (some { e with readWell := true })
      else ((s.countAlways .collision).setEngine (some { e with course := .abandon })).setTx .quashing
    else s

/-- The report of a good send to the owner of the content (R149). -/
def reportSent (s : State) (kind : FrameKind) : State :=
  match kind with
  | .arm | .cancel => s.armsSentWell
  | .time => s.setAgreement { s.agreement with timeFrame := s.agreement.timeFrame.sent }
  | .event => s.eventsSentWell

/-- The report of a collision to the owner of the content (R149). -/
def reportCollided (s : State) (kind : FrameKind) : State :=
  match kind with
  | .arm | .cancel => s.armsCollided
  | .time => s.setAgreement { s.agreement with timeFrame := s.agreement.timeFrame.collided }
  | .event => s.eventsCollided

/-- The good end of a frame at the Access Unit (R147). -/
def goodEnd (s : State) (kind : FrameKind) : State :=
  (((s.setEngine none).setAccess { s.access with rotation := s.config.id, collisions := 0 }).reportSent kind).setTx
    .idle

/-- The end of the SHUT's kind bit (R147); a frame orphaned by a restart is reported to no one (R138). -/
def endFrame (s : State) : State :=
  match s.framer.engine with
  | none => s
  | some e =>
    if e.course = .frame ∧ e.atShut = true ∧ e.age = 40 then
      if e.orphan then s.setEngine none
      else if e.readWell then (s.goodEnd e.kind).refreshTx
      else s
    else s

/-- The transmitter goes to MUTED (R150). -/
def muteTx (s : State) : State :=
  ((s.setAccess { s.access with tx := .muted, mute := Config.muteRounds, collisions := 0 }).ownNote .muted 0 0).setLatch

/-- The collision's end at the Access Unit (R148). -/
def collisionEnd (s : State) (kind : FrameKind) : State :=
  let reported := ((s.setEngine none).setAccess
    { s.access with collisions := s.access.collisions + 1, yield := true }).reportCollided kind
  if Config.muteCollisions ≤ reported.access.collisions then reported.muteTx else reported.setTx .idle

/-- The end of a QUASH (R148); that of a frame orphaned by a restart is reported to no one (R138). -/
def endQuash (s : State) : State :=
  match s.framer.engine with
  | none => s
  | some e =>
    if e.course = .quash ∧ e.age = 40 then
      if e.orphan then s.setEngine none else (s.collisionEnd e.kind).refreshTx
    else s

/-- The mute count at a round boundary (R151). -/
def muteBoundary (s : State) : State :=
  if s.access.tx = .muted then
    if s.access.mute ≤ 1 then s.setAccess { s.access with mute := 0, tx := .idle }
    else s.setAccess { s.access with mute := s.access.mute - 1 }
  else s

end State

end Sys2Proof.Machine
end

