-- ==== Sys2Proof/Machine/LineOps.lean ====
section
/-! DEFINITION. The operations of the receive side of the Framer and of the line monitor (R118, R119, 7.3 to 7.5, 8.1). -/

namespace Sys2Proof.Machine

namespace State

/-- The symbol on LRX set. -/
def setSymbol (s : State) (y : LineSymbol) : State := s.setFramer { s.framer with symbol := y }

/-- The receiver set. -/
def setReceiver (s : State) (r : Receiver) : State := s.setFramer { s.framer with receiver := r }

/-- The end of a symbol's kind bit (R139): the monitor goes from BUSY to GAP, and the silence begins (R119). -/
def endSymbol (s : State) : State :=
  if s.framer.symbol = .recognised 40 then
    let ended := s.setFramer { s.framer with symbol := .none, silence := 0, quietFound := false }
    if s.access.monitor = .busy then ended.setAccess { s.access with monitor := .gap, gapCount := 0 } else ended
  else s

/-- The adjustment count noted with a reading. A step that is handed over and not yet made has raised the count already (R25),
while now is the old line time (R9): the count noted is that of the clock read, so that R22 turns the stamp away (R23). -/
def notedCount (s : State) : Byte :=
  if s.clock.handed = none then s.agreement.adjustCount else s.agreement.adjustCount - 1

/-- A symbol begins on LRX where none is in progress (R118): the line time and the adjustment count are noted. A symbol
whose kind bit ends in this period has ended (R118). -/
def beginSymbol (s : State) : State :=
  if s.framer.receiver = .off then s
  else
    let ended := s.endSymbol
    if ended.framer.symbol = .none then ended.setSymbol (.begun s.now s.notedCount 0) else ended

/-- The monitor in BUSY (R139). -/
def monitorBusy (s : State) : State :=
  s.setAccess { s.access with monitor := .busy, gapCount := 0, slotIndex := 0, slotCount := 0, slotTaken := false }

/-- The start-bit sample is low (R118): the noted values are kept (R11), and the monitor is BUSY (R139). -/
def confirmSymbol (s : State) : State :=
  match s.framer.symbol with
  | .begun noted adjust 2 =>
    ((s.setFramer { s.framer with
      symbol := .confirmed 2, startCount := some adjust, silence := 0, quietFound := false }).setClock
        { s.clock with startBit := some noted }).monitorBusy
  | _ => s

/-- The start-bit sample is high: no symbol has begun (R118). -/
def dropGlitch (s : State) : State :=
  match s.framer.symbol with
  | .begun _ _ 2 => s.setSymbol .none
  | _ => s

/-- Quiet is due: one symbol time of silence, not yet found, and no symbol begun in it (R119; a glitch in it, log 11). Where a
symbol begins in the very period in which that time has passed, the order of QUIET and SYMBOL_BEGINS decides: a symbol taken to
begin first and then confirmed leaves quiet unfound, for a gap of exactly one symbol time. DESIGN CHOICE (log 35), unsafe, for
R119 does not say whether quiet is found for that gap. -/
def quietDue (s : State) : Bool :=
  s.framer.receiver != .off && s.framer.silence == Config.symbolTime && !s.framer.quietFound
    && s.framer.symbol == .none

/-- Quiet (R119): a frame being taken is TRUNCATED, SKIPPING ends (R125, R127). -/
def takeQuiet (s : State) : State :=
  if s.quietDue then
    let found := s.setFramer { s.framer with quietFound := true }
    match s.framer.receiver with
    | .taking _ => (found.count .truncated).setReceiver .waitOpen
    | .skipping => found.setReceiver .waitOpen
    | _ => found
  else s

/-- The gap is complete: the window begins at slot 0 (R139). -/
def completeGap (s : State) : State :=
  if s.access.monitor = .gap ∧ s.access.gapCount = Config.gapTime then
    s.setAccess { s.access with monitor := .window, slotIndex := 0, slotCount := 0, slotTaken := false }
  else s

/-! ### Recognised symbols (7.3) -/

/-- A symbol is recognised at the sample of its kind bit, 38 reference periods after it began, while the receiver runs
(R118). -/
def recognise (s : State) (take : State → State) : State :=
  if s.framer.receiver ≠ .off ∧ s.framer.symbol = .confirmed 38 then take (s.setSymbol (.recognised 38)) else s

/-- A frame is begun with the kept start-bit time and count (R124). -/
def beginTaking (s : State) : State :=
  s.setReceiver (.taking ⟨s.clock.startBit.getD .zero, s.framer.startCount.getD 0, [], checkStart⟩)

/-- An OPEN (R124, R125, R127). -/
def takeOpen (s : State) : State :=
  match s.framer.receiver with
  | .waitOpen => s.beginTaking
  | .taking _ => (s.count .broken).beginTaking
  | _ => s

/-- A data symbol (R124, R125, R127). -/
def takeData (b : Byte) (s : State) : State :=
  match s.framer.receiver with
  | .waitOpen => (s.count .stray).setReceiver .skipping
  | .taking f =>
    if f.bytes.length < 53 then
      s.setReceiver (.taking { f with bytes := f.bytes ++ [b], check := checkByte f.check b })
    else (s.count .long).setReceiver .skipping
  | _ => s

/-- A QUASH (R124, R125, R127). -/
def takeQuash (s : State) : State :=
  match s.framer.receiver with
  | .waitOpen => s.count .stray
  | .taking _ => (s.count .quashed).setReceiver .skipping
  | _ => s

/-- An invalid symbol (R124, R125, R127). -/
def takeInvalid (s : State) : State :=
  match s.framer.receiver with
  | .waitOpen | .taking _ => (s.count .symbol).setReceiver .skipping
  | _ => s

/-! ### Receive buffers and the frame handler (7.5) -/

/-- The handler is busy with a buffer (R133). -/
def handlerBusy (s : State) : Bool :=
  match s.framer.bufferA, s.framer.bufferB with
  | .handling _, _ => true
  | _, .handling _ => true
  | _, _ => false

/-- An idle handler takes the FULL buffer whose frame was taken first (R133). -/
def takeBuffer (s : State) : State :=
  match s.framer.bufferA, s.framer.bufferB with
  | .handling _, _ => s
  | _, .handling _ => s
  | .full f, .full g =>
    if s.framer.aFirst then s.setFramer { s.framer with bufferA := .handling f, ripe := false }
    else s.setFramer { s.framer with bufferB := .handling g, ripe := false }
  | .full f, .free => s.setFramer { s.framer with bufferA := .handling f, ripe := false }
  | .free, .full g => s.setFramer { s.framer with bufferB := .handling g, ripe := false }
  | .free, .free => s

/-- A well-formed good frame is placed in a FREE buffer, buffer A where both are FREE (log 12), or counted OVERRUN (R132);
an idle handler takes it (R133). -/
def placeFrame (s : State) (f : ReceivedFrame) : State :=
  match s.framer.bufferA, s.framer.bufferB with
  | .free, .full _ => (s.setFramer { s.framer with bufferA := .full f, aFirst := false }).takeBuffer
  | .free, _ => (s.setFramer { s.framer with bufferA := .full f, aFirst := true }).takeBuffer
  | .full _, .free => (s.setFramer { s.framer with bufferB := .full f, aFirst := true }).takeBuffer
  | _, .free => (s.setFramer { s.framer with bufferB := .full f, aFirst := false }).takeBuffer
  | _, _ => s.count .overrun

/-- A good frame taken while the transmitter is not SENDING or QUASHING: the rotation report (R129), the identity check
(R130), the check of kind and form (R131) and the receive buffers (R132). -/
def takeGoodFrame (s : State) (kindByte sender : Byte) (body : List Byte) (f : Taking) : State :=
  let rotated := s.setAccess { s.access with rotation := sender }
  if sender = s.config.id then (rotated.count .idClash).ownNote .idClash kindByte 0
  else
    match frameKindOf kindByte with
    | none => rotated.count .kind
    | some kind =>
      if bodyWellFormed kind body then rotated.placeFrame ⟨kind, sender, body, f.stamp, f.adjust⟩
      else rotated.count .malformed

/-- The tests of R126 on the bytes of a frame: the counter of the first that fails. -/
def frameFault (bs : List Byte) : Option Counter :=
  if bs.length < 5 then some .short
  else if bs.length ≠ (byteAt bs 2).toNat + 5 then some .length
  else if checkBytes (checkOf (bs.take (bs.length - 2))) ≠ bs.drop (bs.length - 2) then some .check
  else if !validStationId (byteAt bs 1) then some .sender
  else none

/-- A SHUT (R124, R126, R127); the station's own frame read back is discarded (R128). -/
def takeShut (s : State) : State :=
  match s.framer.receiver with
  | .waitOpen => s.count .stray
  | .taking f =>
    let waiting := s.setReceiver .waitOpen
    match frameFault f.bytes with
    | some c => waiting.count c
    | none =>
      if s.transmitting then waiting
      else waiting.takeGoodFrame (byteAt f.bytes 0) (byteAt f.bytes 1) ((f.bytes.drop 3).take (f.bytes.length - 5)) f
  | _ => s

/-! ### The hand-over (R134) -/

/-- The record of one entry of a received EVENT frame (R107). -/
def receivedRecord (s : State) (sender : StationId) (e : SharedEdge) : EventRecord :=
  ⟨.edge e.channel e.edge, sender, e.sure && s.onOwnTimeline sender, e.tag, e.stamp, false, false, false⟩

/-- A received EVENT frame is taken in every state but UNSET, entry by entry (R107). -/
def takeEventFrame (s : State) (sender : StationId) (es : List SharedEdge) : State :=
  if s.agreement.state = .unset then s else es.foldl (fun s e => s.takeRecord (s.receivedRecord sender e)) s

/-- The frame is handed to the block that owns its kind (R134). -/
def handOver (s : State) (f : ReceivedFrame) : State :=
  match f.kind with
  | .time =>
    match senderStateOf (byteAt f.body 0) with
    | none => s
    | some state =>
      s.takeTimeFrame f.sender state (byteAt f.body 1) (carriedTime s.len (numAt f.body 2 3) (numAt f.body 5 3)) f.stamp
        f.adjust
  | .event => s.takeEventFrame f.sender (eventEntries s.len f.body)
  | .arm => s.takeArmFrame f.sender (armEntries s.len f.body)
  | .cancel => s.takeCancelFrame f.sender (cancelIds f.body)

/-- The handling ends: the frame is handed over, its buffer becomes FREE, and the handler takes the other buffer if that
one is FULL (R133, R134). A handling lasts one reference period or more (R133). -/
def endHandling (s : State) : State :=
  if s.framer.ripe then
    match s.framer.bufferA, s.framer.bufferB with
    | .handling f, _ =>
      let given := s.handOver f
      (given.setFramer { given.framer with bufferA := .free, ripe := false }).takeBuffer
    | _, .handling g =>
      let given := s.handOver g
      (given.setFramer { given.framer with bufferB := .free, ripe := false }).takeBuffer
    | _, _ => s
  else s

end State

end Sys2Proof.Machine
end

