-- ==== Sys2Proof/Machine/PeriodOps.lean ====
section
/-! DEFINITION. The end of a reference period: what has fallen due in it and was not commanded is taken, the counts in
reference periods rise, and the Line Clock makes its advances with the round close and the round boundary (R1 to R5, R8),
the Agreement Unit's work of the close (R26) and the other blocks' reactions to the boundary. -/

namespace Sys2Proof.Machine

/-! ### The Line Clock (1.2 to 1.5) -/

/-- The rate trim after a close with correction `c` (R8). -/
def trimAfter (len : Nat) (c trim : Int) : Int :=
  max (-Config.trimLimit) (min Config.trimLimit (trim + (c * 500000).tdiv len))

/-- The clock after some of a period's single advances, with the happenings among them. -/
structure Advance where
  clock : LineClock
  closed : Bool
  boundary : Bool
  overtimeEnded : Bool
deriving DecidableEq, Repr

/-- One tick of overtime is spent; the one that lowers the count to 0 makes the boundary at phase 0 (R5). -/
def spendOvertime (a : Advance) : Advance :=
  if a.clock.overtime ≤ 1 then
    { a with
      clock := { a.clock with overtime := 0, now := ⟨a.clock.now.round + 1, 0⟩ }, boundary := true,
      overtimeEnded := true }
  else { a with clock := { a.clock with overtime := a.clock.overtime - 1 } }

/-- The round close with correction `c` (R3): the trim is updated (R8); the boundary is made at phase `c` (R4), or the
overtime begins (R5). -/
def closeRound (len : Nat) (c : Int) (a : Advance) : Advance :=
  let trimmed := { a.clock with trim := trimAfter len c a.clock.trim }
  if 0 ≤ c then
    { a with clock := { trimmed with now := ⟨a.clock.now.round + 1, c.toNat⟩ }, closed := true, boundary := true }
  else { a with clock := { trimmed with overtime := c.natAbs }, closed := true }

/-- A single advance (R1), with `c` the correction that a close would take. -/
def singleAdvance (len : Nat) (c : Int) (a : Advance) : Advance :=
  if 0 < a.clock.overtime then spendOvertime a
  else if len ≤ a.clock.now.phase + 1 then closeRound len c a
  else { a with clock := { a.clock with now := ⟨a.clock.now.round, a.clock.now.phase + 1⟩ } }

/-- The pace count after a running reference period, and how many single advances the period makes (R2). -/
def paceStep (trim : Int) (pace : Nat) : Nat × Nat :=
  let sum := pace + trim.natAbs
  if sum < 1000000 then (sum, 1) else (sum - 1000000, if 0 < trim then 2 else 0)

/-- The advances of one running reference period (R1, R2). -/
def LineClock.period (len : Nat) (c : Int) (clock : LineClock) : Advance :=
  let paced := paceStep clock.trim clock.pace
  let start : Advance := ⟨{ clock with pace := paced.1 }, false, false, false⟩
  match paced.2 with
  | 0 => start
  | 1 => singleAdvance len c start
  | _ => singleAdvance len c (singleAdvance len c start)

namespace State

/-- The figures of a round close made now (R26). -/
def closeFigures (s : State) : CloseFigures := s.agreement.figures s.config.stepLimit

/-- The advances of the reference period now running, made on the new line time where a step has been handed over (R9); none
while the clock is stopped (R1). -/
def advances (s : State) : Advance :=
  if s.clock.running then s.clock.stepped.period s.len s.closeFigures.correction
  else ⟨s.clock.stepped, false, false, false⟩

/-- A close would fall at the end of the reference period now running. -/
def closeDue (s : State) : Bool := s.advances.closed

/-- The clamp count reaches 3 at the close (R29, R36). -/
def clampDue (s : State) : Bool := s.closeDue && s.acting && 3 ≤ s.clampCountAfter s.closeFigures

/-- The drift count reaches 16 at the close (R35). -/
def driftDue (s : State) : Bool := s.closeDue && s.agreement.state == .adrift && 16 ≤ s.agreement.driftCount + 1

/-- The other blocks' reactions to a round boundary: the Output Stage (R85), the Access Unit (R151), the Schedule (R73),
the pulse ends, the Arm Unit's expiry (R53) and the Event Store (R105); their order is log 9. -/
def boundaryWork (s : State) : State :=
  ((((s.mapOutputs fun c o => o.boundary c s.now.round).muteBoundary).lookSchedule.endPulses).expireArms).lookStore

/-- The Line Clock's part of the end of a reference period: the step handed over is made, and then the advances, with the
close and the boundary where they fall in it (R9, R1 to R5). Where the close enters or leaves ADRIFT, `lookFirst` says that an
entry due at its reading is taken before it: R76 gives both orders, and each has a command (log 9). -/
def clockPeriod (lookFirst : Bool) (s : State) : State :=
  let a := s.advances
  let advanced := s.makeStep.setClock a.clock
  let looked := if lookFirst && (s.clampDue || s.driftDue) then advanced.lookSchedule else advanced
  let closed := if a.closed then looked.closeWork s.closeFigures else looked
  if a.boundary then closed.boundaryWork else closed

/-- The advances of the reference period now running as they are where they are taken before the step (R9). -/
def advancesBefore (s : State) : Advance := (s.setClock { s.clock with handed := none }).advances

/-- The advances of the period are taken before the step handed over in it. R9 gives both orders and no choice between them:
a free value chooses. Where the advances bring a close or a boundary, the step that was commanded first is taken first; the
other order is commanded as ROUND_CLOSE or OVERTIME_END and then FRAME_HANDLING_END (log 5). -/
def advancesFirst (s : State) : Bool :=
  !s.advancesBefore.closed && !s.advancesBefore.boundary && Config.advancesBeforeStep s.freeIndex

/-- The Line Clock's part of the end of a period whose advances are taken before the step (R9): what they reach is taken
(R75), and the step overrides the advanced reading. -/
def advanceThenStep (s : State) : State :=
  (s.setClock { s.advancesBefore.clock with handed := s.clock.handed }).takeLooks.makeStep

/-- The Line Clock's part of the end of a reference period, where no command has named what it brings. -/
def plainClockPeriod (s : State) : State :=
  if s.clock.handed = none then s.clockPeriod false
  else (if s.advancesFirst then s.advanceThenStep else s.clockPeriod false).setFreeIndex (s.freeIndex + 1)

end State

/-! ### Counts in reference periods (R118, R119, R133, R139, R122) -/

/-- The age of a symbol on LRX after one more reference period. An age waits at the sample it has reached until the
sample's outcome is commanded (log 10). -/
def LineSymbol.period (y : LineSymbol) : LineSymbol :=
  match y with
  | .none => .none
  | .begun noted adjust age => .begun noted adjust (if age < 2 then age + 1 else age)
  | .confirmed age => .confirmed (if age < 38 then age + 1 else age)
  | .recognised age => .recognised (if age < 40 then age + 1 else age)

/-- The silence after one more reference period (R119): it is counted while the receiver runs and no confirmed symbol is
on the line. -/
def silencePeriod (receiver : Receiver) (y : LineSymbol) (silence : Nat) : Nat :=
  if receiver = .off then silence
  else
    match y with
    | .none | .begun _ _ _ => if silence < Config.symbolTime then silence + 1 else silence
    | .confirmed _ | .recognised _ => silence

/-- The end of a driven symbol (R122, R138): the QUASH after the symbol in progress of an abandoned frame, the next symbol
of a frame, or the end of the last. -/
def Engine.nextSymbol (e : Engine) : Engine :=
  match e.course with
  | .quash => { e with age := 40 }
  | .abandon => { e with course := .quash, age := 0 }
  | .frame => if e.atShut then { e with age := 40 } else { e with index := e.index + 1, age := 0, readWell := false }

/-- The transmit symbol engine after one more reference period. At the kind-bit sample of a symbol that is read back the
age waits for the readback (log 10). -/
def Engine.period (e : Engine) : Engine :=
  if e.age < 38 then { e with age := e.age + 1 }
  else if e.age = 38 then
    if e.readWell = true ∨ e.course ≠ .frame ∨ e.orphan = true then { e with age := 39 } else e
  else if e.age = 39 then e.nextSymbol
  else e

/-- The line monitor's counts after one more reference period (R139). -/
def Access.period (a : Access) : Access :=
  match a.monitor with
  | .busy => a
  | .gap => if a.gapCount < Config.gapTime then { a with gapCount := a.gapCount + 1 } else a
  | .window =>
    if a.slotCount + 1 < Config.symbolTime then { a with slotCount := a.slotCount + 1 }
    else { a with slotIndex := (a.slotIndex + 1) % Config.windowSlots, slotCount := 0, slotTaken := false }

namespace State

/-- Every count in reference periods rises; the inputs may be sampled again. -/
def countPeriod (s : State) : State :=
  ((s.setFramer { s.framer with
    symbol := s.framer.symbol.period
    silence := silencePeriod s.framer.receiver s.framer.symbol s.framer.silence
    ripe := s.framer.ripe || s.handlerBusy
    engine := s.framer.engine.map Engine.period }).setAccess s.access.period).setSampled 0

/-! ### The end of the period -/

/-- What has ended on the line in the reference period now ending and has not been commanded is taken: quiet, a symbol, the gap,
and a frame sent well (order: log 3). -/
def takeEnds (s : State) : State := s.takeQuiet.endSymbol.completeGap.endFrame

/-- The end of a QUASH, the owners' reports, the slot start, and the acceptances, where they fall in the reference period now
ending and have not been commanded (order: log 3). `judged` is the line time that the checks on an input's request go by (R95). -/
def takeStarts (judged : LineTime) (s : State) : State := s.endQuash.refreshTx.takeSlot.acceptEdges judged

/-- What has fallen due on the line and at the inputs in the reference period now ending and has not been commanded. -/
def takeLine (s : State) : State := s.takeEnds.takeStarts s.storeNow

/-- What has fallen due in the reference period now ending and has not been commanded is taken: the samples of the inputs,
the looks of the Schedule, the pulse ends, the Arm Unit and the Event Store, and what stands in `takeLine`. -/
def takeDue (s : State) : State := s.sampleInputs.takeLooks.takeLine

/-- `t`, to which the reference period of `s` has been ended, with the mark of a handling that could have ended in that period
after its close or boundary (R9, R25, R133; log 5). -/
def markLate (t s : State) : State :=
  t.setLateHandling (s.framer.ripe && (s.advances.closed || s.advances.boundary))

/-- The end of a reference period (R1, R2). The reports are brought up by what the close and the boundary changed, still at the
reading of the period that ends: what the next reading alone changes in them is taken in its own period (R144). While the RESET
pin is asserted nothing happens (R176). -/
def endPeriod (s : State) : State :=
  if s.resetHeld then s else ((s.takeDue.countPeriod.plainClockPeriod).reportAt s.now).markLate s

/-- The end of a reference period whose close brings an outcome that a command has named (log 4). -/
def endPeriodNamed (s : State) : State := ((s.takeDue.countPeriod.clockPeriod false).reportAt s.now).markLate s

/-- The Line Clock's part of the end of a period, and then what stands in `takeStarts`, which reads the line time of the period that
ends (R1, R144): every block, the Event Store among them. Where the close or boundary leaves another reading, the store takes the
records of `takeStarts` before those of the close, which carry that reading (log 7), and looks at it after them (R105): DESIGN CHOICE
(log 37), unsafe, for which of these records a store with little room loses. Where the reading stays, the records come to the store as
they are made. Where the step handed over has been made in `clockPeriod`, the requests of the edges accepted after it are judged by the
adopted time (R95). -/
def clockThenStarts (lookFirst : Bool) (s : State) : State :=
  let closed := s.clockPeriod lookFirst
  if closed.storeNow = s.storeNow then closed.atReadings s.now s.storeNow (takeStarts s.storeNow)
  else
    let started := (closed.setStore s.store).atReadings s.now s.storeNow (takeStarts s.storeNow)
    started.setStore ((s.setStore started.store).clockPeriod lookFirst).store

/-- The end of a reference period whose close or boundary has been commanded before the slot start: the slot start and what
stands with it in `takeStarts` follow it. The end of a frame comes before it: the actions of an arm made effective then are carried
out in the round that ends (R51, R84, R85). `lookFirst` is that of `clockPeriod`. -/
def endPeriodClockFirst (lookFirst : Bool) (s : State) : State :=
  ((((s.sampleInputs.takeLooks.takeEnds).clockThenStarts lookFirst).countPeriod).reportAt s.now).markLate s

/-! ### What a close made now would bring (R30 to R36) -/

/-- The overtime would end at the end of the reference period now running (R5). -/
def overtimeEndDue (s : State) : Bool := s.advances.overtimeEnded

/-- The close bars the peer (R30). -/
def barringDue (s : State) (peer : StationId) : Bool :=
  s.closeDue && validStationId peer
    && (s.peerOf peer).strikesOut s.agreement.timeline s.config.stepLimit s.closeFigures.raw

/-- The close makes the peer's silent rounds 8 (R31). -/
def silenceDue (s : State) (peer : StationId) : Bool :=
  s.closeDue && validStationId peer && !s.barringDue peer && (s.peerOf peer).state == .live && !(s.peerOf peer).heard
    && 8 ≤ (s.peerOf peer).silent + 1

/-- The close makes the peer's barred rounds 0 (R31). -/
def barredEndDue (s : State) (peer : StationId) : Bool :=
  s.closeDue && validStationId peer && (s.peerOf peer).state == .barred && (s.peerOf peer).barred ≤ 1

/-- The listen count reaches 0 at the close (R18). -/
def listenEndDue (s : State) : Bool :=
  s.closeDue && s.agreement.state == .listening && s.agreement.listenCount ≤ 1

/-- Progress reaches 2 at the close (R33). -/
def progressDue (s : State) : Bool :=
  s.closeDue && !s.clampDue && s.agreement.state == .gathering && !s.closeFigures.offsets.isEmpty
    && !s.closeFigures.clamped && 2 ≤ s.agreement.progress + 1

/-- The lonely count in GATHERING reaches 4 at the close (R33). -/
def gatheringLonelyDue (s : State) : Bool :=
  s.closeDue && !s.clampDue && s.agreement.state == .gathering && s.closeFigures.offsets.isEmpty
    && 4 ≤ s.agreement.lonelyCount + 1

/-- The lonely count in LOCKED reaches 8 at the close (R34). -/
def lockedLonelyDue (s : State) : Bool :=
  s.closeDue && !s.clampDue && s.agreement.state == .locked && s.closeFigures.offsets.isEmpty
    && 8 ≤ s.agreement.lonelyCount + 1

/-- The mute count reaches 0 at the boundary of the reference period now running (R151). -/
def muteEndDue (s : State) : Bool := s.advances.boundary && s.access.tx == .muted && s.access.mute ≤ 1

end State

end Sys2Proof.Machine
end

