-- ==== Sys2Proof/Machine/LoadOps.lean ====
section
/-! DEFINITION. The resets and the Loader (R137, R138, chapter 10, and each block's own reset values). -/

namespace Sys2Proof.Machine

/-! ### The configuration memory (R169, R177) -/

/-- A read of the configuration memory: the bus address, the offset as its two bytes, high byte first, and how many bytes
are read in one run (R169, R177). -/
structure BusRead where
  address : BitVec 7
  offsetHigh : Byte
  offsetLow : Byte
  count : Nat
deriving DecidableEq, Repr

/-- The length carried by the head (11.6). -/
def headLength (head : List Byte) : Nat := numAt head 2 2

/-- How many bytes the body read takes: from offset 4 to offset length - 1 (11.6). -/
def bodyCount (head : List Byte) : Nat := headLength head - 4

/-- What the Loader asks of the memory for the read in progress (R169). -/
def LoaderRead.bus : LoaderRead → Option BusRead
  | .none => Option.none
  | .head => some ⟨Config.memoryAddress, 0, 0, 4⟩
  | .body bytes => some ⟨Config.memoryAddress, 0, 4, bodyCount bytes⟩

/-- The bus recovery that frees CSDA: `clocks` clocks of CSCL, until CSDA is seen high, then a stop and a start (R169). -/
def recovery (clocks : Fin 10) : List BusEvent := List.replicate clocks.val .clock ++ [.stop, .start]

/-- The bytes of a read that the memory acknowledges, up to the one at `place`, which it answers with `ack`: the bus address and
the offset are written, and the bus address again, for reading, after a repeated start (R169, R177). -/
def BusRead.addressed (r : BusRead) (place : AddressedByte) (ack : Bool) : List BusEvent :=
  match place with
  | .busAddress => [.address r.address false ack]
  | .offsetHigh => [.address r.address false true, .offset r.offsetHigh ack]
  | .offsetLow => [.address r.address false true, .offset r.offsetHigh true, .offset r.offsetLow ack]
  | .repeatedAddress =>
    [.address r.address false true, .offset r.offsetHigh true, .offset r.offsetLow true, .start, .address r.address true ack]

/-- The data bytes in one run: the Loader acknowledges each but the last (R169). -/
def dataRun : List Byte → List BusEvent
  | [] => []
  | [b] => [.data b false]
  | b :: bs => .data b true :: dataRun bs

/-- What stands on the bus in an answered read, which ends with a stop (R169). -/
def BusRead.answered (r : BusRead) (clocks : Fin 10) (bytes : List Byte) : List BusEvent :=
  recovery clocks ++ r.addressed .repeatedAddress true ++ dataRun bytes ++ [.stop]

/-- What stands on the bus in an unanswered read, up to what leaves it unanswered (R169): the recovery clocks, after which CSDA is
still low, or the byte that the memory does not acknowledge. The read is begun again with a recovery, and so with a stop. -/
def BusRead.unanswered (r : BusRead) : Unanswered → List BusEvent
  | .heldLow => List.replicate Config.mostRecoveryClocks .clock
  | .unacknowledged clocks place => recovery clocks ++ r.addressed place false

/-- The clocks of CSCL in one part of a read: nine for a byte with its acknowledgement (R169). -/
def BusEvent.clocks : BusEvent → Nat
  | .clock => 1
  | .stop | .start => 0
  | .address _ _ _ | .offset _ _ | .data _ _ => 9

/-- How many reference periods the clocks of CSCL take at 400 kHz (R169). -/
def busPeriods (events : List BusEvent) : Nat := Config.busClock * (events.map BusEvent.clocks).sum

/-- The two tests on a completed head read, in order (R170). -/
def headFault (head : List Byte) : FaultCode :=
  if numAt head 0 2 ≠ Config.marker then .badMarker
  else if !lengthValid (headLength head) then .badLength
  else .none

namespace State

/-! ### Resets -/

/-- What a restart leaves of a frame being sent (R138): a QUASH already being sent is completed; a SHUT is completed, and no
QUASH follows it, ordered before or not; any other symbol in progress is completed and a QUASH follows it. The frame has lost
its owner. -/
def orphanEngine (e : Engine) : Engine :=
  { e with course := if e.course = .quash then .quash else if e.atShut then .frame else .abandon, orphan := true }

/-- The id in the RESTART note (R116): the station's own id, or a free value where the restart is taken in FAULT, in which
no image has been taken (log 16). -/
def restartId (s : State) : StationId :=
  if s.loader.state = .fault then BitVec.ofNat 8 ((Config.stationIdUnloaded s.freeIndex).val + 1) else s.config.id

/-- The RESTART note (R116): own id, detail 0, tag 0, UNSURE, at 0:0. -/
def restartNote (s : State) : EventRecord := noteRecord .restart s.restartId 0 0 .zero false

/-- The Event Store at a restart, in the order of R116: the settling list moves to the lane flagged STEPPED, the mark
becomes absent, and the RESTART note joins the lane, or is discarded from a full store. -/
def restartStore (s : State) : EventStore :=
  let flushed := s.store.flush
  if Config.storeCapacity ≤ flushed.total then { flushed with gap := .pending }
  else { flushed with lane := flushed.lane ++ [s.restartNote] }

/-- A restart takes effect (R165, R176): every block takes its restart values (R13, R42, R67, R77, R88, R101, R116, R136,
R138, R153, R168); the latch and its mark are left as they were; no configuration is held until the next good load. -/
def restart (s : State) : State where
  clock := .reset
  agreement := .reset
  arms := .reset
  schedule := []
  outputs := Vector.replicate 8 Output.reset
  capture := .reset
  store := s.restartStore
  framer := { Framer.reset with engine := s.framer.engine.map orphanEngine }
  access := .reset
  tap := { Tap.reset with latch := s.tap.latch, setSinceTake := s.tap.setSinceTake }
  loader := .begin
  config := .empty
  inPins := s.inPins
  sampled := 0
  resetHeld := s.resetHeld
  lateHandling := false
  freeIndex := if s.loader.state = .fault then s.freeIndex + 1 else s.freeIndex
  pending := s.pending

/-- A full reset is seen (R176): every block takes its full-reset values, LDE is released at once (R137), and no load is
begun until the reset is released. The levels at the input pins are the world's. -/
def fullReset (s : State) : State :=
  { State.reset with
    loader := .held, inPins := s.inPins, resetHeld := true, freeIndex := s.freeIndex, pending := s.pending }

/-- The full reset ends and the load begins (R168, R176). -/
def releaseReset (s : State) : State :=
  if s.resetHeld then (s.setLoader .begin).setResetHeld false else s

/-! ### The load (10.3 to 10.5) -/

/-- The load ends in FAULT with the code of the check that failed, and the latch is set (R174). -/
def loadFault (s : State) (code : FaultCode) : State := (s.setLoader ⟨.fault, code, 0, .none, s.loader.bus⟩).setLatch

/-- The read in progress has ended, with `events` on the bus after those of the reads before it (R169); what the memory did in it took a free value (log 18). -/
def endRead (s : State) (events : List BusEvent) : State :=
  (s.setLoader { s.loader with bus := s.loader.bus ++ events }).setFreeIndex (s.freeIndex + 1)

/-- A read is unanswered (R169): it is begun again from its own start offset, or the load ends with NO-MEMORY after the fourth
try. -/
def readUnanswered (s : State) : State :=
  match s.loader.read.bus with
  | none => s
  | some r =>
    let ended := s.endRead (r.unanswered (Config.unansweredCause s.freeIndex))
    if s.loader.retry < 3 then ended.setLoader { ended.loader with retry := s.loader.retry + 1 }
    else ended.loadFault .noMemory

/-- The head read is complete (R169, R170). -/
def headDone (s : State) (head : List Byte) : State :=
  match s.loader.read, s.loader.read.bus with
  | .head, some r =>
    let ended := s.endRead (r.answered (Config.recoveryClocks s.freeIndex) head)
    match headFault head with
    | .none => ended.setLoader { ended.loader with retry := 0, read := .body head }
    | code => ended.loadFault code
  | _, _ => s

/-- The Agreement Unit enters LISTENING (R17): listen count 6, founder none, the counts and the adjustment count 0; with
the change of state come the note and the latch (R16). -/
def enterListening (s : State) : State :=
  (s.setAgreement { s.agreement with listenCount := 6, founder := none, adjustCount := 0, driftCount := 0 }).enterAgreement
    .listening

/-- The Line Clock starts from 0:0 with a trim of 0 (R14). -/
def startClock (s : State) : State := s.setClock { LineClock.reset with running := true }

/-- The receiver goes to SKIPPING (R123), the silence counted from now (R119), and the monitor to GAP (R140). -/
def startLine (s : State) : State :=
  (s.setFramer { s.framer with receiver := .skipping, symbol := .none, silence := 0, quietFound := false }).setAccess
    { s.access with monitor := .gap, gapCount := 0 }

/-- A load ends good in one happening (R175): LOADED, every block takes its values, and the station starts. -/
def loadGood (s : State) (c : StationConfig) : State :=
  let taken := (s.setLoader ⟨.loaded, .none, 0, .none, s.loader.bus⟩).setConfig c
  (taken.startClock.safeOutputs.startLine.enterListening).sampleInputs

/-- The body read is complete (R171 to R173). A body read takes exactly the bytes the length gives (R169, log 27). -/
def bodyDone (s : State) (body : List Byte) : State :=
  match s.loader.read, s.loader.read.bus with
  | .body head, some r =>
    if body.length = bodyCount head then
      let ended := s.endRead (r.answered (Config.recoveryClocks s.freeIndex) body)
      match imageFault (head ++ body) with
      | .none => ended.loadGood (configOf (head ++ body))
      | code => ended.loadFault code
    else s
  | _, _ => s

end State

end Sys2Proof.Machine
end

