-- ==== Sys2Proof/Machine/TapOps.lean ====
section
/-! DEFINITION. The operations of the Tap Port (chapter 9): the bytes of a transaction, the take points, the responses and
the two ends of a transaction; and the readout of the Event Store (R110 to R113). -/

namespace Sys2Proof.Machine

/-! ### Responses (11.4) -/

/-- The status record (R158). -/
def statusBytes (s : State) : List Byte :=
  [BitVec.ofNat 8 s.agreement.state.code, absentAsZero s.agreement.founder] ++ timeBytes s.now
    ++ leBytesSigned 2 s.clock.trim
    ++ [BitVec.ofNat 8 s.loader.state.code, BitVec.ofNat 8 s.loader.fault.code, BitVec.ofNat 8 s.access.tx.code,
      BitVec.ofNat 8 (bit s.tap.latch 0), BitVec.ofNat 8 s.arms.outbox.length, BitVec.ofNat 8 s.arms.cancels.length,
      BitVec.ofNat 8 s.schedule.length, BitVec.ofNat 8 s.capture.outbox.length,
      BitVec.ofNat 8 s.store.settling.length, BitVec.ofNat 8 s.store.lane.length]

/-- The fifteen line counters in the order of 7.6 (R160). -/
def counterBytes (s : State) : List Byte := s.framer.counters.toList.flatMap fun n => leBytes 2 n.toNat

/-- The view of COUNT EVENTS (R161). -/
def countBytes (s : State) : List Byte :=
  [BitVec.ofNat 8 s.store.lane.length, BitVec.ofNat 8 s.store.settling.length,
    BitVec.ofNat 8 (bit (s.store.gap == .pending) 0)]

/-- The schedule entry at a position, or an empty entry (R161). -/
def scheduleView (s : State) (position : Nat) : List Byte :=
  match s.schedule[position]? with
  | some e => scheduleBytes e
  | none => List.replicate 12 0

/-- The arm outbox record at a position, or an empty record (R161). -/
def outboxView (s : State) (position : Nat) : List Byte :=
  match s.arms.outbox[position]? with
  | some r => armRecordBytes r
  | none => List.replicate 14 0

/-! ### Parameters (R156, R160, R161, R163) -/

/-- The action time that the parameters of a POST TRIGGER give (R48, R163). A relative lead is added as R7 states, the round
modulo 2^24: DESIGN CHOICE (log 33), unsafe, for a lead of whole cycles of 2^24 rounds and a short rest then passes the checks
of R48, where R163 lets a lead too long be refused. -/
def postAction (s : State) (params : List Byte) : LineTime :=
  if byteAt params 1 = 0 then ⟨BitVec.ofNat 24 (numAt params 2 3), numAt params 5 3⟩
  else timeAdd s.len s.now (numAt params 2 6)

/-- A parameter is in its valid range (R156 test 3, R160, R161, R163, R164). -/
def paramsValid (s : State) (cmd : TapCommand) (params : List Byte) : Bool :=
  let n := (byteAt params 0).toNat
  match cmd with
  | .readCounters => n ≤ 1
  | .readPeer => validStationId (byteAt params 0)
  | .readSchedule => n ≤ 31
  | .readOutbox => n ≤ 7
  | .postTrigger => byteAt params 1 == 1 || (byteAt params 1 == 0 && numAt params 5 3 < s.len)
  | .readStatus | .countEvents | .readEvent | .cancelTrigger | .restart | .unknown => true

/-- The command is served in the present state (R156 test 2). -/
def tapReady (s : State) (cmd : TapCommand) : Bool :=
  s.agreement.state != .unset || cmd == .readStatus || cmd == .readCounters
    || (cmd == .restart && s.loader.state == .fault)

/-- The result code of tests 1 to 3 of R156; ACCEPTED stands for test 4. -/
def tapTest (s : State) (cmd : TapCommand) (params : List Byte) : ResultCode :=
  if cmd = .unknown then .badCommand
  else if !tapReady s cmd then .notReady
  else if !paramsValid s cmd params then .badParameter
  else .accepted

/-- The arm id byte that a POST TRIGGER returns with any result (R156). -/
def refusalData (cmd : TapCommand) : List Byte := if cmd = .postTrigger then [0] else []

namespace State

/-! ### Take points (R155) -/

/-- The response bytes still to be clocked out. -/
def respond (s : State) (result : ResultCode) (data : List Byte) : State :=
  s.setTap { s.tap with response := result.byte :: data }

/-- READ STATUS at its take point (R158, R159). -/
def takeReadStatus (s : State) : State :=
  (s.respond .accepted (statusBytes s)).setTap
    { s.tap with response := ResultCode.accepted.byte :: statusBytes s, setSinceTake := false }

/-- Every line counter set to 0 (R135). -/
def clearCounters (s : State) : State := s.setFramer { s.framer with counters := Vector.replicate 15 0 }

/-- READ COUNTERS at its take point: the values, then the clear in the same happening (R160). -/
def takeReadCounters (s : State) (option : Byte) : State :=
  let given := s.respond .accepted (counterBytes s)
  if option = 1 then given.clearCounters else given

/-- READ EVENT at its take point decides only the result code (R162). -/
def takeReadEvent (s : State) : State := s.setTap { s.tap with eventRead := .awaited }

/-- POST TRIGGER at its take point (R163, R48). -/
def takePost (s : State) (params : List Byte) : State :=
  let tag := byteAt params 0
  let action := postAction s params
  match s.tapArmCheck tag action with
  | .accepted => ((s.createArm tag action .tap).refreshTx).respond .accepted [s.newArmId]
  | refused => s.respond refused [0]

/-- CANCEL TRIGGER at its take point (R164, R56, R57). -/
def takeCancel (s : State) (id : Byte) : State := ((s.cancelEffect id).refreshTx).respond (s.cancelResult id) []

/-- RESTART at its take point: it is accepted, and waits for SCS to rise (R165). -/
def takeRestart (s : State) : State :=
  s.setTap { s.tap with response := [ResultCode.accepted.byte], restartTaken := true }

/-- The effect of a command that passes the tests of R156. -/
def takeCommand (s : State) (cmd : TapCommand) (params : List Byte) : State :=
  let first := byteAt params 0
  match cmd with
  | .readStatus => s.takeReadStatus
  | .readCounters => s.takeReadCounters first
  | .readPeer => s.respond .accepted (peerBytes (s.peerOf first))
  | .readSchedule => s.respond .accepted (scheduleView s first.toNat)
  | .readOutbox => s.respond .accepted (outboxView s first.toNat)
  | .countEvents => s.respond .accepted (countBytes s)
  | .readEvent => s.takeReadEvent
  | .postTrigger => s.takePost params
  | .cancelTrigger => s.takeCancel first
  | .restart => s.takeRestart
  | .unknown => s

/-- The take point of a transaction: the tests, the effect and the values, in one happening (R155, R156). -/
def takePoint (s : State) (cmd : TapCommand) (params : List Byte) : State :=
  match tapTest s cmd params with
  | .accepted => s.takeCommand cmd params
  | refused => s.respond refused (refusalData cmd)

/-! ### The Event Store's readout (R110 to R113) -/

/-- The response of a READ EVENT begins (R111): the head of the lane or an empty record, with GAP if it is PENDING. -/
def beginRead (s : State) : State :=
  let gap := s.store.gap == .pending
  let marked := if gap then s.setStore { s.store with gap := .offered } else s
  match s.store.lane with
  | [] =>
    marked.setTap { s.tap with
      response := ResultCode.accepted.byte :: emptyRecordBytes gap, eventRead := .empty }
  | r :: _ =>
    marked.setTap { s.tap with
      response := ResultCode.accepted.byte :: recordBytes r gap, eventRead := .head }

/-- The gap state as a READ EVENT completes (R110, R112). -/
def gapRead : Gap → Gap
  | .offered => .clear
  | other => other

/-- The gap state as a READ EVENT is aborted (R110, R113). -/
def gapAborted : Gap → Gap
  | .offered => .pending
  | other => other

/-- The READ EVENT is complete (R112). -/
def completeRead (s : State) : State :=
  match s.tap.eventRead with
  | .head => s.setStore { s.store with lane := s.store.lane.drop 1, gap := gapRead s.store.gap }
  | .empty => s.setStore { s.store with gap := gapRead s.store.gap }
  | _ => s

/-- The READ EVENT is aborted (R113). -/
def abortRead (s : State) : State :=
  match s.tap.eventRead with
  | .head | .empty => s.setStore { s.store with gap := gapAborted s.store.gap }
  | _ => s

/-! ### The bytes of a transaction (R154) -/

/-- The transaction state, and the byte clocked out on SDO while the byte now completed was clocked in. -/
def moveTap (s : State) (state : TapState) (sdo : Byte) : State := s.setTap { s.tap with state := state, sdo := sdo }

/-- The command byte completes (R154, R155). -/
def commandByte (s : State) (b : Byte) : State :=
  let named := s.setTap { s.tap with command := some (tapCommandOf b), params := [], sdo := 0 }
  if (tapCommandOf b).paramCount = 0 then (named.moveTap .turnaround 0).takePoint (tapCommandOf b) []
  else named.moveTap .parameters 0

/-- A parameter byte completes; the last one is the take point (R155). -/
def parameterByte (s : State) (cmd : TapCommand) (b : Byte) : State :=
  let params := s.tap.params ++ [b]
  let received := s.setTap { s.tap with params := params }
  if cmd.paramCount ≤ params.length then (received.moveTap .turnaround 0).takePoint cmd params
  else received.moveTap .parameters 0

/-- The turnaround byte completes and the response begins (R154, R111). -/
def turnaroundByte (s : State) : State :=
  let begun := if s.tap.eventRead = .awaited then s.beginRead else s
  begun.moveTap .response 0

/-- The transaction is complete (R154): a complete READ STATUS clears the latch unless it has been set since the take
point (R159), and a complete READ EVENT is reported to the store (R112). -/
def completeTransaction (s : State) : State :=
  match s.tap.command with
  | some .readStatus => if s.tap.setSinceTake then s else s.setTap { s.tap with latch := false }
  | some .readEvent => s.completeRead
  | _ => s

/-- A response byte has been clocked out (R154); after the last one the transaction is DONE. -/
def responseByte (s : State) : State :=
  match s.tap.response with
  | [] => s.moveTap .done 0
  | [b] => ((s.setTap { s.tap with response := [] }).completeTransaction).moveTap .done b
  | b :: rest => (s.setTap { s.tap with response := rest }).moveTap .response b

/-- A byte completes (R154). Bytes while SCS is high are ignored, and those after the response are 0 on SDO. -/
def byteCompleted (s : State) (b : Byte) : State :=
  match s.tap.state with
  | .idle => s
  | .command => s.commandByte b
  | .parameters =>
    match s.tap.command with
    | none => s
    | some cmd => s.parameterByte cmd b
  | .turnaround => s.turnaroundByte
  | .response => s.responseByte
  | .done => s.moveTap .done 0

/-! ### SCS (R154, R157, R165) -/

/-- SCS falls: in IDLE a transaction begins (R154). -/
def scsFall (s : State) : State :=
  if s.tap.state = .idle then s.setTap { Tap.reset with
    state := .command, latch := s.tap.latch, setSinceTake := s.tap.setSinceTake }
  else s

/-- The Tap Port in IDLE with its latch and mark as they are (R154). -/
def idleTap (s : State) : State :=
  s.setTap { Tap.reset with latch := s.tap.latch, setSinceTake := s.tap.setSinceTake }

/-- SCS rises: the transaction ends, aborted before DONE (R154, R157); an accepted RESTART takes effect (R165). -/
def scsRise (s : State) : State :=
  if s.tap.state = .idle then s
  else
    let ended := if s.tap.state = .response then s.abortRead else s
    if s.tap.restartTaken then ended.restart else ended.idleTap

/-! ### Commands -/

/-- `f` of the station, but for a station held in full reset, on which nothing but its release has an effect (R176). -/
def whileReleased (s : State) (f : State → State) : State := if s.resetHeld then s else f s

/-- `f` of a station that is not held, as a happening of the reference period now running: the end of a handling that follows it
belongs to no earlier period, for the reading of a period stands through the whole of it (R1, log 5). -/
def unlessHeld (s : State) (f : State → State) : State := s.whileReleased fun s => f (s.setLateHandling false)

/-- The level at an input pin. -/
def drivePin (s : State) (i : Fin 8) (level : Bool) : State :=
  s.setInPins (if level then s.inPins ||| BitVec.twoPow 8 i.val else s.inPins &&& ~~~BitVec.twoPow 8 i.val)

/-- The arm outbox record of `id` leaves, if no frame in flight carries it and its action time has passed (R53), or is passed by a
step that has been handed over in this period (R54, log 5). -/
def expireArmOf (s : State) (id : Byte) : State :=
  let looked := s.expireWhere fun r => r.id == id && s.armPassed r
  match s.clock.handed with
  | none => looked
  | some new => looked.atReading new fun h => h.expireWhere fun r => r.id == id && h.armStepped r

/-- The command byte `b` completes the transaction's take point: the port is in COMMAND. -/
def commandTakePoint (s : State) (b : Byte) : State := if s.tap.state = .command then s.byteCompleted b else s

/-- `b` is the last parameter byte of `cmd`. -/
def lastParameterDue (s : State) (cmd : TapCommand) : Bool :=
  s.tap.state == .parameters && s.tap.command == some cmd && s.tap.params.length + 1 == cmd.paramCount

/-- The last parameter byte of `cmd` completes: the take point. -/
def parameterTakePoint (s : State) (cmd : TapCommand) (b : Byte) : State :=
  if s.lastParameterDue cmd then s.byteCompleted b else s

end State

end Sys2Proof.Machine
end

