-- ==== Sys2Proof/Machine/Due.lean ====
section
/-! DEFINITION. The meanings of the commands that take what line time has reached: the Schedule's look (R72), a pulse end (R83), an
arm's expiry (R53) and the Event Store's look (R105). -/

namespace Sys2Proof.Machine

/-- SCHEDULE_ENTRY_DUE (R72). -/
def execScheduleEntryDue (s : State) : Host.Outcome State Fault Refusal :=
  .next (s.unlessHeld State.lookSchedule)

/-- PULSE_END (R83). -/
def execPulseEnd (output : Fin 8) (s : State) : Host.Outcome State Fault Refusal :=
  .next (s.unlessHeld fun s => s.endPulse output)

/-- ARM_EXPIRED (R53): the record of this id leaves, if its action time has passed and no frame in flight carries it; the Arm
Unit's report goes with this look at the reading (R49, R144). After a FRAME_HANDLING_END that has handed a step over in this period,
also if the step passes its action time (R54): the reaction is then taken before what follows in the period. -/
def execArmExpired (armId : Byte) (s : State) : Host.Outcome State Fault Refusal :=
  .next (s.unlessHeld fun s => (s.expireArmOf armId).refreshTx)

/-- SETTLE (R105). -/
def execSettle (s : State) : Host.Outcome State Fault Refusal :=
  .next (s.unlessHeld State.lookStore)

end Sys2Proof.Machine
end

