-- ==== Sys2Proof/Machine/Inputs.lean ====
section
/-! DEFINITION. The meanings of the commands at the field inputs (R89 to R92). -/

namespace Sys2Proof.Machine

/-- INPUT_CHANGE (R90): the pin stands at `level`, and the input is sampled in this reference period. -/
def execInputChange (input : Fin 8) (level : Bool) (s : State) : Host.Outcome State Fault Refusal :=
  .next ((s.drivePin input level).unlessHeld fun s => s.sampleInput input)

/-- EDGE_ACCEPTED (R91, R92): the samples of this reference period are taken, and the edges whose hold counts reach their hold
times at them are accepted in rising order of input number; after a FRAME_HANDLING_END that has handed a step over in this period,
as edges accepted after the step (R95). -/
def execEdgeAccepted (s : State) : Host.Outcome State Fault Refusal :=
  .next (s.unlessHeld fun s => (s.sampleInputs.acceptEdges s.storeNow).refreshTx)

end Sys2Proof.Machine
end

