-- ==== Sys2Proof/Machine/Loading.lean ====
section
/-! DEFINITION. The meanings of the outcomes of the reads of the configuration memory (R169 to R175). -/

namespace Sys2Proof.Machine

/-- READ_UNANSWERED (R169). -/
def execReadUnanswered (s : State) : Host.Outcome State Fault Refusal :=
  .next (s.unlessHeld State.readUnanswered)

/-- HEAD_READ_DONE (R170). -/
def execHeadReadDone (byte0 byte1 byte2 byte3 : Byte) (s : State) : Host.Outcome State Fault Refusal :=
  .next (s.unlessHeld fun s => s.headDone [byte0, byte1, byte2, byte3])

/-- BODY_READ_DONE (R171 to R175). -/
def execBodyReadDone (bytes : List Byte) (s : State) : Host.Outcome State Fault Refusal :=
  .next (s.unlessHeld fun s => s.bodyDone bytes)

end Sys2Proof.Machine
end

