-- ==== Sys2Proof/Machine/Period.lean ====
section
/-! DEFINITION. The meanings of the ends of a reference period: the plain one, and those named by what a round close or boundary in
them brings (R2 to R5, R18, R30 to R36, R151). A named one whose outcome this period's end does not have changes nothing
(log 4). ROUND_CLOSE, OVERTIME_END, MUTE_END, CLAMP_LIMIT_ADRIFT and DRIFT_LIMIT_REFOUND take the close and the boundary before
the slot start of their period, the others after it (log 3): each order of R144 has a command. ROUND_CLOSE takes an entry due at the
reading of a close that enters or leaves ADRIFT before that close, the others after it (log 9): each order of R76 has a command. -/

namespace Sys2Proof.Machine

/-- REFERENCE_PERIOD (R2). -/
def execReferencePeriod (s : State) : Host.Outcome State Fault Refusal :=
  .next (s.unlessHeld State.endPeriod)

/-- ROUND_CLOSE (R3). -/
def execRoundClose (s : State) : Host.Outcome State Fault Refusal :=
  .next (s.unlessHeld fun s => if s.closeDue then s.endPeriodClockFirst true else s)

/-- OVERTIME_END (R5). -/
def execOvertimeEnd (s : State) : Host.Outcome State Fault Refusal :=
  .next (s.unlessHeld fun s => if s.overtimeEndDue then s.endPeriodClockFirst false else s)

/-- PEER_BARRED (R30). -/
def execPeerBarred (peer : StationId) (s : State) : Host.Outcome State Fault Refusal :=
  .next (s.unlessHeld fun s => if s.barringDue peer then s.endPeriodNamed else s)

/-- PEER_SILENT_ABSENT (R31). -/
def execPeerSilentAbsent (peer : StationId) (s : State) : Host.Outcome State Fault Refusal :=
  .next (s.unlessHeld fun s => if s.silenceDue peer then s.endPeriodNamed else s)

/-- BARRED_ROUNDS_END (R31). -/
def execBarredRoundsEnd (peer : StationId) (s : State) : Host.Outcome State Fault Refusal :=
  .next (s.unlessHeld fun s => if s.barredEndDue peer then s.endPeriodNamed else s)

/-- LISTEN_PERIOD_END (R18). -/
def execListenPeriodEnd (s : State) : Host.Outcome State Fault Refusal :=
  .next (s.unlessHeld fun s => if s.listenEndDue then s.endPeriodNamed else s)

/-- GATHERING_PROGRESS_LOCKED (R33). -/
def execGatheringProgressLocked (s : State) : Host.Outcome State Fault Refusal :=
  .next (s.unlessHeld fun s => if s.progressDue then s.endPeriodNamed else s)

/-- GATHERING_LONELY_ALONE (R33). -/
def execGatheringLonelyAlone (s : State) : Host.Outcome State Fault Refusal :=
  .next (s.unlessHeld fun s => if s.gatheringLonelyDue then s.endPeriodNamed else s)

/-- LOCKED_LONELY_ALONE (R34). -/
def execLockedLonelyAlone (s : State) : Host.Outcome State Fault Refusal :=
  .next (s.unlessHeld fun s => if s.lockedLonelyDue then s.endPeriodNamed else s)

/-- CLAMP_LIMIT_ADRIFT (R36). -/
def execClampLimitAdrift (s : State) : Host.Outcome State Fault Refusal :=
  .next (s.unlessHeld fun s => if s.clampDue then s.endPeriodClockFirst false else s)

/-- DRIFT_LIMIT_REFOUND (R35). -/
def execDriftLimitRefound (s : State) : Host.Outcome State Fault Refusal :=
  .next (s.unlessHeld fun s => if s.driftDue then s.endPeriodClockFirst false else s)

/-- MUTE_END (R151). -/
def execMuteEnd (s : State) : Host.Outcome State Fault Refusal :=
  .next (s.unlessHeld fun s => if s.muteEndDue then s.endPeriodClockFirst false else s)

end Sys2Proof.Machine
end

