-- ==== Sys2Proof/Machine/Reception.lean ====
section
/-! DEFINITION. The meanings of recognised symbols (R124 to R132) and of the end of a handling (R134). -/

namespace Sys2Proof.Machine

/-- RECEIVE_OPEN (R124, R125). -/
def execReceiveOpen (s : State) : Host.Outcome State Fault Refusal :=
  .next (s.unlessHeld fun s => s.recognise State.takeOpen)

/-- RECEIVE_DATA_SYMBOL (R124, R125). -/
def execReceiveDataSymbol (byte : Byte) (s : State) : Host.Outcome State Fault Refusal :=
  .next (s.unlessHeld fun s => s.recognise (State.takeData byte))

/-- RECEIVE_QUASH (R124, R125). -/
def execReceiveQuash (s : State) : Host.Outcome State Fault Refusal :=
  .next (s.unlessHeld fun s => s.recognise State.takeQuash)

/-- RECEIVE_INVALID_SYMBOL (R118, R124, R125). One of the three patterns is no invalid symbol (R118). -/
def execReceiveInvalidSymbol (content : Byte) (s : State) : Host.Outcome State Fault Refusal :=
  .next (s.unlessHeld fun s =>
    if controlPatterns.contains content then s else s.recognise State.takeInvalid)

/-- RECEIVE_SHUT (R124, R126 to R132). -/
def execReceiveShut (s : State) : Host.Outcome State Fault Refusal :=
  .next (s.unlessHeld fun s => s.recognise State.takeShut)

/-- FRAME_HANDLING_END (R133, R134). It alone may belong to a reference period that has been ended, where it is the first command
after that end; whatever follows it does not (R1, R9, log 5). -/
def execFrameHandlingEnd (s : State) : Host.Outcome State Fault Refusal :=
  .next (s.whileReleased fun s => s.endHandling.setLateHandling false)

end Sys2Proof.Machine
end

