-- ==== Sys2Proof/Machine/Resets.lean ====
section
/-! DEFINITION. The meanings of the commands of the RESET pin (R176). No other command has an effect while the pin is asserted,
but for the levels at the input pins. -/

namespace Sys2Proof.Machine

/-- FULL_RESET (R176): every block takes its full-reset values, and the station is held until RESET_RELEASED. -/
def execFullReset (s : State) : Host.Outcome State Fault Refusal :=
  .next s.fullReset

/-- RESET_RELEASED (R176): the load begins. -/
def execResetReleased (s : State) : Host.Outcome State Fault Refusal :=
  .next s.releaseReset

end Sys2Proof.Machine
end

