-- ==== Sys2Proof/Machine/Sending.lean ====
section
/-! DEFINITION. The meanings of the happenings of an attempt to send (R144 to R149). -/

namespace Sys2Proof.Machine

/-- SLOT_START (R144, R145). -/
def execSlotStart (s : State) : Host.Outcome State Fault Refusal :=
  .next (s.unlessHeld State.takeSlot)

/-- SYMBOL_READBACK (R146). -/
def execSymbolReadback (bits : BitVec 10) (s : State) : Host.Outcome State Fault Refusal :=
  .next (s.unlessHeld fun s => s.readback bits)

/-- FRAME_GOOD_END (R147). -/
def execFrameGoodEnd (s : State) : Host.Outcome State Fault Refusal :=
  .next (s.unlessHeld State.endFrame)

/-- QUASH_END (R148). -/
def execQuashEnd (s : State) : Host.Outcome State Fault Refusal :=
  .next (s.unlessHeld State.endQuash)

end Sys2Proof.Machine
end

