-- ==== Sys2Proof/Machine/Symbols.lean ====
section
/-! DEFINITION. The meanings of the happenings of symbols and silence on LRX (R118, R119, R139). -/

namespace Sys2Proof.Machine

/-- SYMBOL_BEGINS (R118). -/
def execSymbolBegins (s : State) : Host.Outcome State Fault Refusal :=
  .next (s.unlessHeld State.beginSymbol)

/-- START_BIT_GLITCH (R118). -/
def execStartBitGlitch (s : State) : Host.Outcome State Fault Refusal :=
  .next (s.unlessHeld State.dropGlitch)

/-- SYMBOL_CONFIRMED (R118, R139). -/
def execSymbolConfirmed (s : State) : Host.Outcome State Fault Refusal :=
  .next (s.unlessHeld State.confirmSymbol)

/-- SYMBOL_ENDED (R139). -/
def execSymbolEnded (s : State) : Host.Outcome State Fault Refusal :=
  .next (s.unlessHeld State.endSymbol)

/-- QUIET (R119). -/
def execQuiet (s : State) : Host.Outcome State Fault Refusal :=
  .next (s.unlessHeld State.takeQuiet)

/-- GAP_COMPLETE (R139). -/
def execGapComplete (s : State) : Host.Outcome State Fault Refusal :=
  .next (s.unlessHeld State.completeGap)

end Sys2Proof.Machine
end

