-- ==== Sys2Proof/Machine/Transaction.lean ====
section
/-! DEFINITION. The meanings of the commands at the tap port: the ends of a transaction, its bytes and its take points (chapter 9). -/

namespace Sys2Proof.Machine

/-- SCS_FALL (R154). -/
def execScsFall (s : State) : Host.Outcome State Fault Refusal :=
  .next (s.unlessHeld State.scsFall)

/-- SCS_RISE (R154, R157, R165). -/
def execScsRise (s : State) : Host.Outcome State Fault Refusal :=
  .next (s.unlessHeld State.scsRise)

/-- TAP_BYTE_COMPLETED (R154). Any byte may come by this command; the commands below are those of one kind each
(log 24). -/
def execTapByteCompleted (byte : Byte) (s : State) : Host.Outcome State Fault Refusal :=
  .next (s.unlessHeld fun s => s.byteCompleted byte)

/-- RESTART (R165): the take point at its command byte. -/
def execRestart (s : State) : Host.Outcome State Fault Refusal :=
  .next (s.unlessHeld fun s => s.commandTakePoint 0x20)

/-- READ_STATUS (R158). -/
def execReadStatus (s : State) : Host.Outcome State Fault Refusal :=
  .next (s.unlessHeld fun s => s.commandTakePoint 0x01)

/-- READ_COUNTERS (R160). -/
def execReadCounters (clearOption : Byte) (s : State) : Host.Outcome State Fault Refusal :=
  .next (s.unlessHeld fun s => s.parameterTakePoint .readCounters clearOption)

/-- READ_PEER (R161). -/
def execReadPeer (id : Byte) (s : State) : Host.Outcome State Fault Refusal :=
  .next (s.unlessHeld fun s => s.parameterTakePoint .readPeer id)

/-- READ_SCHEDULE (R161). -/
def execReadSchedule (position : Byte) (s : State) : Host.Outcome State Fault Refusal :=
  .next (s.unlessHeld fun s => s.parameterTakePoint .readSchedule position)

/-- READ_OUTBOX (R161). -/
def execReadOutbox (position : Byte) (s : State) : Host.Outcome State Fault Refusal :=
  .next (s.unlessHeld fun s => s.parameterTakePoint .readOutbox position)

/-- COUNT_EVENTS (R161). -/
def execCountEvents (s : State) : Host.Outcome State Fault Refusal :=
  .next (s.unlessHeld fun s => s.commandTakePoint 0x06)

/-- READ_EVENT (R162). -/
def execReadEvent (s : State) : Host.Outcome State Fault Refusal :=
  .next (s.unlessHeld fun s => s.commandTakePoint 0x07)

/-- POST_TRIGGER (R163). -/
def execPostTrigger (lastByte : Byte) (s : State) : Host.Outcome State Fault Refusal :=
  .next (s.unlessHeld fun s => s.parameterTakePoint .postTrigger lastByte)

/-- CANCEL_TRIGGER (R164). -/
def execCancelTrigger (armId : Byte) (s : State) : Host.Outcome State Fault Refusal :=
  .next (s.unlessHeld fun s => s.parameterTakePoint .cancelTrigger armId)

/-- BAD_COMMAND (R155, R156). One of the ten codes is no unknown command byte. -/
def execBadCommand (code : Byte) (s : State) : Host.Outcome State Fault Refusal :=
  .next (s.unlessHeld fun s => if tapCodes.contains code then s else s.commandTakePoint code)

/-- READ_EVENT_RESPONSE_BEGIN (R111): the turnaround byte of an accepted READ EVENT completes; its value is not used
(R154). -/
def execReadEventResponseBegin (s : State) : Host.Outcome State Fault Refusal :=
  .next (s.unlessHeld fun s =>
    if s.tap.state = .turnaround ∧ s.tap.eventRead = .awaited then s.byteCompleted 0 else s)

/-- TRANSACTION_DONE (R154): the last byte of the response is clocked out; the byte clocked in is not used. -/
def execTransactionDone (s : State) : Host.Outcome State Fault Refusal :=
  .next (s.unlessHeld fun s =>
    if s.tap.state = .response ∧ s.tap.response.length = 1 then s.byteCompleted 0 else s)

end Sys2Proof.Machine
end

