-- ==== Sys2Proof/Machine/Dispatch.lean ====
section
/-! DEFINITION. What each command does: one arm per constructor of Instr. -/

namespace Sys2Proof.Machine

/-- The effect of a command on everything but the queue (log 1). -/
def exec (i : Instr) (s : State) : Host.Outcome State Fault Refusal :=
  match i with
  | .fullReset => Sys2Proof.Machine.execFullReset s
  | .referencePeriod => Sys2Proof.Machine.execReferencePeriod s
  | .roundClose => Sys2Proof.Machine.execRoundClose s
  | .overtimeEnd => Sys2Proof.Machine.execOvertimeEnd s
  | .peerBarred peer => Sys2Proof.Machine.execPeerBarred peer s
  | .peerSilentAbsent peer => Sys2Proof.Machine.execPeerSilentAbsent peer s
  | .barredRoundsEnd peer => Sys2Proof.Machine.execBarredRoundsEnd peer s
  | .listenPeriodEnd => Sys2Proof.Machine.execListenPeriodEnd s
  | .gatheringProgressLocked => Sys2Proof.Machine.execGatheringProgressLocked s
  | .gatheringLonelyAlone => Sys2Proof.Machine.execGatheringLonelyAlone s
  | .lockedLonelyAlone => Sys2Proof.Machine.execLockedLonelyAlone s
  | .clampLimitAdrift => Sys2Proof.Machine.execClampLimitAdrift s
  | .driftLimitRefound => Sys2Proof.Machine.execDriftLimitRefound s
  | .muteEnd => Sys2Proof.Machine.execMuteEnd s
  | .scheduleEntryDue => Sys2Proof.Machine.execScheduleEntryDue s
  | .pulseEnd output => Sys2Proof.Machine.execPulseEnd output s
  | .armExpired armId => Sys2Proof.Machine.execArmExpired armId s
  | .settle => Sys2Proof.Machine.execSettle s
  | .inputChange input level => Sys2Proof.Machine.execInputChange input level s
  | .edgeAccepted => Sys2Proof.Machine.execEdgeAccepted s
  | .symbolConfirmed => Sys2Proof.Machine.execSymbolConfirmed s
  | .symbolEnded => Sys2Proof.Machine.execSymbolEnded s
  | .gapComplete => Sys2Proof.Machine.execGapComplete s
  | .quiet => Sys2Proof.Machine.execQuiet s
  | .receiveOpen => Sys2Proof.Machine.execReceiveOpen s
  | .receiveDataSymbol byte => Sys2Proof.Machine.execReceiveDataSymbol byte s
  | .receiveQuash => Sys2Proof.Machine.execReceiveQuash s
  | .receiveInvalidSymbol content => Sys2Proof.Machine.execReceiveInvalidSymbol content s
  | .receiveShut => Sys2Proof.Machine.execReceiveShut s
  | .frameHandlingEnd => Sys2Proof.Machine.execFrameHandlingEnd s
  | .slotStart => Sys2Proof.Machine.execSlotStart s
  | .symbolReadback bits => Sys2Proof.Machine.execSymbolReadback bits s
  | .frameGoodEnd => Sys2Proof.Machine.execFrameGoodEnd s
  | .quashEnd => Sys2Proof.Machine.execQuashEnd s
  | .scsFall => Sys2Proof.Machine.execScsFall s
  | .scsRise => Sys2Proof.Machine.execScsRise s
  | .restart => Sys2Proof.Machine.execRestart s
  | .readStatus => Sys2Proof.Machine.execReadStatus s
  | .readCounters clearOption => Sys2Proof.Machine.execReadCounters clearOption s
  | .readPeer id => Sys2Proof.Machine.execReadPeer id s
  | .readSchedule position => Sys2Proof.Machine.execReadSchedule position s
  | .readOutbox position => Sys2Proof.Machine.execReadOutbox position s
  | .countEvents => Sys2Proof.Machine.execCountEvents s
  | .readEvent => Sys2Proof.Machine.execReadEvent s
  | .postTrigger lastByte => Sys2Proof.Machine.execPostTrigger lastByte s
  | .cancelTrigger armId => Sys2Proof.Machine.execCancelTrigger armId s
  | .badCommand code => Sys2Proof.Machine.execBadCommand code s
  | .readEventResponseBegin => Sys2Proof.Machine.execReadEventResponseBegin s
  | .transactionDone => Sys2Proof.Machine.execTransactionDone s
  | .readUnanswered => Sys2Proof.Machine.execReadUnanswered s
  | .headReadDone byte0 byte1 byte2 byte3 => Sys2Proof.Machine.execHeadReadDone byte0 byte1 byte2 byte3 s
  | .bodyReadDone bytes => Sys2Proof.Machine.execBodyReadDone bytes s
  | .tapByteCompleted byte => Sys2Proof.Machine.execTapByteCompleted byte s
  | .symbolBegins => Sys2Proof.Machine.execSymbolBegins s
  | .startBitGlitch => Sys2Proof.Machine.execStartBitGlitch s
  | .resetReleased => Sys2Proof.Machine.execResetReleased s

end Sys2Proof.Machine
end

