-- ==== Sys2Proof/Safety.lean ====
section
/-! DEFINITION. The conditions that the statements are written in: when a reference period ends with one single advance,
when it ends with a round close, and what the spec's tables of valid ranges and its invariants say of a station. -/

namespace Sys2Proof.Safety

open Sys2Proof.Machine

/-! ### Conditions of one command -/

/-- The clock runs, and the reference period now running ends with one single advance (R2) and without an adoption step
(R9). -/
def SingleAdvance (s : State) : Prop :=
  s.resetHeld = false ∧ s.clock.running = true ∧ s.clock.pace + s.clock.trim.natAbs < 1000000 ∧ s.clock.handed = none

/-- The reference period now running ends with one single advance that closes the round (R1, R3). -/
def ClosingNow (s : State) : Prop := SingleAdvance s ∧ s.clock.overtime = 0 ∧ s.clock.now.phase + 1 = s.config.roundLength

/-- The clock runs, no step is handed over, and the reference period now running ends with two single advances (R2). -/
def DoubleAdvance (s : State) : Prop :=
  s.resetHeld = false ∧ s.clock.running = true ∧ 1000000 ≤ s.clock.pace + s.clock.trim.natAbs ∧ 0 < s.clock.trim ∧
    s.clock.handed = none

/-- No slot of a window starts in the reference period now running, or its start has been taken (R139, R144). -/
def NoSlotStart (s : State) : Prop :=
  (s.access.monitor = .gap → s.access.gapCount ≠ 120) ∧
    (s.access.monitor = .window → s.access.slotCount = 0 → s.access.slotTaken = true)

/-- The looks that the present reading calls for have been taken: the head of the Schedule, the pulse ends, the arm outbox and
the head of the settling list give nothing to take at it (R72, R83, R53, R105). -/
def LooksTaken (s : State) : Prop :=
  (∀ e ∈ s.schedule.head?, earlier s.len s.clock.now e.due = true) ∧
    (∀ (i : Fin 8) (t : LineTime), (s.outputs[i]).pulseEnd = some t → earlier s.len s.clock.now t = true) ∧
    (∀ r ∈ s.arms.outbox, later s.len s.clock.now r.action = false) ∧
    ∀ r ∈ s.store.settling.head?, -((s.config.horizon * s.len : Nat) : Int) < timeDiff s.len s.storeNow r.stamp

/-- The start of a slot of a window falls in the reference period now running and has not been taken (R139, R144). -/
def SlotStarting (s : State) : Prop :=
  s.resetHeld = false ∧ s.access.monitor = .window ∧ s.access.slotCount = 0 ∧ s.access.slotTaken = false

/-- `t` is `s` at the Access Unit but for the reports of pending content, which are as `t` has them, and a transmitter in IDLE or
WAITING, which follows them (R49, R143). -/
def Reported (s t : State) : Prop :=
  t.access = { s.access with
    reportA := t.classA
    tx := if s.access.tx = .idle ∨ s.access.tx = .waiting then (if t.classA || t.classB then .waiting else .idle)
      else s.access.tx }

/-- The state is one of the acting states, in which frames and requests for arms are taken. -/
def Acting (s : State) : Prop :=
  s.agreement.state = .alone ∨ s.agreement.state = .gathering ∨ s.agreement.state = .locked

/-- A note of this station's state now: SURE in ALONE and LOCKED (R108). -/
def noteNow (s : State) (code : NoteCode) (detail : Byte) (origin : StationId) (tag : Byte) : EventRecord :=
  ⟨.note code detail, origin, s.agreement.state == .alone || s.agreement.state == .locked, tag, s.clock.now, false, false,
    false⟩

/-- The insertion requests of an arm: one for each binding of its tag, in rising order of index (R44). -/
def requestsOf (s : State) (sender : StationId) (armId tag : Byte) (action : LineTime) : List ScheduleEntry :=
  (s.config.bindings.zipIdx.filter fun b => b.1.tag == tag).map fun b =>
    ⟨timeAdd s.len action b.1.offset, b.1.output, b.1.action, sender, armId, tag, b.2⟩

/-- The handling of the frame ends, and leaves the Framer as `after`: its buffer is FREE, and the other is taken if it is FULL
(R133). -/
def HandlingEnds (s : State) (f : ReceivedFrame) (after : Framer) : Prop :=
  s.resetHeld = false ∧ s.framer.ripe = true ∧
    (s.framer.bufferA = .handling f ∧
        after = { s.framer with
          bufferA := .free, ripe := false
          bufferB := match s.framer.bufferB with | .full g => .handling g | b => b } ∨
      (∀ g, s.framer.bufferA ≠ .handling g) ∧ s.framer.bufferB = .handling f ∧
        after = { s.framer with
          bufferB := .free, ripe := false
          bufferA := match s.framer.bufferA with | .full g => .handling g | a => a })

/-- The offset that a TIME frame gives, or none where its stamp is not usable (R22). -/
def FrameOffset (s : State) (f : ReceivedFrame) (x : Option Int) : Prop :=
  ∃ d : Int,
    d = timeDiff s.config.roundLength f.stamp
      (timeAdd s.config.roundLength
        (carriedTime s.config.roundLength (numAt f.body 2 3) (numAt f.body 5 3)) s.config.lineDelay) ∧
    (f.stamp.phase + 1 = s.config.roundLength ∧ x = none ∨
      f.stamp.phase + 1 ≠ s.config.roundLength ∧
        (f.adjust = s.agreement.adjustCount ∧ x = some d ∨
          s.agreement.adjustCount = f.adjust + 1 ∧
            ((∃ c, s.agreement.lastAdjust = .correction c ∧ x = some (d - c)) ∨
              s.agreement.lastAdjust = .step ∧ x = none) ∨
          f.adjust ≠ s.agreement.adjustCount ∧ s.agreement.adjustCount ≠ f.adjust + 1 ∧ x = none))

/-- The bytes are those of a frame of this kind byte, sender and body, with the body's length and the check (R120, R121). -/
def FrameOf (bytes : List Byte) (kindByte : Byte) (sender : StationId) (body : List Byte) : Prop :=
  bytes = (kindByte :: sender :: BitVec.ofNat 8 body.length :: body) ++
    checkBytes (checkOf (kindByte :: sender :: BitVec.ofNat 8 body.length :: body))

/-- A symbol has come to its recognition at a receiver that runs (R118). -/
def Recognising (s : State) : Prop :=
  s.resetHeld = false ∧ s.framer.receiver ≠ .off ∧ s.framer.symbol = .confirmed 38

/-- A counter raised by 1, and left at 65,535 (R135). -/
def raised (n : BitVec 16) : BitVec 16 := if n.toNat = 65535 then n else n + 1

/-- The line counters after a count under place `k`: it is raised, but not while a frame is sent or quashed (R128, R135). -/
def counted (s : State) (k : Fin 15) : Vector (BitVec 16) 15 :=
  if s.access.tx = .sending ∨ s.access.tx = .quashing then s.framer.counters
  else s.framer.counters.set k.val (raised s.framer.counters[k])

/-- No frame is being sent or quashed (R128). -/
def NotTransmitting (s : State) : Prop := s.access.tx ≠ .sending ∧ s.access.tx ≠ .quashing

/-- What the end of a reference period leaves as it is, whatever falls in it: the configuration, the Loader, the pins, whether
the clock runs and its start-bit time, the receive buffers and the kept start-bit count, the transaction at the tap port, and
the queue of waiting commands. -/
def PeriodFrame (s t : State) : Prop :=
  t.config = s.config ∧ t.loader = s.loader ∧ t.inPins = s.inPins ∧ t.resetHeld = s.resetHeld ∧
    t.freeIndex = s.freeIndex ∧ t.pending = s.pending ∧ t.clock.running = s.clock.running ∧
    t.clock.startBit = s.clock.startBit ∧ t.framer.bufferA = s.framer.bufferA ∧
    t.framer.bufferB = s.framer.bufferB ∧ t.framer.aFirst = s.framer.aFirst ∧
    t.framer.startCount = s.framer.startCount ∧
    t.tap = { s.tap with latch := t.tap.latch, setSinceTake := t.tap.setSinceTake }

/-- A period that brings no close leaves the Agreement Unit but for its own TIME frame, and no handling can follow a close in
it. -/
def NoClose (s t : State) : Prop :=
  t.agreement = { s.agreement with timeFrame := t.agreement.timeFrame } ∧ t.lateHandling = false

/-- `s` where a command that is no end of a period finds it: a handling that ends after the command belongs to no period that has
been ended (R1, log 5). It is `s` where that was so before. -/
abbrev inPeriod (s : State) : State := s.setLateHandling false

/-- The command is an end of a reference period (log 4). -/
def EndsPeriod (c : Instr) : Prop :=
  c ∈ [.referencePeriod, .roundClose, .overtimeEnd, .listenPeriodEnd, .gatheringProgressLocked, .gatheringLonelyAlone,
    .lockedLonelyAlone, .clampLimitAdrift, .driftLimitRefound, .muteEnd] ∨
  ∃ peer, c = .peerBarred peer ∨ c = .peerSilentAbsent peer ∨ c = .barredRoundsEnd peer

/-! ### The counts in reference periods -/

/-- The line monitor's counts after one more reference period (R139): the gap count rises, and the gap of 120 ends in the window's
slot 0; the slot count rises, and at 40 the next slot begins, slot 0 after slot 71; BUSY stays until the kind bit ends. -/
def MonitorCounts (s t : State) : Prop :=
  (s.access.monitor = .gap → s.access.gapCount < 120 →
    t.access.monitor = .gap ∧ t.access.gapCount = s.access.gapCount + 1) ∧
  (s.access.monitor = .gap → s.access.gapCount = 120 →
    t.access.monitor = .window ∧ t.access.slotIndex = 0 ∧ t.access.slotCount = 1) ∧
  (s.access.monitor = .window → s.access.slotCount < 39 →
    t.access.monitor = .window ∧ t.access.slotIndex = s.access.slotIndex ∧ t.access.slotCount = s.access.slotCount + 1) ∧
  (s.access.monitor = .window → s.access.slotCount = 39 →
    t.access.monitor = .window ∧ t.access.slotIndex = (s.access.slotIndex + 1) % 72 ∧ t.access.slotCount = 0 ∧
      t.access.slotTaken = false) ∧
  (s.access.monitor = .busy → s.framer.symbol ≠ .recognised 40 → t.access.monitor = .busy) ∧
  (s.access.monitor = .busy → s.framer.symbol = .recognised 40 →
    t.access.monitor = .gap ∧ t.access.gapCount = 1)

/-- The age of the symbol on LRX after one more reference period: it rises, waits at the two samples for what is found there
(log 10), and ends with the kind bit, 40 reference periods after the symbol began (R118). -/
def SymbolAges (s t : State) : Prop :=
  (s.framer.symbol = .none → t.framer.symbol = .none) ∧
  (∀ noted adjust age, s.framer.symbol = .begun noted adjust age →
    (age < 2 → t.framer.symbol = .begun noted adjust (age + 1)) ∧
    (age = 2 → t.framer.symbol = .begun noted adjust 2)) ∧
  (∀ age, s.framer.symbol = .confirmed age →
    (age < 38 → t.framer.symbol = .confirmed (age + 1)) ∧ (age = 38 → t.framer.symbol = .confirmed 38)) ∧
  ∀ age, s.framer.symbol = .recognised age →
    (age < 40 → t.framer.symbol = .recognised (age + 1)) ∧ (age = 40 → t.framer.symbol = .none)

/-- The silence after one more reference period (R119): it rises to one symbol time while the receiver runs and no confirmed symbol
is on the line, and begins anew as the kind bit of a symbol ends. -/
def SilenceCounts (s t : State) : Prop :=
  s.framer.receiver ≠ .off →
    (s.framer.symbol = .none ∨ (∃ noted adjust age, s.framer.symbol = .begun noted adjust age) →
      (s.framer.silence < 40 → t.framer.silence = s.framer.silence + 1) ∧ (s.framer.silence = 40 → t.framer.silence = 40)) ∧
    ((∃ age, s.framer.symbol = .confirmed age) ∨ (∃ age, age < 40 ∧ s.framer.symbol = .recognised age) →
      t.framer.silence = s.framer.silence) ∧
    (s.framer.symbol = .recognised 40 → t.framer.silence = 1)

/-- The transmit symbol engine after one more reference period (R117, R122, R138): LTX carries the symbol's bits, four reference
periods each; the kind bit of a frame's symbol waits for its readback (log 10); after it the next symbol begins, one QUASH after
the symbol in progress of an abandoned frame; LDE is released as the SHUT or the QUASH ends, and where no slot starts then the
engine is at rest. An engine at rest sends nothing but a frame begun in the period. -/
def EngineMoves (s t : State) : Prop :=
  (s.framer.engine = none → t.framer.engine = none ∨
    ∃ e, t.framer.engine = some e ∧ e.index = 0 ∧ e.age = 1 ∧ e.course = .frame ∧ e.stamp = s.clock.now) ∧
  ∀ e, s.framer.engine = some e →
    (e.age < 38 → t.framer.engine = some { e with age := e.age + 1 } ∧ t.lde = true ∧
      t.ltx = e.symbol.bits.getLsbD ((e.age + 1) / 4)) ∧
    (e.age = 38 →
      (e.readWell = true ∨ e.course ≠ .frame ∨ e.orphan = true → t.framer.engine = some { e with age := 39 }) ∧
      (e.readWell = false → e.course = .frame → e.orphan = false → t.framer.engine = some e) ∧ t.lde = true) ∧
    (e.age = 39 →
      (e.course = .frame → e.index ≤ e.bytes.length →
        t.framer.engine = some { e with index := e.index + 1, age := 0, readWell := false } ∧ t.lde = true) ∧
      (e.course = .frame → e.bytes.length < e.index → t.framer.engine = some { e with age := 40 } ∧ t.lde = false) ∧
      (e.course = .abandon → t.framer.engine = some { e with course := .quash, age := 0 } ∧ t.lde = true) ∧
      (e.course = .quash → t.framer.engine = some { e with age := 40 } ∧ t.lde = false)) ∧
    (e.age = 40 →
      e.course = .quash ∨ e.course = .frame ∧ e.bytes.length < e.index ∧ (e.orphan = true ∨ e.readWell = true) →
      NoSlotStart s → t.framer.engine = none ∧ t.lde = false)

/-! ### Arms in flight and arms that leave -/

/-- The arm id is carried by an ARM frame in flight (R49, R53). -/
def CarriesArm (s : State) (id : Byte) : Prop :=
  ∃ round carried, s.arms.inFlight = .arms round carried ∧ ∃ a ∈ carried, a.id = id

/-- The arm id is carried by a CANCEL frame in flight (R57, R58). -/
def CarriesCancel (s : State) (id : Byte) : Prop :=
  ∃ round carried, s.arms.inFlight = .cancels round carried ∧ ∃ a ∈ carried, a.id = id

/-- The input that holds the record's id as its outstanding arm holds none, and every other input is as it was (R45). -/
def Released (s t : State) (r : ArmRecord) : Prop :=
  ∀ j : Fin 8, t.capture.filters[j] =
    if r.source ≠ .tap ∧ (s.capture.filters[j]).outstanding = some r.id then
      { s.capture.filters[j] with outstanding := none } else s.capture.filters[j]

/-- The step to `new` passes the record: its action time is earlier, and no frame in flight carries it (R54). -/
def passedBy (s : State) (new : LineTime) (r : ArmRecord) : Bool :=
  earlier s.len r.action new && !s.arms.inFlight.carriesArm r.id

/-- `t` is `s` after the Arm Unit's reaction to a step to `new` (R54): the records that it passes have left, each not effective one
with an ARM-EXPIRED note at the new line time, oldest first (log 21); the inputs that held them hold none; nothing else changes. -/
def ArmsStepped (s t : State) (new : LineTime) : Prop :=
  t = ((s.setArms { s.arms with outbox := s.arms.outbox.filter fun r => !passedBy s new r }).setCapture t.capture).setStore
    (((s.arms.outbox.filter fun r => passedBy s new r && !r.effective).map fun r : ArmRecord =>
      (⟨.note .armExpired r.id, s.config.id, s.agreement.state == .alone || s.agreement.state == .locked, r.tag, new, false, false,
        false⟩ : EventRecord)).foldl State.takeRecord s).store ∧
  t.capture.outbox = s.capture.outbox ∧ t.capture.inFlight = s.capture.inFlight ∧
  ∀ j : Fin 8, t.capture.filters[j] =
    if ∃ r ∈ s.arms.outbox, passedBy s new r = true ∧ r.source ≠ .tap ∧ (s.capture.filters[j]).outstanding = some r.id then
      { s.capture.filters[j] with outstanding := none } else s.capture.filters[j]

/-! ### The notes of a close -/

/-- Nothing but the close itself gives the Event Store a record in this period: the inputs have been sampled and hold no edge, the
arm outbox is empty and no frame is being sent. -/
def Calm (s : State) : Prop :=
  s.sampled = 0xFF ∧ (∀ i : Fin 8, (s.capture.filters[i]).condition = .stable) ∧ s.arms.outbox = [] ∧
    s.framer.engine = none

/-- The close of `s` gives the entry of station `i + 1` its third strike (R30). -/
def thirdStrike (s : State) (i : Fin 24) : Bool :=
  (s.agreement.peers[i]).contributes s.agreement.timeline && 2 ≤ (s.agreement.peers[i]).strikes &&
    4 * (s.config.stepLimit : Int) <
      |(s.agreement.peers[i]).offset.getD 0 - (s.agreement.figures s.config.stepLimit).raw|

/-- The notes of the close that takes `s` to `t`, at the reading after it: one PEER-BARRED note for each entry barred, with the
peer's id as origin, detail 3 and tag 0 (R30), in rising order of id (log 21); and the AGREEMENT note with the new state's code
where the state changes (R16). A note is SURE by the state in which it is made (R108). -/
def closeNotes (s t : State) : List EventRecord :=
  (((List.finRange 24).filter (thirdStrike s)).map fun i : Fin 24 =>
      noteNow (s.setClock t.clock) .peerBarred 3 (BitVec.ofNat 8 (i.val + 1)) 0) ++
    if t.agreement.state = s.agreement.state then []
    else [noteNow t .agreement (BitVec.ofNat 8 t.agreement.state.code) s.config.id 0]

/-- The note of an entry that falls due at the reading of `t`, in the agreement state of `u`: ACTED where the output logs, and
MISSED in ADRIFT (R71, R72). -/
def dueNotes (u t : State) (e : ScheduleEntry) : List EventRecord :=
  if u.agreement.state = .adrift then
    [noteNow (u.setClock t.clock) .missed (BitVec.ofNat 8 e.output.val) e.sender e.tag]
  else if (u.config.outputs[e.output]).log then
    [noteNow (u.setClock t.clock) .acted (BitVec.ofNat 8 e.output.val) e.sender e.tag]
  else []

/-- The Event Store of `t` is that of `s` after the records `rs`, in order, at the reading of `t`, with the looks of the period and
of its boundary (R104, R105). -/
def StoreTakes (s t : State) (rs : List EventRecord) : Prop :=
  t.store = ((rs.foldl State.takeRecord (s.lookStore.setClock t.clock)).lookStore).store

/-- The close gives the Event Store its notes and nothing else, where nothing but the close gives it a record. -/
def CloseNotes (s t : State) : Prop :=
  Calm s → s.agreement.state ≠ .unset → s.schedule = [] → StoreTakes s t (closeNotes s t)

/-! ### The work of a close -/

/-- The strikes of the entry of station `i + 1` after the close of `s`: a contributor whose offset lies more than 4S from the
unclamped correction gains one, another contributor's become 0, and every other entry's stay (R27, R30). -/
def strikesAfter (s : State) (i : Fin 24) : Nat :=
  if (s.agreement.peers[i]).contributes s.agreement.timeline then
    if 4 * (s.config.stepLimit : Int) <
        |(s.agreement.peers[i]).offset.getD 0 - (s.agreement.figures s.config.stepLimit).raw| then
      (s.agreement.peers[i]).strikes + 1
    else 0
  else (s.agreement.peers[i]).strikes

/-- The peer table after the close that takes `s` to `t`, entry by entry: no entry is heard or fresh (R26); a third strike bars a
LIVE entry for 16 rounds (R30); a LIVE entry not heard gains a silent round, and is ABSENT at 8; an entry that was BARRED loses a
barred round, and is ABSENT at 0 (R31); the strikes are those of R30, and every other field stays. -/
def ClosePeers (s t : State) : Prop :=
  ∀ (i : Fin 24) (p : Peer), p = s.agreement.peers[i] →
    (p.state = .absent → t.agreement.peers[i] = { p with fresh := false, heard := false }) ∧
    (p.state = .live → thirdStrike s i = true → t.agreement.peers[i] =
      { p with state := .barred, barred := 16, strikes := p.strikes + 1, fresh := false, heard := false }) ∧
    (p.state = .live → thirdStrike s i = false →
      (p.heard = true → t.agreement.peers[i] =
        { p with strikes := strikesAfter s i, fresh := false, heard := false }) ∧
      (p.heard = false → p.silent ≤ 6 → t.agreement.peers[i] =
        { p with strikes := strikesAfter s i, silent := p.silent + 1, fresh := false, heard := false }) ∧
      (p.heard = false → 7 ≤ p.silent → t.agreement.peers[i] = ⟨.absent, none, none, false, false, none, none, 0, 0, 0⟩)) ∧
    (p.state = .barred →
      (2 ≤ p.barred → t.agreement.peers[i] = { p with barred := p.barred - 1, fresh := false, heard := false }) ∧
      (p.barred ≤ 1 → t.agreement.peers[i] = ⟨.absent, none, none, false, false, none, none, 0, 0, 0⟩))

/-- The Agreement Unit of `t` is `a` but for the adjustment, the peer table and the own TIME frame, of which every close has its
own statement. -/
def AgreementIs (t : State) (a : Agreement) : Prop :=
  t.agreement = { a with
    adjustCount := t.agreement.adjustCount, lastAdjust := t.agreement.lastAdjust, peers := t.agreement.peers
    timeFrame := t.agreement.timeFrame }

/-- A close of `s` that reaches no limit keeps the state and the founder and moves the counts alone: the listen count falls (R18);
in the acting states the clamp count rises at a clamped close and is 0 after any other (R29, R36); in GATHERING and LOCKED the
lonely count rises at a close with no contributor and is 0 after any other, and in GATHERING progress rises to 1 at a close with
contributors that is not clamped and is 0 after a clamped one (R33, R34); in ADRIFT the drift count rises (R35). -/
def CloseCounts (s t : State) : Prop :=
  ∀ (k : CloseFigures) (clamps : Nat), k = s.agreement.figures s.config.stepLimit →
    clamps = (if k.clamped then s.agreement.clampCount + 1 else 0) →
    (s.agreement.state = .listening → 2 ≤ s.agreement.listenCount →
      AgreementIs t { s.agreement with listenCount := s.agreement.listenCount - 1 }) ∧
    (clamps ≤ 2 → s.agreement.state = .alone → k.offsets = [] ∨ k.clamped = true →
      AgreementIs t { s.agreement with clampCount := clamps }) ∧
    (clamps ≤ 2 → s.agreement.state = .gathering →
      (k.offsets = [] → s.agreement.lonelyCount ≤ 2 →
        AgreementIs t { s.agreement with clampCount := clamps, lonelyCount := s.agreement.lonelyCount + 1 }) ∧
      (k.offsets ≠ [] → k.clamped = true →
        AgreementIs t { s.agreement with clampCount := clamps, progress := 0, lonelyCount := 0 }) ∧
      (k.offsets ≠ [] → k.clamped = false → s.agreement.progress = 0 →
        AgreementIs t { s.agreement with clampCount := clamps, progress := 1, lonelyCount := 0 })) ∧
    (clamps ≤ 2 → s.agreement.state = .locked →
      (k.offsets = [] → s.agreement.lonelyCount ≤ 6 →
        AgreementIs t { s.agreement with clampCount := clamps, lonelyCount := s.agreement.lonelyCount + 1 }) ∧
      (k.offsets ≠ [] → AgreementIs t { s.agreement with clampCount := clamps, lonelyCount := 0 })) ∧
    (s.agreement.state = .adrift → s.agreement.driftCount ≤ 14 →
      AgreementIs t { s.agreement with driftCount := s.agreement.driftCount + 1 })

/-- The own TIME frame after the close that takes `s` to `t`, where no slot starts in the period: a close that leaves the station in
ALONE, GATHERING, LOCKED or ADRIFT marks it pending, beside one in flight (R26, R38), and one whose flight ends in the same period
is pending, whatever its outcome (R39); a close that leaves it in LISTENING leaves the frame as it was. -/
def CloseMarks (s t : State) : Prop :=
  NoSlotStart s →
    (Acting t ∨ t.agreement.state = .adrift →
      ((∀ e, s.framer.engine = some e → e.age ≤ 39) →
        (s.agreement.timeFrame = .idle ∨ s.agreement.timeFrame = .pending → t.agreement.timeFrame = .pending) ∧
        (s.agreement.timeFrame = .inFlight ∨ s.agreement.timeFrame = .inFlightPending →
          t.agreement.timeFrame = .inFlightPending)) ∧
      (∀ e, s.framer.engine = some e → e.kind = .time → e.age = 40 → e.orphan = false →
        e.course = .quash ∨ e.course = .frame ∧ e.bytes.length < e.index ∧ e.readWell = true →
        t.agreement.timeFrame = .pending)) ∧
    ((∀ e, s.framer.engine = some e → e.age ≤ 39) → t.agreement.state = .listening →
      t.agreement.timeFrame = s.agreement.timeFrame)

/-- What a close does at the Agreement Unit, whichever command it is taken by: the peer table, the counts and the own TIME
frame (R26). -/
def CloseWork (s t : State) : Prop := ClosePeers s t ∧ CloseCounts s t ∧ CloseMarks s t

/-- The Access Unit at a boundary that finds the transmitter MUTED with more than one boundary to go: the mute count falls by 1,
and the transmitter stays MUTED, its yield flag and collision count as they were (R151). -/
def MuteFalls (s t : State) : Prop :=
  s.access.tx = .muted → 2 ≤ s.access.mute → (∀ e, s.framer.engine = some e → e.age ≤ 39) →
    t.access.mute = s.access.mute - 1 ∧ t.access.tx = .muted ∧ t.access.yield = s.access.yield ∧
      t.access.collisions = s.access.collisions

/-- A period without a boundary leaves the mute count, and a transmitter in MUTED, as they are (R151). -/
def MuteStays (s t : State) : Prop :=
  s.access.tx = .muted → (∀ e, s.framer.engine = some e → e.age ≤ 39) →
    t.access.mute = s.access.mute ∧ t.access.tx = .muted

/-! ### The bus of the configuration memory -/

/-- The parts of a read from `offset` before its data, where the memory acknowledges all of them, after a recovery of `clocks`
clocks: stop, start, the bus address 0x50, the offset high byte first, a repeated start, and the bus address for reading (R169,
R177). -/
def busOpening (clocks : Nat) (offset : Byte) : List BusEvent :=
  List.replicate clocks .clock ++ [.stop, .start, .address 0x50 false true, .offset 0 true, .offset offset true, .start,
    .address 0x50 true true]

/-- What has stood on the bus in an answered read of `bytes` from `offset`: a recovery of at most 9 clocks, the opening, the data
bytes, all but the last acknowledged by the Loader, and a stop (R169). -/
def AnsweredRead (offset : Byte) (bytes : List Byte) (events : List BusEvent) : Prop :=
  ∃ clocks, clocks ≤ 9 ∧ events = busOpening clocks offset ++ bytes.dropLast.map (fun b => .data b true) ++
    (bytes.getLast?.map fun b => BusEvent.data b false).toList ++ [.stop]

/-- What has stood on the bus in an unanswered read from `offset`: 9 recovery clocks that leave CSDA low; or, after a recovery of at
most 9 clocks, the opening up to an address or offset byte that the memory leaves unacknowledged (R169). -/
def UnansweredRead (offset : Byte) (events : List BusEvent) : Prop :=
  events = List.replicate 9 .clock ∨
    ∃ clocks, clocks ≤ 9 ∧
      (events = List.replicate clocks .clock ++ [.stop, .start, .address 0x50 false false] ∨
        events = List.replicate clocks .clock ++ [.stop, .start, .address 0x50 false true, .offset 0 false] ∨
        events = List.replicate clocks .clock ++
          [.stop, .start, .address 0x50 false true, .offset 0 true, .offset offset false] ∨
        events = List.replicate clocks .clock ++
          [.stop, .start, .address 0x50 false true, .offset 0 true, .offset offset true, .start, .address 0x50 true false])

/-! ### What holds of a station -/

/-- Every collection is within its capacity (R45, R55, R60, R68, R97, R102, 7.3). -/
def WithinCapacity (s : State) : Prop :=
  s.arms.outbox.length ≤ 8 ∧ s.arms.cancels.length ≤ 8 ∧ (∀ i : Fin 24, (s.arms.history[i]).length ≤ 8) ∧
    s.schedule.length ≤ 32 ∧ s.capture.outbox.length ≤ 16 ∧ s.store.settling.length + s.store.lane.length ≤ 128 ∧
    ∀ f, s.framer.receiver = .taking f → f.bytes.length ≤ 53

/-- The Line Clock is within the ranges of 1.1, a line time handed over included, and while it runs the station-wide values it works from are within those of
10.1. -/
def ClockInRange (s : State) : Prop :=
  -200 ≤ s.clock.trim ∧ s.clock.trim ≤ 200 ∧ s.clock.pace < 1000000 ∧
    (s.clock.running = true →
      20000 ≤ s.config.roundLength ∧ s.config.roundLength ≤ 2000000 ∧ 10 ≤ s.config.stepLimit ∧
        s.config.stepLimit ≤ 500 ∧ s.clock.now.phase < s.config.roundLength ∧ s.clock.overtime ≤ s.config.stepLimit ∧
        ∀ t, s.clock.handed = some t → t.phase < s.config.roundLength)

/-- Every output is in a legal condition (R78, R79): an output in SAFE is at its safe level with neither pulse end nor
latch round, and an output is ACTING only in an acting state. -/
def OutputsLegal (s : State) : Prop :=
  ∀ i : Fin 8,
    ((s.outputs[i]).condition = .safe → s.outputs[i] = ⟨.safe, (s.config.outputs[i]).safeActive, none, none⟩) ∧
      ((s.outputs[i]).condition = .acting →
        s.agreement.state = .alone ∨ s.agreement.state = .gathering ∨ s.agreement.state = .locked)

/-- The pin level of an output at its safe level (R78). -/
def safePin (c : OutputConfig) : PinDrive := .driven (c.safeActive != c.activeLow)

/-- No schedule entry has an origin whose entry in the arm history is CANCELLED (R61). -/
def HistoryInStep (s : State) : Prop :=
  ∀ e ∈ s.schedule, ∀ h ∈ s.historyOf e.sender, h.id = e.armId → ∃ tag action, h.status = .accepted tag action

/-- The arm history is in step with the Schedule, and what bears on it: the senders of schedule entries and of buffered frames are
station ids, and so is the station's own id, but in UNSET, where no frame of its own is in flight (R61, R126, R14). -/
def HistoryKept (s : State) : Prop :=
  HistoryInStep s ∧ (∀ e ∈ s.schedule, 1 ≤ e.sender.toNat ∧ e.sender.toNat ≤ 24) ∧
    (∀ f, s.framer.bufferA = .full f ∨ s.framer.bufferA = .handling f ∨ s.framer.bufferB = .full f ∨
      s.framer.bufferB = .handling f → 1 ≤ f.sender.toNat ∧ f.sender.toNat ≤ 24) ∧
    (1 ≤ s.config.id.toNat ∧ s.config.id.toNat ≤ 24 ∨ s.agreement.state = .unset ∧ s.arms.inFlight = .none)

/-- No two records of an outbox, and no two entries of one list of the arm history, carry the same arm id (R45, R55,
R60). -/
def ArmIdsDistinct (s : State) : Prop :=
  (s.arms.outbox.map (·.id)).Nodup ∧ (s.arms.cancels.map (·.id)).Nodup ∧
    ∀ i : Fin 24, ((s.arms.history[i]).map (·.id)).Nodup

/-- The outstanding arm of each input is the arm id of the outbox record that the input made, and is none where there is no
such record (R45, R100). -/
def InputsInStep (s : State) : Prop :=
  ∀ (i : Fin 8) (id : Byte),
    (s.capture.filters[i]).outstanding = some id ↔ ∃ r ∈ s.arms.outbox, r.source = .input i ∧ r.id = id

/-- The senders of the schedule's entries are station ids 1 to 24. -/
def ScheduleSendersValid (s : State) : Prop := ∀ e ∈ s.schedule, 1 ≤ e.sender.toNat ∧ e.sender.toNat ≤ 24

end Sys2Proof.Safety
end

