-- ==== Sys2Proof/Certificates/Slice0/Obligations.lean ====
section
/-! DEFINITION. The statements for the provers. -/

open Sys2Proof Sys2Proof.Machine Sys2Proof.Safety

/-! ### The station as a machine -/

/-- A step takes the command at the front of the queue and runs it on the station with the queue's rest; an empty queue
idles (the model's choice, log 2).
Rests on log 1 and log 2. -/
def Obligations.StepTakesTheFrontCommand : Prop :=
  (∀ (c : Instr) (rest : List Instr) (s : State), s.pending = c :: rest → step s = exec c (s.setPending rest)) ∧
    ∀ s : State, s.pending = [] → step s = .next s

/-- Every command answers a next state, and leaves the queue of waiting commands as it is.
Rests on log 1 and log 2. -/
def Obligations.EveryCommandCompletesAndKeepsTheQueue : Prop :=
  ∀ (c : Instr) (s : State), ∃ t, exec c s = .next t ∧ t.pending = s.pending

/-- While the station is held in full reset, every command but FULL_RESET and RESET_RELEASED leaves it as it is, except
that INPUT_CHANGE sets the level at the input pin it names and no other (R176; the pins are the world's, log 26);
RESET_RELEASED ends the full reset and begins the load with the head read, and changes nothing else (R168, R176); where no
reset is held there is nothing to release, and it leaves the station as it is.
Rests on log 1, log 14 and log 26. -/
def Obligations.HeldStationWaitsForItsRelease : Prop :=
  (∀ (c : Instr) (s : State), s.resetHeld = true → c ≠ .fullReset → c ≠ .resetReleased →
      (∀ i level, c ≠ .inputChange i level) → exec c s = .next s) ∧
  (∀ (i : Fin 8) (level : Bool) (s : State), s.resetHeld = true →
      ∃ pins, exec (.inputChange i level) s = .next (s.setInPins pins) ∧ pins.getLsbD i.val = level ∧
        ∀ j : Fin 8, j ≠ i → pins.getLsbD j.val = s.inPins.getLsbD j.val) ∧
  ∀ s : State,
    (s.resetHeld = true →
      exec .resetReleased s =
        .next ((s.setLoader { state := .loading, fault := .none, retry := 0, read := .head, bus := [] }).setResetHeld false)) ∧
    (s.resetHeld = false → exec .resetReleased s = .next s)

/-! ### Resets -/

/-- FULL_RESET gives every block its full-reset values, whatever the station was doing (R13, R42, R67, R77, R88, R101,
R115, R136, R137, R153, R167, R168, R176). The level of the pin LTX while LDE is released, high, is the model's choice (log 36).
Rests on log 14, log 15, log 17, log 23 and log 36. -/
def Obligations.FullResetGivesEveryBlockItsValues : Prop :=
  ∀ s : State, ∃ t, exec .fullReset s = .next t ∧
    t.clock =
      { now := ⟨0, 0⟩, trim := 0, pace := 0, overtime := 0, running := false, startBit := none, handed := none } ∧
    t.agreement =
      { state := .unset, founder := none, listenCount := 0, clampCount := 0, progress := 0, lonelyCount := 0,
        driftCount := 0, adjustCount := 0, lastAdjust := .correction 0, timeFrame := .idle,
        peers := Vector.replicate 24 ⟨.absent, none, none, false, false, none, none, 0, 0, 0⟩ } ∧
    t.arms =
      { outbox := [], cancels := [], inFlight := .none, history := Vector.replicate 24 [], nextId := 0 } ∧
    t.config.bindings = [] ∧ t.schedule = [] ∧
    t.outputs = Vector.replicate 8 ⟨.undriven, false, none, none⟩ ∧
    t.capture = { filters := Vector.replicate 8 ⟨none, .stable, none⟩, outbox := [], inFlight := 0 } ∧
    t.store = { settling := [], lane := [], mark := none, gap := .clear } ∧
    t.framer.receiver = .off ∧ t.framer.startCount = none ∧ t.framer.symbol = .none ∧ t.framer.bufferA = .free ∧
    t.framer.bufferB = .free ∧ t.framer.counters = Vector.replicate 15 0 ∧ t.lde = false ∧ t.ltx = true ∧
    t.access =
      { monitor := .busy, gapCount := 0, slotIndex := 0, slotCount := 0, slotTaken := false, rotation := 0, tx := .off,
        yield := false, collisions := 0, mute := 0, reportA := false } ∧
    t.tap.state = .idle ∧ t.tap.latch = true ∧ t.tap.setSinceTake = true ∧ t.atn = true ∧ t.sdoPin = none ∧
    t.loader.state = .loading ∧ t.loader.fault = .none ∧ t.loader.retry = 0 ∧ t.loader.read = .none ∧
    t.loader.bus = [] ∧ t.busReleased = true ∧ t.resetHeld = true ∧ t.inPins = s.inPins

/-- The reset state keeps every capacity and range, and its outputs are legal.
Rests on log 17. -/
def Obligations.ResetStateIsLegal : Prop :=
  WithinCapacity State.reset ∧ ClockInRange State.reset ∧ OutputsLegal State.reset ∧ ArmIdsDistinct State.reset ∧
    InputsInStep State.reset ∧ HistoryInStep State.reset ∧ ScheduleSendersValid State.reset ∧ HistoryKept State.reset

/-- SCS_RISE after an accepted RESTART: every block takes its restart values, the Event Store keeps its records and takes
the RESTART note, the latch stays, and a frame being sent is left to the engine without an owner: a QUASH already being sent
is completed, a SHUT is completed and no QUASH follows it, and any other symbol is completed and a QUASH follows it (R13,
R42, R67, R77, R88, R101, R116, R136, R138, R153, R165).
Rests on log 14, log 15, log 16 and log 23. -/
def Obligations.RestartTakesEffectAsScsRises : Prop :=
  ∀ s : State, s.resetHeld = false → s.tap.state ≠ .idle → s.tap.restartTaken = true → s.tap.eventRead = .none →
    ∃ t, exec .scsRise s = .next t ∧
      t.clock = State.reset.clock ∧ t.agreement = State.reset.agreement ∧ t.arms = State.reset.arms ∧ t.schedule = [] ∧
      t.outputs = State.reset.outputs ∧ t.capture = State.reset.capture ∧ t.access = State.reset.access ∧
      t.loader = State.reset.loader ∧ t.config.bindings = [] ∧ t.config.attention = false ∧
      t.framer.receiver = .off ∧ t.framer.symbol = .none ∧ t.framer.startCount = none ∧ t.framer.bufferA = .free ∧
      t.framer.bufferB = .free ∧ t.framer.counters = Vector.replicate 15 0 ∧
      (s.framer.engine = none → t.framer.engine = none) ∧
      (∀ e, s.framer.engine = some e → e.course ≠ .quash → e.index ≤ e.bytes.length →
        t.framer.engine = some { e with course := .abandon, orphan := true }) ∧
      (∀ e, s.framer.engine = some e → e.course ≠ .quash → e.bytes.length < e.index →
        t.framer.engine = some { e with course := .frame, orphan := true }) ∧
      (∀ e, s.framer.engine = some e → e.course = .quash → t.framer.engine = some { e with orphan := true }) ∧
      t.tap.state = .idle ∧ t.tap.latch = s.tap.latch ∧ t.tap.setSinceTake = s.tap.setSinceTake ∧
      t.inPins = s.inPins ∧ t.resetHeld = false ∧
      ∃ origin : StationId,
        (s.loader.state ≠ .fault → origin = s.config.id) ∧
        (s.loader.state = .fault → 1 ≤ origin.toNat ∧ origin.toNat ≤ 24) ∧
        t.store =
          { settling := []
            lane := s.store.lane ++ s.store.settling.map (fun r => { r with stepped := true }) ++
              (if s.store.settling.length + s.store.lane.length < 128 then
                [⟨.note .restart 0, origin, false, 0, ⟨0, 0⟩, false, false, false⟩] else [])
            mark := none
            gap := if s.store.settling.length + s.store.lane.length < 128 then s.store.gap else .pending }

/-! ### Line time -/

/-- Ticks are added to a line time by dividing the sum of the phase toward minus infinity, whole rounds change the round
number only, and adding the difference from A to B to A gives B (R7). -/
def Obligations.TimeAdditionFollowsTheFourSteps : Prop :=
  ∀ (len : Nat), 0 < len →
    (∀ (t : LineTime) (n : Int),
      ((timeAdd len t n).phase : Int) = (t.phase + n) % len ∧
        ((timeAdd len t n).round.toNat : Int) = (t.round.toNat + (t.phase + n) / len) % 16777216) ∧
      (∀ (t : LineTime) (k : Nat), t.phase < len →
        timeAdd len t (k * len) = timeAddRounds t k ∧ (timeAddRounds t k).phase = t.phase) ∧
      ∀ a b : LineTime, b.phase < len → timeAdd len a (timeDiff len a b) = b

/-- The difference of two line times is the round difference, in the range of 24 signed bits, times L plus the difference
of the phases; its sign says which is earlier and which is later, and when a line time is reached or passed; equal line times
alone have the difference 0; the round difference settles the order where rounds differ, and the phase where they are equal;
and of two line times whose rounds lie exactly 8,388,608 apart each is taken as earlier than the other (R6). -/
def Obligations.TimeDifferenceOrdersLineTimes : Prop :=
  ∀ (len : Nat) (a b : LineTime), a.phase < len → b.phase < len →
    (∃ d : Int, -8388608 ≤ d ∧ d ≤ 8388607 ∧ (d - ((b.round.toNat : Int) - a.round.toNat)) % 16777216 = 0 ∧
      timeDiff len a b = d * len + ((b.phase : Int) - a.phase) ∧
      (d < 0 → timeDiff len a b < 0) ∧ (0 < d → 0 < timeDiff len a b) ∧
      (a.round ≠ b.round → d ≠ 0) ∧
      (b.round - a.round = 8388608 → d = -8388608)) ∧
      (later len b a = true ↔ 0 < timeDiff len a b) ∧ (earlier len b a = true ↔ timeDiff len a b < 0) ∧
      (reached len b a = true ↔ earlier len b a = false) ∧ (passed len b a = true ↔ later len b a = true) ∧
      (timeDiff len a b = 0 ↔ a = b) ∧
      (a.round = b.round → (earlier len a b = true ↔ a.phase < b.phase)) ∧
      (b.round - a.round ≠ 8388608 → (later len b a = true ↔ earlier len a b = true)) ∧
      (b.round - a.round = 8388608 → earlier len b a = true ∧ earlier len a b = true)

/-- REFERENCE_PERIOD outside a round close: the pace count rises by the magnitude of the trim, and the phase by one, by two or
not at all, as the pace count reaches 1,000,000; a withheld advance leaves the phase and any overtime (R2); a stopped clock keeps
its values (R1). No step has been handed over in the period (R9); all that PeriodFrame names stays, and the Agreement Unit but for
its own TIME frame. In an overtime of more than one tick a single advance spends one tick, and a doubled period with more than two
ticks left spends two, line time staying (R5). Whatever else the period brings, the counts in reference periods rise: the line
monitor's (R139), the age of the symbol on LRX (R118), the silence (R119), the transmit engine's (R117, R122), and a handling
in progress may end from now on (R133). And line time is changed by no command but those that end a reference period, by the
resets, by the start of the clock at the end of a good load, and by FRAME_HANDLING_END where it comes next after the end of a
period with a close or boundary, to which its handling may belong; so the reading stands from the first command of a period to its
end (R1, R9, R13, R14). No command but the end of a period leaves a released station in which such a FRAME_HANDLING_END may follow.
Rests on log 1, log 3, log 5, log 6 and log 10. -/
def Obligations.ReferencePeriodAdvancesTheClock : Prop :=
  (∀ s : State, s.resetHeld = false → s.clock.handed = none →
    ∃ t, exec .referencePeriod s = .next t ∧ PeriodFrame s t ∧
      (s.clock.running = false → t.clock = s.clock ∧ NoClose s t) ∧
      (s.clock.running = true → 1000000 ≤ s.clock.pace + s.clock.trim.natAbs → s.clock.trim < 0 →
        t.clock = { s.clock with pace := s.clock.pace + s.clock.trim.natAbs - 1000000 } ∧ NoClose s t) ∧
      (s.clock.running = true → s.clock.pace + s.clock.trim.natAbs < 1000000 → s.clock.overtime = 0 →
        s.clock.now.phase + 1 < s.config.roundLength →
        t.clock = { s.clock with
          pace := s.clock.pace + s.clock.trim.natAbs, now := ⟨s.clock.now.round, s.clock.now.phase + 1⟩ } ∧
        NoClose s t) ∧
      (s.clock.running = true → 1000000 ≤ s.clock.pace + s.clock.trim.natAbs → 0 < s.clock.trim →
        s.clock.overtime = 0 → s.clock.now.phase + 2 < s.config.roundLength →
        t.clock = { s.clock with
          pace := s.clock.pace + s.clock.trim.natAbs - 1000000
          now := ⟨s.clock.now.round, s.clock.now.phase + 2⟩ } ∧
        NoClose s t)) ∧
  (∀ s : State, SingleAdvance s → 2 ≤ s.clock.overtime →
    ∃ t, exec .referencePeriod s = .next t ∧
      t.clock = { s.clock with pace := s.clock.pace + s.clock.trim.natAbs, overtime := s.clock.overtime - 1 } ∧
      NoClose s t ∧ PeriodFrame s t) ∧
  (∀ s : State, DoubleAdvance s → 3 ≤ s.clock.overtime →
    ∃ t, exec .referencePeriod s = .next t ∧
      t.clock = { s.clock with
        pace := s.clock.pace + s.clock.trim.natAbs - 1000000, overtime := s.clock.overtime - 2 } ∧
      NoClose s t ∧ PeriodFrame s t) ∧
  (∀ s : State, s.resetHeld = false →
    ∃ t, exec .referencePeriod s = .next t ∧ t.sampled = 0 ∧ MonitorCounts s t ∧ SymbolAges s t ∧ SilenceCounts s t ∧
      EngineMoves s t ∧
      ((∃ f, s.framer.bufferA = .handling f ∨ s.framer.bufferB = .handling f) → t.framer.ripe = true)) ∧
  ∀ (c : Instr) (s t : State), exec c s = .next t →
    (t.clock.now ≠ s.clock.now →
      EndsPeriod c ∨ c = .fullReset ∨ c = .scsRise ∨ (∃ bytes, c = .bodyReadDone bytes) ∨
        c = .frameHandlingEnd ∧ s.lateHandling = true) ∧
    (s.resetHeld = false → t.lateHandling = true → EndsPeriod c ∨ c = .resetReleased)

/-- ROUND_CLOSE, and REFERENCE_PERIOD where a close falls in it: the Line Clock updates the trim from the correction and makes the
boundary at phase c at once, or begins an overtime of |c| ticks at the last phase of the round (R3, R4, R5, R8); the adjustment
count takes a correction other than 0 (R20); the Event Store takes the notes of the close (R16, R30). Every entry of the peer table
takes its strikes, its silent and barred rounds, and is neither fresh nor heard (R26, R30, R31); a close that reaches no limit moves
the listen, clamp, progress, lonely and drift counts and nothing else of the state (R18, R29, R33 to R36); the own TIME frame is
marked pending (R26, R38). At the boundary the mute count of a MUTED transmitter falls (R151). All that PeriodFrame names stays. In
a doubled period the close falls at the second advance, one phase later, or at the first, and the second then advances the phase of the new round or spends a
tick of the overtime (R2). At the boundary of a forward jump the Schedule takes an entry that the jump has reached, and the entries
after it stay: in an acting state its action is carried out at the boundary's reading, as the mode of its output states (R73, R81
to R84); in ADRIFT it leaves as MISSED. Where the close enters or leaves ADRIFT the entry is taken first, in the state before the
close, and its note stands before the notes of the close (R72, R76); elsewhere it is taken after the work of the close.
Rests on log 3, log 4, log 5, log 6, log 7, log 9 and log 21. -/
def Obligations.RoundCloseTakesTheCorrection : Prop :=
  (∀ (s : State) (command : Instr) (c : Int), command = .roundClose ∨ command = .referencePeriod → ClosingNow s →
    (s.agreement.figures s.config.stepLimit).correction = c →
    ∃ t, exec command s = .next t ∧
      t.clock.trim = max (-200) (min 200 (s.clock.trim + (c * 500000).tdiv s.config.roundLength)) ∧
      t.clock.pace = s.clock.pace + s.clock.trim.natAbs ∧
      (0 ≤ c → t.clock.now = ⟨s.clock.now.round + 1, c.toNat⟩ ∧ t.clock.overtime = 0) ∧
      (c < 0 → t.clock.now = s.clock.now ∧ t.clock.overtime = c.natAbs) ∧
      (c ≠ 0 → t.agreement.adjustCount = s.agreement.adjustCount + 1 ∧ t.agreement.lastAdjust = .correction c) ∧
      (c = 0 → t.agreement.adjustCount = s.agreement.adjustCount ∧ t.agreement.lastAdjust = s.agreement.lastAdjust) ∧
      t.lateHandling = s.framer.ripe ∧ CloseNotes s t ∧ CloseWork s t ∧ (0 ≤ c → MuteFalls s t) ∧
      (c < 0 → MuteStays s t) ∧ PeriodFrame s t) ∧
  (∀ (s : State) (c : Int), DoubleAdvance s → s.clock.overtime = 0 →
    (s.agreement.figures s.config.stepLimit).correction = c →
    s.clock.now.phase + 2 = s.config.roundLength ∨ s.clock.now.phase + 1 = s.config.roundLength →
    c.toNat + 1 < s.config.roundLength →
    ∃ t, exec .roundClose s = .next t ∧
      t.clock.trim = max (-200) (min 200 (s.clock.trim + (c * 500000).tdiv s.config.roundLength)) ∧
      t.clock.pace = s.clock.pace + s.clock.trim.natAbs - 1000000 ∧
      (s.clock.now.phase + 2 = s.config.roundLength →
        (0 ≤ c → t.clock.now = ⟨s.clock.now.round + 1, c.toNat⟩ ∧ t.clock.overtime = 0) ∧
        (c < 0 → t.clock.now = ⟨s.clock.now.round, s.clock.now.phase + 1⟩ ∧ t.clock.overtime = c.natAbs)) ∧
      (s.clock.now.phase + 1 = s.config.roundLength →
        (0 ≤ c → t.clock.now = ⟨s.clock.now.round + 1, c.toNat + 1⟩ ∧ t.clock.overtime = 0) ∧
        (c = -1 → t.clock.now = ⟨s.clock.now.round + 1, 0⟩ ∧ t.clock.overtime = 0) ∧
        (c < -1 → t.clock.now = s.clock.now ∧ t.clock.overtime = c.natAbs - 1)) ∧
      (0 ≤ c ∨ s.clock.now.phase + 1 = s.config.roundLength → CloseNotes s t) ∧ CloseWork s t ∧
      (0 ≤ c ∨ c = -1 ∧ s.clock.now.phase + 1 = s.config.roundLength → MuteFalls s t) ∧ PeriodFrame s t) ∧
  ∀ (s : State) (c : Int) (e : ScheduleEntry) (rest : List ScheduleEntry) (boundary : LineTime), ClosingNow s →
    (s.agreement.figures s.config.stepLimit).correction = c → 0 ≤ c →
    boundary = ⟨s.clock.now.round + 1, c.toNat⟩ → s.framer.engine = none → s.schedule = e :: rest →
    earlier s.len s.clock.now e.due = true → earlier s.len boundary e.due = false →
    (∀ x ∈ rest.head?, earlier s.len boundary x.due = true) →
    ∃ t, exec .roundClose s = .next t ∧
      (Acting t ∨ t.agreement.state = .adrift → t.schedule = rest ∧
        (Calm s → (s.agreement.state = .adrift ↔ t.agreement.state = .adrift) →
          StoreTakes s t (closeNotes s t ++ dueNotes t t e)) ∧
        (Calm s → ¬(s.agreement.state = .adrift ↔ t.agreement.state = .adrift) →
          StoreTakes s t (dueNotes s t e ++ closeNotes s t))) ∧
      (s.agreement.state = .adrift → (s.outputs[e.output]).condition = .safe → (s.outputs[e.output]).pulseEnd = none →
        t.outputs[e.output] = s.outputs[e.output]) ∧
      (t.agreement.state = .adrift → Acting s →
        t.outputs[e.output] = ⟨.safe, (s.config.outputs[e.output]).safeActive, none, none⟩) ∧
      (s.agreement.state ≠ .adrift → Acting t → (s.outputs[e.output]).condition ≠ .undriven → (s.outputs[e.output]).pulseEnd = none →
        ((s.config.outputs[e.output]).mode = .level → e.action = .set →
          t.outputs[e.output] = { s.outputs[e.output] with condition := .acting, level := true }) ∧
        ((s.config.outputs[e.output]).mode = .level → e.action = .clear →
          t.outputs[e.output] = { s.outputs[e.output] with condition := .acting, level := false }) ∧
        ((s.config.outputs[e.output]).mode = .level → e.action = .toggle →
          t.outputs[e.output] = { s.outputs[e.output] with condition := .acting, level := !(s.outputs[e.output]).level }) ∧
        (∀ pulseEnd, (s.config.outputs[e.output]).mode = .pulse → e.action = .fire →
          pulseEnd = timeAdd s.len boundary (s.config.outputs[e.output]).width →
          earlier s.len boundary pulseEnd = true →
          t.outputs[e.output] = { s.outputs[e.output] with
            condition := .acting, level := true, pulseEnd := some pulseEnd }) ∧
        ((s.config.outputs[e.output]).mode = .round → e.action = .set →
          t.outputs[e.output] = { s.outputs[e.output] with
            condition := .acting, level := decide (e.due.round = boundary.round), latchRound := some e.due.round }))

/-- OVERTIME_END, and REFERENCE_PERIOD where an overtime ends in it: the single advance that lowers the overtime count to 0 makes
the boundary at phase 0 of the next round, without a close (R5), and the mute count of a MUTED transmitter with more than one
boundary to go falls by 1 (R151); a ROUND output in ACTING whose latch is not of the new round loses it there (R85), where the Schedule
holds nothing to take. MUTE_END: where that boundary finds the transmitter MUTED with a mute count of 1, the mute count
becomes 0. Where no slot starts in the period, or its start was taken before, the transmitter goes to WAITING where content
is pending and to IDLE otherwise (R151); at the start of its late slot, with the yield flag set and the own TIME frame
pending, it begins that frame, stamped with the line time of the period that ends (R10, R144). The same where the boundary is
that of a close with c ≥ 0. In a doubled period an overtime of one or of two ticks ends, at phase 1 or 0 of the next round (R2).
All that PeriodFrame names stays.
Rests on log 3, log 4, log 6, log 9 and log 32. -/
def Obligations.OvertimeEndMakesTheBoundary : Prop :=
  (∀ (s : State) (command : Instr), command = .overtimeEnd ∨ command = .referencePeriod → SingleAdvance s →
      s.clock.overtime = 1 →
      ∃ t, exec command s = .next t ∧
        t.clock = { s.clock with
          pace := s.clock.pace + s.clock.trim.natAbs, overtime := 0, now := ⟨s.clock.now.round + 1, 0⟩ } ∧
        t.agreement = { s.agreement with timeFrame := t.agreement.timeFrame } ∧ MuteFalls s t ∧ PeriodFrame s t ∧
        (s.schedule = [] → s.framer.engine = none →
          ∀ i : Fin 8, (s.config.outputs[i]).mode = .round → (s.outputs[i]).condition = .acting →
            (s.outputs[i]).latchRound ≠ some (s.clock.now.round + 1) → (s.outputs[i]).pulseEnd = none →
            t.outputs[i] = { s.outputs[i] with level := false, latchRound := none })) ∧
  (∀ s : State, SingleAdvance s → s.clock.overtime = 1 → s.framer.engine = none → s.access.tx = .muted →
      s.access.mute = 1 →
      ∃ t, exec .muteEnd s = .next t ∧ t.access.mute = 0 ∧ t.access.rotation = s.access.rotation ∧
        t.access.collisions = s.access.collisions ∧ t.tap = s.tap ∧ t.clock.now = ⟨s.clock.now.round + 1, 0⟩ ∧
        PeriodFrame s t ∧
        (NoSlotStart s →
          t.access.tx = (if t.contentPending then .waiting else .idle) ∧ t.access.yield = s.access.yield ∧
            t.framer.engine = none) ∧
        (s.access.monitor = .window → s.access.slotCount = 0 → s.access.slotTaken = false → s.access.yield = true →
          s.access.slotIndex = 48 + (s.config.id.toNat - 1) → s.agreement.timeFrame = .pending →
          s.arms.outbox = [] → s.arms.cancels = [] →
          t.access.tx = .sending ∧ t.access.yield = false ∧
            ∃ e, t.framer.engine = some e ∧ e.kind = .time ∧ e.stamp = s.clock.now)) ∧
  (∀ s : State, DoubleAdvance s → s.clock.overtime = 1 ∨ s.clock.overtime = 2 → 2 ≤ s.config.roundLength →
      ∃ t, exec .overtimeEnd s = .next t ∧
        t.clock = { s.clock with
          pace := s.clock.pace + s.clock.trim.natAbs - 1000000, overtime := 0
          now := ⟨s.clock.now.round + 1, 2 - s.clock.overtime⟩ } ∧
        t.agreement = { s.agreement with timeFrame := t.agreement.timeFrame } ∧ MuteFalls s t ∧ PeriodFrame s t) ∧
  ∀ (s : State) (c : Int), ClosingNow s → (s.agreement.figures s.config.stepLimit).correction = c → 0 ≤ c →
      s.framer.engine = none → s.access.tx = .muted → s.access.mute = 1 →
      ∃ t, exec .muteEnd s = .next t ∧ t.access.mute = 0 ∧ t.access.rotation = s.access.rotation ∧
        t.access.collisions = s.access.collisions ∧ t.clock.now = ⟨s.clock.now.round + 1, c.toNat⟩ ∧ PeriodFrame s t ∧
        (NoSlotStart s →
          t.access.tx = (if t.contentPending then .waiting else .idle) ∧ t.access.yield = s.access.yield ∧
            t.framer.engine = none)

/-! ### Agreement -/

/-- The correction is half the sum, rounded toward zero, of the lowest and the highest of the contributors' offsets and the
station's own 0 that are left once 0, 1 or 2 have been discarded from each end; with no contributor it is 0 (R28). -/
def Obligations.CorrectionIsTheMidpointOfTheKeptOffsets : Prop :=
  ∀ offsets : List Int, offsets.length ≤ 23 →
    ∃ sorted : List Int, sorted.Perm (0 :: offsets) ∧ sorted.Pairwise (· ≤ ·) ∧
      ∃ d : Nat, (sorted.length ≤ 2 → d = 0) ∧ (3 ≤ sorted.length → sorted.length ≤ 6 → d = 1) ∧
        (7 ≤ sorted.length → d = 2) ∧
        rawCorrection offsets = (sorted.getD d 0 + sorted.getD (sorted.length - 1 - d) 0).tdiv 2 ∧
        (offsets = [] → rawCorrection offsets = 0)

/-- The figures of a close: the offsets are those, one for each contributor, of the entries that are LIVE and fresh under
the station's own founder from a sender in LOCKED or ALONE (R27), and the correction handed over is the unclamped one, or S
with its sign where its magnitude exceeds S (R29). -/
def Obligations.CloseFiguresFollowTheContributors : Prop :=
  ∀ (a : Agreement) (limit : Nat), a.state ≠ .listening →
    (∀ p : Peer, p.contributes a.founder = true ↔
      p.state = .live ∧ p.fresh = true ∧ (∃ o, p.offset = some o) ∧
        (p.senderState = some .locked ∨ p.senderState = some .alone) ∧ ∃ f, p.founder = some f ∧ a.founder = some f) ∧
      (a.figures limit).offsets =
        ((List.finRange 24).filter fun i => (a.peers[i]).contributes a.founder).map (fun i => (a.peers[i]).offset.getD 0) ∧
      (∀ o : Int, o ∈ (a.figures limit).offsets ↔
        ∃ i : Fin 24, (a.peers[i]).contributes a.founder = true ∧ (a.peers[i]).offset = some o) ∧
      (a.figures limit).raw = rawCorrection (a.figures limit).offsets ∧
      ((a.figures limit).clamped = true ↔ (limit : Int) < |(a.figures limit).raw|) ∧
      ((a.figures limit).clamped = false → (a.figures limit).correction = (a.figures limit).raw) ∧
      ((a.figures limit).clamped = true →
        (a.figures limit).correction = if 0 ≤ (a.figures limit).raw then (limit : Int) else -(limit : Int))

/-- PEER_BARRED: at a close, a contributor with 2 strikes whose offset differs by more than 4S from the unclamped correction
becomes BARRED for 16 rounds with its strikes at 3, neither fresh nor heard, its other fields as they were, and a PEER-BARRED
note is made for it, and for each other entry that this close bars (R26, R30). The rest of the peer table, the counts and the own TIME frame take the work
of the close (R26). All that PeriodFrame names stays.
Rests on log 3, log 4, log 7 and log 21. -/
def Obligations.ThirdStrikeBarsThePeer : Prop :=
  ∀ (s : State) (peer : StationId) (o : Int), ClosingNow s → 1 ≤ peer.toNat → peer.toNat ≤ 24 →
    (s.peerOf peer).contributes s.agreement.founder = true → s.agreement.state ≠ .listening →
    (s.peerOf peer).offset = some o → (s.peerOf peer).strikes = 2 →
    4 * (s.config.stepLimit : Int) < |o - (s.agreement.figures s.config.stepLimit).raw| →
    ∃ t, exec (.peerBarred peer) s = .next t ∧ PeriodFrame s t ∧ CloseNotes s t ∧ CloseWork s t ∧
      (∃ i : Fin 24, i.val + 1 = peer.toNat ∧ thirdStrike s i = true) ∧
      t.peerOf peer =
        { s.peerOf peer with state := .barred, barred := 16, strikes := 3, fresh := false, heard := false }

/-- PEER_SILENT_ABSENT and BARRED_ROUNDS_END: at a close, a LIVE entry not heard, with 7 silent rounds, and a BARRED entry with
1 barred round become ABSENT, every field as after a reset (R31), without a note of their own: the Event Store takes the notes
of the close (R16, R30). The rest of the peer table, the counts and the own TIME frame take the work
of the close (R26). All that PeriodFrame names stays.
Rests on log 3, log 4, log 7 and log 21. -/
def Obligations.SilentAndBarredPeersBecomeAbsent : Prop :=
  ∀ (s : State) (peer : StationId), ClosingNow s → 1 ≤ peer.toNat → peer.toNat ≤ 24 →
    ((s.peerOf peer).state = .live → (s.peerOf peer).heard = false → (s.peerOf peer).fresh = false →
      (s.peerOf peer).silent = 7 →
      ∃ t, exec (.peerSilentAbsent peer) s = .next t ∧ PeriodFrame s t ∧ CloseNotes s t ∧ CloseWork s t ∧
        t.peerOf peer = ⟨.absent, none, none, false, false, none, none, 0, 0, 0⟩) ∧
      ((s.peerOf peer).state = .barred → (s.peerOf peer).barred = 1 →
        ∃ t, exec (.barredRoundsEnd peer) s = .next t ∧ PeriodFrame s t ∧ CloseNotes s t ∧ CloseWork s t ∧
          t.peerOf peer = ⟨.absent, none, none, false, false, none, none, 0, 0, 0⟩)

/-- LISTEN_PERIOD_END: the close at which the listen count reaches 0 takes the station to ALONE under its own id, at phase 0
of the next round, with the latch set and an AGREEMENT note; the transmitter leaves OFF and the own TIME frame becomes pending
(R14, R16, R18, R38, R143). The rest of the peer table, the counts and the own TIME frame take the work
of the close (R26). All that PeriodFrame names stays.
Rests on log 3, log 4, log 7 and log 21. -/
def Obligations.ListenPeriodEndsInAlone : Prop :=
  ∀ s : State, ClosingNow s → s.agreement.state = .listening → s.agreement.listenCount = 1 →
    s.agreement.timeFrame = .idle → s.framer.engine = none → s.access.tx = .off →
    ∃ t, exec .listenPeriodEnd s = .next t ∧ PeriodFrame s t ∧ CloseNotes s t ∧ CloseWork s t ∧ t.agreement.state = .alone ∧
      t.agreement.founder = some s.config.id ∧
      t.agreement.listenCount = 0 ∧ t.agreement.clampCount = 0 ∧ t.agreement.progress = 0 ∧
      t.agreement.lonelyCount = 0 ∧ t.agreement.adjustCount = s.agreement.adjustCount ∧
      t.agreement.timeFrame = .pending ∧ t.clock.now = ⟨s.clock.now.round + 1, 0⟩ ∧ t.clock.trim = max (-200) (min 200 s.clock.trim) ∧
      t.access.tx = .waiting ∧ t.tap.latch = true ∧ t.tap.setSinceTake = true

/-- GATHERING_PROGRESS_LOCKED: a close in GATHERING with contributors and no clamp that raises progress to 2 takes the station
to LOCKED under the same founder (R33). GATHERING_LONELY_ALONE and LOCKED_LONELY_ALONE: a close with no contributor that
raises the lonely count to 4 in GATHERING, or to 8 in LOCKED, takes the station to ALONE with its founder unchanged (R33,
R34). ROUND_CLOSE: a close in ALONE with contributors and no clamp takes the station to LOCKED (R32). Each change of state makes
its AGREEMENT note, after the PEER-BARRED notes of the close (R16, R30). The rest of the peer table, the counts and the own TIME frame take the work
of the close (R26). All that PeriodFrame names stays.
Rests on log 3, log 4, log 7 and log 21. -/
def Obligations.GatheringAndLockedMoveOnAtCloses : Prop :=
  (∀ s : State, ClosingNow s → s.agreement.state = .gathering → s.agreement.progress = 1 →
      (s.agreement.figures s.config.stepLimit).offsets ≠ [] →
      (s.agreement.figures s.config.stepLimit).clamped = false →
      ∃ t, exec .gatheringProgressLocked s = .next t ∧ PeriodFrame s t ∧ CloseNotes s t ∧ CloseWork s t ∧ t.agreement.state = .locked ∧
        t.agreement.founder = s.agreement.founder ∧ t.agreement.clampCount = 0 ∧ t.agreement.progress = 0 ∧
        t.agreement.lonelyCount = 0 ∧ t.tap.latch = true) ∧
  (∀ s : State, ClosingNow s → s.agreement.state = .alone →
      (s.agreement.figures s.config.stepLimit).offsets ≠ [] →
      (s.agreement.figures s.config.stepLimit).clamped = false →
      ∃ t, exec .roundClose s = .next t ∧ PeriodFrame s t ∧ CloseNotes s t ∧ CloseWork s t ∧ t.agreement.state = .locked ∧
        t.agreement.founder = s.agreement.founder ∧ t.agreement.clampCount = 0 ∧ t.agreement.progress = 0 ∧
        t.agreement.lonelyCount = 0 ∧ t.tap.latch = true) ∧
  (∀ s : State, ClosingNow s → (s.agreement.figures s.config.stepLimit).offsets = [] →
      (s.agreement.state = .gathering → s.agreement.lonelyCount = 3 →
        ∃ t, exec .gatheringLonelyAlone s = .next t ∧ PeriodFrame s t ∧ CloseNotes s t ∧ CloseWork s t ∧ t.agreement.state = .alone ∧
          t.agreement.founder = s.agreement.founder ∧ t.agreement.lonelyCount = 0 ∧ t.agreement.progress = 0 ∧
          t.tap.latch = true) ∧
        (s.agreement.state = .locked → s.agreement.lonelyCount = 7 →
          ∃ t, exec .lockedLonelyAlone s = .next t ∧ PeriodFrame s t ∧ CloseNotes s t ∧ CloseWork s t ∧ t.agreement.state = .alone ∧
            t.agreement.founder = s.agreement.founder ∧ t.agreement.lonelyCount = 0 ∧ t.tap.latch = true))

/-- CLAMP_LIMIT_ADRIFT: the third clamped close in a row takes the station from an acting state to ADRIFT with its founder
unchanged, the latch set, and every output SAFE at its safe level with neither pulse end nor latch round (R36, R79).
DRIFT_LIMIT_REFOUND: the sixteenth close in ADRIFT takes the station to ALONE under its own id (R35). Each makes its AGREEMENT
note (R16). The rest of the peer table, the counts and the own TIME frame take the work
of the close (R26). All that PeriodFrame names stays. An entry due at the reading of either close is taken after it, and leaves in the
state that the close has entered: as MISSED in ADRIFT, executed in ALONE (R72, R76).
Rests on log 3, log 4, log 7, log 9, log 21 and log 25. -/
def Obligations.AdriftIsEnteredAndLeftAtCloses : Prop :=
  (∀ s : State, ClosingNow s →
      (s.agreement.state = .alone ∨ s.agreement.state = .gathering ∨ s.agreement.state = .locked) →
      s.agreement.clampCount = 2 → (s.agreement.figures s.config.stepLimit).clamped = true →
      ∃ t, exec .clampLimitAdrift s = .next t ∧ PeriodFrame s t ∧ CloseNotes s t ∧ CloseWork s t ∧ t.agreement.state = .adrift ∧
        t.agreement.founder = s.agreement.founder ∧ t.agreement.clampCount = 0 ∧ t.agreement.progress = 0 ∧
        t.agreement.lonelyCount = 0 ∧ t.agreement.driftCount = 0 ∧ t.tap.latch = true ∧
        ∀ i : Fin 8, t.outputs[i] = ⟨.safe, (s.config.outputs[i]).safeActive, none, none⟩) ∧
  (∀ s : State, ClosingNow s → s.agreement.state = .adrift → s.agreement.driftCount = 15 →
      ∃ t, exec .driftLimitRefound s = .next t ∧ PeriodFrame s t ∧ CloseNotes s t ∧ CloseWork s t ∧
        t.agreement.state = .alone ∧ t.agreement.founder = some s.config.id ∧
        t.agreement.driftCount = 0 ∧ t.agreement.clampCount = 0 ∧ t.tap.latch = true) ∧
  ∀ (s : State) (command : Instr) (c : Int) (e : ScheduleEntry) (rest : List ScheduleEntry) (boundary : LineTime),
    ClosingNow s → (s.agreement.figures s.config.stepLimit).correction = c → 0 ≤ c →
    boundary = ⟨s.clock.now.round + 1, c.toNat⟩ → s.schedule = e :: rest →
    earlier s.len s.clock.now e.due = true → earlier s.len boundary e.due = false →
    (∀ x ∈ rest.head?, earlier s.len boundary x.due = true) → Calm s →
    command = .clampLimitAdrift ∧ Acting s ∧ s.agreement.clampCount = 2 ∧
        (s.agreement.figures s.config.stepLimit).clamped = true ∨
      command = .driftLimitRefound ∧ s.agreement.state = .adrift ∧ s.agreement.driftCount = 15 →
    ∃ t, exec command s = .next t ∧ t.schedule = rest ∧ StoreTakes s t (closeNotes s t ++ dueNotes t t e)

/-- FRAME_HANDLING_END of a TIME frame from LOCKED or ALONE that causes an adoption, in LISTENING and ADRIFT under any
founder, in ALONE, GATHERING and LOCKED under a lower one, with a usable stamp (R22): now plus
the offset is handed to the Line Clock, while now itself, trim, pace count, overtime and running flag stay to the end of the
period; the founder becomes the frame's, the station is in GATHERING with its counts at 0, and no LIVE entry is fresh (R1,
R9, R23, R24, R25). Where the looks of the present reading have been taken, the settling list moves to the lane flagged
STEPPED and the STEP note, and the AGREEMENT note of a change of state, stand in the new settling list at the new line time
(R16, R25, R108, R109). The step itself is made at the end of the period, in GATHERING: the clock takes the new line time
and discards the overtime, trim, pace count and running flag staying (R9); entries and arms earlier than it leave with their
notes, in the order of Schedule and outbox (R54, R75); pulses that have ended and latches of another round are dropped
(R87); held edges are marked and shared copies UNSURE (R95). After REFERENCE_PERIOD the reading is the new line time, or
that time advanced (R9). Where the period that ended last brought a close or a boundary in which the handling could have ended, it
may belong to that period: either all this holds, or the step is made at once, over what the close left (R9, R25).
Rests on log 3, log 5, log 8 and log 21. -/
def Obligations.AdoptionStepsTheClock : Prop :=
  (∀ (s : State) (f : ReceivedFrame) (after : Framer) (o : Int) (new : LineTime), HandlingEnds s f after →
    f.kind = .time → byteAt f.body 0 = 2 ∨ byteAt f.body 0 = 4 →
    (s.agreement.state = .listening ∨ s.agreement.state = .adrift ∨
      (s.agreement.state = .alone ∨ s.agreement.state = .gathering ∨ s.agreement.state = .locked) ∧
        ∃ own, s.agreement.founder = some own ∧ (byteAt f.body 1).toNat < own.toNat) →
    (s.peerOf f.sender).state ≠ .barred → FrameOffset s f (some o) →
    new = timeAdd s.config.roundLength s.clock.now o →
    (s.lateHandling = true → ∃ h t, exec .frameHandlingEnd (s.setLateHandling false) = .next h ∧
      exec .frameHandlingEnd s = .next t ∧ t.freeIndex = s.freeIndex + 1 ∧ t.lateHandling = false ∧
      (t = h.setFreeIndex (s.freeIndex + 1) ∨
        t.clock = { s.clock with now := new, overtime := 0, handed := none } ∧ t.agreement = h.agreement ∧
          t.framer = after ∧ t.tap = h.tap ∧ t.config = s.config ∧ t.loader = s.loader ∧
          t.schedule = h.makeStep.schedule ∧ t.outputs = h.makeStep.outputs ∧ t.arms = h.makeStep.arms ∧
          t.capture = h.makeStep.capture ∧ t.store = h.makeStep.store)) ∧
    (s.lateHandling = false → ∃ t, exec .frameHandlingEnd s = .next t ∧
      t.clock = { s.clock with handed := some new } ∧
      t.agreement.state = .gathering ∧ t.agreement.founder = some (byteAt f.body 1) ∧
      t.agreement.adjustCount = s.agreement.adjustCount + 1 ∧ t.agreement.lastAdjust = .step ∧
      (s.agreement.state = .listening → t.agreement.listenCount = 0) ∧ t.agreement.clampCount = 0 ∧
      t.agreement.progress = 0 ∧ t.agreement.lonelyCount = 0 ∧ t.agreement.timeFrame = s.agreement.timeFrame ∧
      (∀ i : Fin 24, i ≠ stationIx f.sender → t.agreement.peers[i] =
        if (s.agreement.peers[i]).state = .live then { s.agreement.peers[i] with fresh := false }
        else s.agreement.peers[i]) ∧
      (t.peerOf f.sender).offset = some o ∧ (t.peerOf f.sender).fresh = false ∧
      (t.peerOf f.sender).heard = true ∧ (t.peerOf f.sender).state = .live ∧
      (t.peerOf f.sender).founder = some (byteAt f.body 1) ∧
      (s.agreement.state ≠ .gathering → t.tap = { s.tap with latch := true, setSinceTake := true }) ∧
      (s.agreement.state = .gathering → t.tap = s.tap) ∧
      t.framer = after ∧ t.config = s.config ∧ t.loader = s.loader ∧ t.arms.history = s.arms.history ∧
      t.arms.cancels = s.arms.cancels ∧ t.arms.inFlight = s.arms.inFlight ∧ t.capture.outbox = s.capture.outbox ∧ t.access.rotation = s.access.rotation ∧
      (LooksTaken s → t.schedule = s.schedule ∧ t.outputs = s.outputs ∧ t.arms = s.arms ∧ t.capture = s.capture ∧
        (1 ≤ s.config.roundLength → 1 ≤ s.config.horizon →
          s.store.settling.length + s.store.lane.length + 2 ≤ 128 →
          t.store =
            { settling := ⟨.note .step (byteAt f.body 1), s.config.id, false, 0, new, false, false, false⟩ ::
                (if s.agreement.state = .gathering then []
                else [⟨.note .agreement 3, s.config.id, false, 0, new, false, false, false⟩])
              lane := s.store.lane ++ s.store.settling.map fun r => { r with stepped := true }
              mark := none
              gap := s.store.gap })))) ∧
  (∀ (s : State) (new : LineTime), s.clock.handed = some new → s.agreement.state = .gathering →
    (∀ e ∈ s.schedule, earlier s.len e.due new = true ∨ earlier s.len new e.due = true) → ArmIdsDistinct s →
    s.makeStep.clock = { s.clock with now := new, overtime := 0, handed := none } ∧
    s.makeStep.agreement = s.agreement ∧ s.makeStep.access = s.access ∧ s.makeStep.framer = s.framer ∧
    s.makeStep.tap = s.tap ∧ s.makeStep.config = s.config ∧
    s.makeStep.schedule = s.schedule.filter (fun e => !earlier s.len e.due new) ∧
    s.makeStep.arms = { s.arms with
      outbox := s.arms.outbox.filter fun r => !(earlier s.len r.action new && !s.arms.inFlight.carriesArm r.id) } ∧
    s.makeStep.store =
      (((s.schedule.filter fun e => earlier s.len e.due new).map (fun e : ScheduleEntry =>
          (⟨.note .missed (BitVec.ofNat 8 e.output.val), e.sender, false, e.tag, new, false, false, false⟩ : EventRecord)) ++
        (s.arms.outbox.filter fun r =>
            earlier s.len r.action new && !s.arms.inFlight.carriesArm r.id && !r.effective).map (fun r : ArmRecord =>
          (⟨.note .armExpired r.id, s.config.id, false, r.tag, new, false, false, false⟩ : EventRecord))).foldl
        State.takeRecord
        (s.setClock { s.clock with now := new, overtime := 0, handed := none })).store ∧
    s.makeStep.capture.outbox = (s.capture.outbox.map fun e => { e with sure := false }) ∧
    s.makeStep.capture.inFlight = s.capture.inFlight ∧
    (∀ i : Fin 8, (s.makeStep.capture.filters[i]).stable = (s.capture.filters[i]).stable ∧
      ((s.capture.filters[i]).condition = .stable → (s.makeStep.capture.filters[i]).condition = .stable) ∧
      ∀ edge stamp hold stepped, (s.capture.filters[i]).condition = .pending edge stamp hold stepped →
        (s.makeStep.capture.filters[i]).condition = .pending edge stamp hold true) ∧
    ∀ i : Fin 8,
      ((s.outputs[i]).condition ≠ .acting → s.makeStep.outputs[i] = s.outputs[i]) ∧
      ((s.config.outputs[i]).mode = .level → s.makeStep.outputs[i] = s.outputs[i]) ∧
      (∀ p, (s.outputs[i]).condition = .acting → (s.config.outputs[i]).mode = .pulse →
        (s.outputs[i]).pulseEnd = some p →
        s.makeStep.outputs[i] = if earlier s.len new p then s.outputs[i]
          else { s.outputs[i] with level := false, pulseEnd := none }) ∧
      ∀ r, (s.outputs[i]).condition = .acting → (s.config.outputs[i]).mode = .round →
        (s.outputs[i]).latchRound = some r →
        s.makeStep.outputs[i] = if s.clock.now.round = new.round then s.outputs[i]
          else { s.outputs[i] with level := false, latchRound := none }) ∧
  ∀ (s : State) (new : LineTime), s.resetHeld = false → s.clock.running = true → s.clock.handed = some new →
    s.clock.pace + s.clock.trim.natAbs < 1000000 → new.phase + 1 < s.config.roundLength →
    ∃ t, exec .referencePeriod s = .next t ∧
      t.agreement = { s.agreement with timeFrame := t.agreement.timeFrame } ∧
      (t.clock = { s.clock with
          pace := s.clock.pace + s.clock.trim.natAbs, now := new, overtime := 0, handed := none } ∨
        t.clock = { s.clock with
          pace := s.clock.pace + s.clock.trim.natAbs, now := ⟨new.round, new.phase + 1⟩, overtime := 0,
          handed := none })

/-- FRAME_HANDLING_END of a TIME frame that causes no adoption: one from a sender in GATHERING or ADRIFT, from a BARRED entry,
with a stamp that is not usable, or, in ALONE, GATHERING and LOCKED, under a founder that is not lower than the own one (R24).
Only the sender's entry, the buffers and the handler change (R21): a BARRED entry takes only the sender state and the founder;
any other becomes or stays LIVE and heard with its silent rounds at 0, and takes the offset with its round as fresh where the
stamp is usable, by the rows of R22 (a stamp at the last phase of the round; the counts equal; one correction, or one step,
between them; more between them), and keeps offset, round and fresh as they were where it is not. In UNSET the frame is not
taken (R19).
Rests on log 5 and log 29. -/
def Obligations.TimeFrameUpdatesThePeerEntry : Prop :=
  (∀ (s : State) (f : ReceivedFrame) (after : Framer) (sent : AgreementState) (x : Option Int), HandlingEnds s f after →
    f.kind = .time → s.agreement.state ≠ .unset →
    (byteAt f.body 0 = 2 ∧ sent = .alone ∨ byteAt f.body 0 = 3 ∧ sent = .gathering ∨
      byteAt f.body 0 = 4 ∧ sent = .locked ∨ byteAt f.body 0 = 5 ∧ sent = .adrift) → FrameOffset s f x →
    (sent = .gathering ∨ sent = .adrift ∨ (s.peerOf f.sender).state = .barred ∨ x = none ∨
      Acting s ∧ ∀ own, s.agreement.founder = some own → own.toNat ≤ (byteAt f.body 1).toNat) →
    ∃ p, exec .frameHandlingEnd s = .next (((inPeriod s).setPeer f.sender p).setFramer after) ∧
      p.senderState = some sent ∧ p.founder = some (byteAt f.body 1) ∧
      ((s.peerOf f.sender).state = .barred →
        p = { s.peerOf f.sender with senderState := some sent, founder := some (byteAt f.body 1) }) ∧
      ((s.peerOf f.sender).state ≠ .barred →
        p.state = .live ∧ p.heard = true ∧ p.silent = 0 ∧
          (∀ o, x = some o → p.fresh = true ∧ p.offset = some o ∧
            p.offsetRound = some (if 0 < s.clock.overtime then s.clock.now.round + 1 else s.clock.now.round)) ∧
          (x = none → p.fresh = (s.peerOf f.sender).fresh ∧ p.offset = (s.peerOf f.sender).offset ∧
            p.offsetRound = (s.peerOf f.sender).offsetRound)) ∧
      ((s.peerOf f.sender).state = .live → p.strikes = (s.peerOf f.sender).strikes ∧ p.barred = (s.peerOf f.sender).barred) ∧
      ((s.peerOf f.sender).state = .absent → p.strikes = 0 ∧ p.barred = 0)) ∧
  ∀ (s : State) (f : ReceivedFrame) (after : Framer), HandlingEnds s f after → f.kind = .time →
    s.agreement.state = .unset → exec .frameHandlingEnd s = .next ((inPeriod s).setFramer after)

/-! ### Arms, cancels and the Schedule -/

/-- The next arm id is the first value from the counter on that neither outbox holds (R47), where both outboxes are within
their capacity. -/
def Obligations.NewArmIdIsTheFirstFree : Prop :=
  ∀ s : State, s.arms.outbox.length ≤ 8 → s.arms.cancels.length ≤ 8 →
    s.armIdHeld s.newArmId = false ∧
      ∃ k : Nat, k < 256 ∧ s.newArmId = s.arms.nextId + BitVec.ofNat 8 k ∧
        ∀ j : Nat, j < k → s.armIdHeld (s.arms.nextId + BitVec.ofNat 8 j) = true

/-- An insertion request (R69, R70), where the Schedule has no entry whose due time is reached: one earlier than now leaves a
MISSED note alone; one not reached is inserted, where there is room, after every leading entry whose due time is not later than
its own, and nothing else changes; into a full Schedule it is inserted in place of the last entry, which leaves an EVICTED note,
if it is earlier than that, and leaves a SCHEDULE-FULL note alone otherwise (R71). A request due exactly now, before all entries
there, is taken at once: executed in an acting state, MISSED in ADRIFT, and held in UNSET and LISTENING (R69, R72); in an acting
state a full Schedule loses its last entry to it (R70). -/
def Obligations.InsertionRequestsFollowTheirDueTime : Prop :=
  ∀ (s : State) (e : ScheduleEntry), (∀ x ∈ s.schedule, earlier s.len s.now x.due = true) →
    (earlier s.len e.due s.now = true →
      s.insertRequest e = s.takeRecord (noteNow s .missed (BitVec.ofNat 8 e.output.val) e.sender e.tag)) ∧
    (earlier s.len s.now e.due = true → earlier s.len e.due s.now = false → s.schedule.length < 32 →
      ∃ before after, s.schedule = before ++ after ∧ s.insertRequest e = s.setSchedule (before ++ e :: after) ∧
        (∀ x ∈ before, later s.len x.due e.due = false) ∧ ∀ x ∈ after.head?, later s.len x.due e.due = true) ∧
    (∀ kept last, s.schedule = kept ++ [last] → s.schedule.length = 32 → earlier s.len e.due s.now = false →
      (earlier s.len s.now e.due = true → earlier s.len e.due last.due = true →
        ∃ before after, kept = before ++ after ∧
          s.insertRequest e =
            (s.takeRecord (noteNow s .evicted (BitVec.ofNat 8 last.output.val) last.sender last.tag)).setSchedule
              (before ++ e :: after) ∧
          (∀ x ∈ before, later s.len x.due e.due = false) ∧ ∀ x ∈ after.head?, later s.len x.due e.due = true) ∧
      (earlier s.len e.due last.due = false →
        s.insertRequest e = s.takeRecord (noteNow s .scheduleFull (BitVec.ofNat 8 e.output.val) e.sender e.tag)) ∧
      (e.due = s.now → (∀ x ∈ s.schedule, later s.len x.due s.now = true) → Acting s →
        s.insertRequest e =
          ((s.takeRecord (noteNow s .evicted (BitVec.ofNat 8 last.output.val) last.sender last.tag)).setSchedule
            kept).execute e)) ∧
    (e.due = s.now → (∀ x ∈ s.schedule, later s.len x.due s.now = true) → s.schedule.length < 32 →
      (Acting s → s.insertRequest e = s.execute e) ∧
      (s.agreement.state = .adrift →
        s.insertRequest e = s.takeRecord (noteNow s .missed (BitVec.ofNat 8 e.output.val) e.sender e.tag)) ∧
      (s.agreement.state = .unset ∨ s.agreement.state = .listening →
        s.insertRequest e = s.setSchedule (e :: s.schedule)))

/-- FRAME_HANDLING_END of a CANCEL frame, in an acting state or ADRIFT: every schedule entry of an origin named leaves; id by
id, an entry of the sender's history that is ACCEPTED becomes CANCELLED in its place with its tag and action time, one that is
CANCELLED stays, and an id without an entry gets a placeholder at the newest end, the oldest entry of a full list dropped;
but for the handling, nothing else changes (R60, R65, R66, R74). In UNSET and LISTENING the frame is ignored (R65).
Rests on log 29. -/
def Obligations.CancelFrameRemovesByOrigin : Prop :=
  (∀ (s : State) (f : ReceivedFrame) (after : Framer), HandlingEnds s f after → f.kind = .cancel →
    (Acting s ∨ s.agreement.state = .adrift →
      exec .frameHandlingEnd s = .next
        ((((inPeriod s).setSchedule
            (s.schedule.filter fun e => !(e.sender == f.sender && (cancelIds f.body).contains e.armId))).setArms
          { s.arms with
            history := s.arms.history.set (stationIx f.sender).val
              ((cancelIds f.body).foldl (fun es id => cancelHistory id es) (s.historyOf f.sender)) }).setFramer after) ∧
      ∀ h ∈ (cancelIds f.body).foldl (fun es id => cancelHistory id es) (s.historyOf f.sender),
        h.id ∈ cancelIds f.body → ∀ tag action, h.status ≠ .accepted tag action) ∧
    (s.agreement.state = .unset ∨ s.agreement.state = .listening →
      exec .frameHandlingEnd s = .next ((inPeriod s).setFramer after))) ∧
  ∀ (id : Byte) (es : List HistoryEntry),
    ((∀ e ∈ es, e.id ≠ id) →
      cancelHistory id es = (if 8 ≤ es.length then es.drop 1 else es) ++ [⟨id, .placeholder⟩]) ∧
    ∀ before e after, es = before ++ e :: after → e.id = id → (∀ x ∈ before ++ after, x.id ≠ id) →
      (∀ tag action, e.status = .accepted tag action →
        cancelHistory id es = before ++ ⟨id, .cancelled tag action⟩ :: after) ∧
      ((∀ tag action, e.status ≠ .accepted tag action) → cancelHistory id es = es)

/-- FRAME_HANDLING_END of an ARM frame: in an acting state its arms are taken one by one in frame order, and elsewhere the
frame is ignored (R62). An arm from a sender that is not LIVE under the station's own founder makes an ARM-FOREIGN note and is
skipped. From one that is: a repeat, a late copy of a cancelled arm and an arm that a placeholder blocks are skipped without a
note; any other arm is new, and one earlier than now makes an ARM-LATE note, one later than 250 rounds an ARM-FAR note, and
one within reach is entered ACCEPTED at the newest end of the sender's list, an entry of its id removed first and then the
oldest of a list of 8, and each binding of its tag, in rising order of index, gives the Schedule one insertion request (R44,
R60, R62, R63, R64). Nothing else changes.
Rests on log 29. -/
def Obligations.NewArmIsEnteredAndBound : Prop :=
  (∀ (s : State) (f : ReceivedFrame) (after : Framer), HandlingEnds s f after → f.kind = .arm →
    (Acting s → exec .frameHandlingEnd s = .next
      (((armEntries s.config.roundLength f.body).foldl (State.takeArm f.sender) (inPeriod s)).setFramer after)) ∧
    (¬Acting s → exec .frameHandlingEnd s = .next ((inPeriod s).setFramer after))) ∧
  (∀ (s : State) (sender : StationId) (a : ReceivedArm), ArmIdsDistinct s →
    ((s.peerOf sender).state ≠ .live ∨ (s.peerOf sender).founder ≠ s.agreement.founder →
      State.takeArm sender s a = s.takeRecord (noteNow s .armForeign a.id sender a.tag)) ∧
    ((s.peerOf sender).state = .live →
      (∃ own, s.agreement.founder = some own ∧ (s.peerOf sender).founder = some own) →
      (∀ h ∈ s.historyOf sender, h.id = a.id →
        h.status = .accepted a.tag a.action ∨ h.status = .cancelled a.tag a.action ∨ h.status = .placeholder →
        State.takeArm sender s a = s) ∧
      ((∀ h ∈ s.historyOf sender, h.id = a.id →
          h.status ≠ .accepted a.tag a.action ∧ h.status ≠ .cancelled a.tag a.action ∧ h.status ≠ .placeholder) →
        (earlier s.len a.action s.clock.now = true →
          State.takeArm sender s a = s.takeRecord (noteNow s .armLate a.id sender a.tag)) ∧
        (earlier s.len a.action s.clock.now = false → later s.len a.action (timeAddRounds s.clock.now 250) = true →
          State.takeArm sender s a = s.takeRecord (noteNow s .armFar a.id sender a.tag)) ∧
        (earlier s.len a.action s.clock.now = false → later s.len a.action (timeAddRounds s.clock.now 250) = false →
          State.takeArm sender s a =
            (requestsOf s sender a.id a.tag a.action).foldl State.insertRequest
              (s.setArms { s.arms with
                history := s.arms.history.set (stationIx sender).val
                  (enterHistory a.id a.tag a.action (s.historyOf sender)) }) ∧
          ((∀ b ∈ s.config.bindings, b.tag ≠ a.tag) →
            (State.takeArm sender s a).schedule = s.schedule ∧ (State.takeArm sender s a).outputs = s.outputs) ∧
          (∀ b, s.config.bindings = [b] → b.tag = a.tag → s.schedule = [] →
            earlier s.len s.clock.now (timeAdd s.len a.action b.offset) = true →
            earlier s.len (timeAdd s.len a.action b.offset) s.clock.now = false →
            (State.takeArm sender s a).schedule =
              [⟨timeAdd s.len a.action b.offset, b.output, b.action, sender, a.id, a.tag, 0⟩]))))) ∧
  ∀ (id tag : Byte) (action : LineTime) (es : List HistoryEntry),
    ((∀ e ∈ es, e.id ≠ id) →
      enterHistory id tag action es = (if 8 ≤ es.length then es.drop 1 else es) ++ [⟨id, .accepted tag action⟩]) ∧
    ∀ before e after, es = before ++ e :: after → e.id = id → (∀ x ∈ before ++ after, x.id ≠ id) →
      enterHistory id tag action es =
        (if 8 ≤ (before ++ after).length then (before ++ after).drop 1 else before ++ after) ++
          [⟨id, .accepted tag action⟩]

/-- Accepting an arm and cancelling one each keep the arm history and the Schedule in step, at any sender 1 to 24, and so does
every step, where what HistoryKept says of the senders of entries and buffered frames and of the own id holds (R61).
Rests on log 29. -/
def Obligations.HistoryAndScheduleStayInStep : Prop :=
  (∀ s t : State, HistoryKept s → step s = .next t → HistoryKept t) ∧
  ∀ (s : State) (sender : StationId) (id tag : Byte) (action : LineTime), 1 ≤ sender.toNat → sender.toNat ≤ 24 →
    ScheduleSendersValid s → HistoryInStep s →
    HistoryInStep (s.acceptArm sender id tag action) ∧ ScheduleSendersValid (s.acceptArm sender id tag action) ∧
      HistoryInStep (s.cancelArm sender id) ∧ ScheduleSendersValid (s.cancelArm sender id) ∧
      (∀ e ∈ (s.cancelArm sender id).schedule, ¬(e.sender = sender ∧ e.armId = id))

/-- SCHEDULE_ENTRY_DUE in an acting state: the head entry, whose due time is reached, leaves the Schedule, and its output
takes the action as its mode states, with an ACTED note where the output logs (R71, R72, R80 to R84); nothing but the
Schedule, that output and the Event Store changes. In ADRIFT the entry leaves with its MISSED note, and no output changes
(R72, R76). -/
def Obligations.DueEntryIsExecutedOrMissed : Prop :=
  (∀ (s : State) (e : ScheduleEntry) (rest : List ScheduleEntry), s.resetHeld = false →
      (s.agreement.state = .alone ∨ s.agreement.state = .gathering ∨ s.agreement.state = .locked) →
      s.schedule = e :: rest → earlier s.len s.clock.now e.due = false →
      (∀ x ∈ rest.head?, earlier s.len s.clock.now x.due = true) →
      ∃ t o, exec .scheduleEntryDue s = .next t ∧
        t = (((inPeriod s).setSchedule rest).setOutputs (s.outputs.set e.output.val o)).setStore t.store ∧
        ((s.config.outputs[e.output]).log = false → t.store = s.store) ∧
        ((s.config.outputs[e.output]).log = true →
          t.store = (s.takeRecord (noteNow s .acted (BitVec.ofNat 8 e.output.val) e.sender e.tag)).store) ∧
        ((s.outputs[e.output]).condition ≠ .undriven →
          ((s.config.outputs[e.output]).mode = .level → e.action = .set →
            o = { s.outputs[e.output] with condition := .acting, level := true }) ∧
          ((s.config.outputs[e.output]).mode = .level → e.action = .clear →
            o = { s.outputs[e.output] with condition := .acting, level := false }) ∧
          ((s.config.outputs[e.output]).mode = .level → e.action = .toggle →
            o = { s.outputs[e.output] with condition := .acting, level := !(s.outputs[e.output]).level }) ∧
          ((s.config.outputs[e.output]).mode = .pulse → e.action = .fire →
            o = { s.outputs[e.output] with
              condition := .acting, level := true
              pulseEnd := some (timeAdd s.len s.clock.now (s.config.outputs[e.output]).width) }) ∧
          ((s.config.outputs[e.output]).mode = .round → e.action = .set →
            o = { s.outputs[e.output] with
              condition := .acting, level := decide (e.due.round = s.clock.now.round)
              latchRound := some e.due.round }))) ∧
  (∀ (s : State) (e : ScheduleEntry) (rest : List ScheduleEntry), s.resetHeld = false → s.agreement.state = .adrift →
      s.schedule = e :: rest → earlier s.len s.clock.now e.due = false →
      (∀ x ∈ rest.head?, earlier s.len s.clock.now x.due = true) →
      exec .scheduleEntryDue s =
        .next (((inPeriod s).setSchedule rest).takeRecord
          ⟨.note .missed (BitVec.ofNat 8 e.output.val), e.sender, false, e.tag, s.clock.now, false, false, false⟩))

/-- PULSE_END: a pulse end that is reached makes the level INACTIVE and becomes absent, and one that is not reached stays
(R83); nothing else changes. -/
def Obligations.PulseEndTurnsTheOutputOff : Prop :=
  ∀ (s : State) (i : Fin 8) (pulseEnd : LineTime), s.resetHeld = false → (s.outputs[i]).pulseEnd = some pulseEnd →
    (earlier s.len s.clock.now pulseEnd = false →
      exec (.pulseEnd i) s =
        .next ((inPeriod s).setOutputs (s.outputs.set i.val { s.outputs[i] with level := false, pulseEnd := none }))) ∧
      (earlier s.len s.clock.now pulseEnd = true → exec (.pulseEnd i) s = .next (inPeriod s))

/-- ARM_EXPIRED: a record whose action time is passed and that no frame in flight carries leaves the arm outbox, its input
released; with it goes an ARM-EXPIRED note where it was not effective (R45, R53). The other records keep their order, and the
report of class A content goes with the look (R49, R143). In the period of a step, after its hand-over, the same holds of a record
that the step passes, its note timestamped at the new line time (R54; the order of release and acceptance in R100). Any other record
stays, and the report alone is looked at.
Rests on log 5, log 8, log 21 and log 32. -/
def Obligations.PassedArmExpires : Prop :=
  (∀ (s : State) (r : ArmRecord) (before after : List ArmRecord), s.resetHeld = false → ArmIdsDistinct s →
    s.arms.outbox = before ++ r :: after → later s.len s.clock.now r.action = true → ¬CarriesArm s r.id →
    ∃ t, exec (.armExpired r.id) s = .next t ∧
      t.arms = { s.arms with outbox := before ++ after } ∧
      t.capture.outbox = s.capture.outbox ∧ t.capture.inFlight = s.capture.inFlight ∧ Released s t r ∧
      t = ((((inPeriod s).setArms t.arms).setCapture t.capture).setStore t.store).setAccess t.access ∧ Reported s t ∧
      (r.effective = true → t.store = s.store) ∧
      (r.effective = false → t.store =
        (s.takeRecord ⟨.note .armExpired r.id, s.config.id,
          s.agreement.state == .alone || s.agreement.state == .locked, r.tag, s.clock.now, false, false, false⟩).store)) ∧
  (∀ (s : State) (r : ArmRecord) (before after : List ArmRecord) (new : LineTime), s.resetHeld = false → ArmIdsDistinct s →
    s.arms.outbox = before ++ r :: after → s.clock.handed = some new → later s.len s.clock.now r.action = false →
    earlier s.len r.action new = true → ¬CarriesArm s r.id →
    ∃ t, exec (.armExpired r.id) s = .next t ∧
      t.arms = { s.arms with outbox := before ++ after } ∧
      t.capture.outbox = s.capture.outbox ∧ t.capture.inFlight = s.capture.inFlight ∧ Released s t r ∧
      t = ((((inPeriod s).setArms t.arms).setCapture t.capture).setStore t.store).setAccess t.access ∧ Reported s t ∧
      (r.effective = true → t.store = s.store) ∧
      (r.effective = false → t.store =
        (s.takeRecord ⟨.note .armExpired r.id, s.config.id,
          s.agreement.state == .alone || s.agreement.state == .locked, r.tag, new, false, false, false⟩).store)) ∧
  ∀ (s : State) (id : Byte), s.resetHeld = false →
    (∀ r ∈ s.arms.outbox, r.id = id → CarriesArm s id ∨ later s.len s.clock.now r.action = false ∧
      ∀ new, s.clock.handed = some new → earlier s.len r.action new = false) →
    ∃ t, exec (.armExpired id) s = .next t ∧ t = (inPeriod s).setAccess t.access ∧ Reported s t

/-! ### The Event Store -/

/-- SETTLE: the leading records that are H rounds old or older move to the tail of the release lane in their order, the new
head is younger than that, and the release mark becomes the timestamp of the last one moved, unless its own age has reached
8,388,607 rounds (R105). The store's time is now, or the new line time of a step that has been handed over (R109).
Rests on log 5 and log 20. -/
def Obligations.SettlingReleasesRecordsAtTheHorizon : Prop :=
  ∀ (s : State) (now : LineTime), s.resetHeld = false → now = s.clock.handed.getD s.clock.now →
    ∃ moved kept, s.store.settling = moved ++ kept ∧
      (∀ r ∈ moved, timeDiff s.len now r.stamp ≤ -((s.config.horizon * s.len : Nat) : Int)) ∧
      (∀ r ∈ kept.head?, -((s.config.horizon * s.len : Nat) : Int) < timeDiff s.len now r.stamp) ∧
      ∃ mark, exec .settle s =
          .next ((inPeriod s).setStore { settling := kept, lane := s.store.lane ++ moved, mark := mark, gap := s.store.gap }) ∧
        ∀ m, mark = some m ↔
          (if moved = [] then s.store.mark else moved.getLast?.map (·.stamp)) = some m ∧
            -(8388607 * (s.len : Int)) < timeDiff s.len now m

/-- FRAME_HANDLING_END of an EVENT frame: outside UNSET each entry, in frame order, makes one record of its edge with the
sender as origin, SURE only where it is carried so by a sender that is LIVE under the station's own founder (R107); nothing
else changes but the handling. The Event Store takes a record by the three tests: a store of 128 discards it, one earlier than
the release mark joins the lane flagged LATE, and any other, one at the mark included, is inserted into the settling list
after the leading records whose keys are not later than its own; no record is taken in UNSET (R103, R104). The insertion
clause is for a horizon that the record has not reached and a settling list none of whose records has; the last clause is for
a record that has reached it and finds the settling list empty: it moves on to the lane at once, not LATE, and sets the mark
(R105). The store's time is now, or the new line time of a step that has been handed over (R109).
Rests on log 5, log 20 and log 29. -/
def Obligations.StoreTakesARecordByThreeTests : Prop :=
  (∀ (s : State) (f : ReceivedFrame) (after : Framer) (own : Bool), HandlingEnds s f after → f.kind = .event →
    (own = true ↔ (s.peerOf f.sender).state = .live ∧
      ∃ founder, (s.peerOf f.sender).founder = some founder ∧ s.agreement.founder = some founder) →
    (s.agreement.state ≠ .unset → exec .frameHandlingEnd s = .next
      ((((eventEntries s.config.roundLength f.body).map fun e : SharedEdge =>
        (⟨.edge e.channel e.edge, f.sender, e.sure && own, e.tag, e.stamp, false, false, false⟩ : EventRecord)).foldl
          State.takeRecord (inPeriod s)).setFramer after)) ∧
    (s.agreement.state = .unset → exec .frameHandlingEnd s = .next ((inPeriod s).setFramer after))) ∧
  ∀ (s : State) (r : EventRecord) (now : LineTime), now = s.clock.handed.getD s.clock.now →
    (s.agreement.state = .unset → s.takeRecord r = s) ∧
    (s.agreement.state ≠ .unset → 128 ≤ s.store.settling.length + s.store.lane.length →
      s.takeRecord r = s.setStore { s.store with gap := .pending }) ∧
    (∀ m, s.agreement.state ≠ .unset → s.store.settling.length + s.store.lane.length < 128 → s.store.mark = some m →
      timeDiff s.len now r.stamp < timeDiff s.len now m →
      s.takeRecord r = s.setStore { s.store with lane := s.store.lane ++ [{ r with late := true }] }) ∧
    (s.agreement.state ≠ .unset → s.store.settling.length + s.store.lane.length < 128 →
      (∀ m, s.store.mark = some m →
        timeDiff s.len now m ≤ timeDiff s.len now r.stamp ∧ -(8388607 * (s.len : Int)) < timeDiff s.len now m) →
      ((∀ x ∈ r :: s.store.settling, -((s.config.horizon * s.len : Nat) : Int) < timeDiff s.len now x.stamp) →
        ∃ before after, s.store.settling = before ++ after ∧
          s.takeRecord r = s.setStore { s.store with settling := before ++ r :: after } ∧
          (∀ x ∈ before, keyLater s.len now x r = false) ∧
          ∀ x ∈ after.head?, keyLater s.len now x r = true) ∧
      (s.store.settling = [] → timeDiff s.len now r.stamp ≤ -((s.config.horizon * s.len : Nat) : Int) →
        -(8388607 * (s.len : Int)) < timeDiff s.len now r.stamp →
        s.takeRecord r = s.setStore { s.store with lane := s.store.lane ++ [r], mark := some r.stamp }))

/-! ### Inputs -/

/-- INPUT_CHANGE: the sample of an input at a level other than its stable level begins a pending transition with the stamp of
this reference period; one at the stable level drops a pending transition; a further sample at the new level raises the hold
count (R89, R90, R91). Nothing but the pin, the filter and the mark of the sample changes.
Rests on log 14. -/
def Obligations.InputSampleMovesTheFilter : Prop :=
  ∀ (s : State) (i : Fin 8) (level stable : Bool) (held : Option Byte), s.resetHeld = false → s.clock.running = true →
    (s.config.inputs[i]).selection ≠ .off → s.sampled.getLsbD i.val = false →
    (s.capture.filters[i]).stable = some stable → (s.capture.filters[i]).outstanding = held →
    ∃ (pins sampled : BitVec 8) (c : FilterCondition),
      exec (.inputChange i level) s =
        .next ((((inPeriod s).setInPins pins).setCapture { s.capture with
          filters := s.capture.filters.set i.val ⟨some stable, c, held⟩ }).setSampled sampled) ∧
      pins.getLsbD i.val = level ∧ (∀ j : Fin 8, j ≠ i → pins.getLsbD j.val = s.inPins.getLsbD j.val) ∧
      sampled = s.sampled ||| BitVec.twoPow 8 i.val ∧
      (level = stable → c = .stable) ∧
      (level ≠ stable → (s.capture.filters[i]).condition = .stable →
        c = .pending (if level then .rise else .fall) s.clock.now 0 false) ∧
      (∀ edge stamp hold stepped, level ≠ stable →
        (s.capture.filters[i]).condition = .pending edge stamp hold stepped →
        c = .pending edge stamp (hold + 1) stepped)

/-- EDGE_ACCEPTED: an edge whose hold count has reached the hold time in this period's sample is accepted: the stable level
becomes the new level; where the kind is selected, an edge record with the pending stamp, and the copy of a sharing input in
an acting state or ADRIFT with room in the event outbox, are made (R91 to R94, R96). The first clause is of an input without a
trigger tag, the only one whose edge is accepted, with the store empty and the stamp younger than the horizon. The second is
of a trigger input that does not share: after its edge record, with the trigger tag, the arm request is checked in order: out
of the acting states TRIGGER-STATE, an action time earlier than now plus M or later than now plus 250 rounds TRIGGER-LEAD, an
outstanding arm TRIGGER-BUSY, a full outbox TRIGGER-FULL; where a step has been handed over in this period, now is the adopted time
in these checks (R95), and the arms that the step passes have left, their inputs released, before them (R54, R100: the release
first); where all checks pass one record joins the arm outbox under the next free id, and is the input's outstanding arm (R46, R47, R93, R99, R100). The transmitter follows the reports (R143).
Rests on log 5, log 8, log 14, log 21 and log 32. -/
def Obligations.HeldEdgeIsAccepted : Prop :=
  (∀ (s : State) (i : Fin 8) (edge : Edge) (stamp : LineTime) (stepped : Bool) (hold : Nat), s.resetHeld = false →
    s.clock.running = true → s.sampled = 0xFF → (s.capture.filters[i]).condition = .pending edge stamp hold stepped →
    (s.config.inputs[i]).hold = hold → (s.config.inputs[i]).selection = .both → (s.config.inputs[i]).tag = 0 →
    (∀ j : Fin 8, j ≠ i → (s.capture.filters[j]).condition = .stable) → s.agreement.state ≠ .unset →
    s.store = ⟨[], [], none, .clear⟩ →
    -((s.config.horizon * s.len : Nat) : Int) < timeDiff s.len s.storeNow stamp →
    ∃ (sure shares : Bool) (t : State),
      exec .edgeAccepted s = .next t ∧ Reported s t ∧
        t = ((((inPeriod s).setCapture { s.capture with
          filters := s.capture.filters.set i.val
            { s.capture.filters[i] with stable := some (edge == .rise), condition := .stable }
          outbox := s.capture.outbox ++ (if shares then [⟨i, edge, sure, 0, stamp⟩] else []) }).setStore
            ⟨[⟨.edge i edge, s.config.id, sure, 0, stamp, false, false,
              (s.config.inputs[i]).share && !shares⟩], [], none, .clear⟩).setAccess t.access) ∧
      (sure = true ↔ (s.agreement.state = .alone ∨ s.agreement.state = .locked) ∧ stepped = false) ∧
      (shares = true ↔
        (s.config.inputs[i]).share = true ∧ s.agreement.state ≠ .listening ∧ s.capture.outbox.length < 16)) ∧
  ∀ (s : State) (i : Fin 8) (edge : Edge) (stamp action judged : LineTime) (stepped sure : Bool) (hold : Nat) (tag : Byte),
    s.resetHeld = false → s.clock.running = true → s.sampled = 0xFF →
    (s.capture.filters[i]).condition = .pending edge stamp hold stepped → (s.config.inputs[i]).hold = hold →
    (s.config.inputs[i]).selection = .both → (s.config.inputs[i]).share = false → (s.config.inputs[i]).tag = tag →
    tag ≠ 0 → (s.config.inputs[i]).triggerEdges = .both →
    (∀ j : Fin 8, j ≠ i → (s.capture.filters[j]).condition = .stable) → s.agreement.state ≠ .unset →
    action = timeAdd s.len stamp (s.config.inputs[i]).lead → judged = s.clock.handed.getD s.clock.now →
    (sure = true ↔ s.agreement.state = .alone ∨ s.agreement.state = .locked) → (judged ≠ s.clock.now → ArmIdsDistinct s) →
    ∃ (code : Option NoteCode) (recorded u t : State),
      recorded = (s.setCapture { s.capture with
          filters := s.capture.filters.set i.val
            { s.capture.filters[i] with stable := some (edge == .rise), condition := .stable } }).takeRecord
        ⟨.edge i edge, s.config.id, sure && !stepped, tag, stamp, false, false, false⟩ ∧
      (judged = s.clock.now → u = recorded) ∧ (judged ≠ s.clock.now → ArmsStepped recorded u judged) ∧
      exec .edgeAccepted s = .next t ∧ Reported s t ∧ t = (((((inPeriod u).setCapture { u.capture with
        filters := u.capture.filters.set i.val ⟨some (edge == .rise), .stable,
          if code = none then some u.newArmId else (u.capture.filters[i]).outstanding⟩ }).setArms
        (if code = none then { u.arms with
          outbox := u.arms.outbox ++ [⟨u.newArmId, tag, action, .input i, 0, false, none⟩], nextId := u.newArmId + 1 }
        else u.arms)).setStore
          (match code with
          | none => u.store
          | some c => (u.takeRecord (noteNow u c (BitVec.ofNat 8 i.val) s.config.id tag)).store)).setAccess
            t.access) ∧
      (s.agreement.state = .listening ∨ s.agreement.state = .adrift → code = some .triggerState) ∧
      (s.agreement.state ≠ .listening → s.agreement.state ≠ .adrift →
        (earlier s.len action (timeAdd s.len judged s.config.margin) = true → code = some .triggerLead) ∧
        (earlier s.len action (timeAdd s.len judged s.config.margin) = false →
          (later s.len action (timeAddRounds judged 250) = true → code = some .triggerLead) ∧
          (later s.len action (timeAddRounds judged 250) = false →
            ((u.capture.filters[i]).outstanding ≠ none → code = some .triggerBusy) ∧
            ((u.capture.filters[i]).outstanding = none →
              (8 ≤ u.arms.outbox.length → code = some .triggerFull) ∧
              (u.arms.outbox.length < 8 → code = none)))))

/-! ### Symbols and silence on LRX -/

/-- SYMBOL_BEGINS, START_BIT_GLITCH and SYMBOL_CONFIRMED: a symbol that begins notes now and the adjustment count, that of the
clock it reads where a step has been handed over and is not yet made; a high
start-bit sample drops the noted values; a low one keeps them as the start-bit time and count and returns the monitor to
BUSY (R11, R118, R139).
Rests on log 5 and log 10. -/
def Obligations.StartBitDecidesTheSymbol : Prop :=
  ∀ s : State, s.resetHeld = false →
    (∀ count, s.framer.receiver ≠ .off → s.framer.symbol = .none →
      count = (if s.clock.handed = none then s.agreement.adjustCount else s.agreement.adjustCount - 1) →
      exec .symbolBegins s = .next ((inPeriod s).setFramer { s.framer with symbol := .begun s.clock.now count 0 })) ∧
    (∀ noted adjust, s.framer.symbol = .begun noted adjust 2 →
      exec .startBitGlitch s = .next ((inPeriod s).setFramer { s.framer with symbol := .none }) ∧
      exec .symbolConfirmed s =
        .next ((((inPeriod s).setFramer { s.framer with
          symbol := .confirmed 2, startCount := some adjust, silence := 0, quietFound := false }).setClock
            { s.clock with startBit := some noted }).setAccess { s.access with
              monitor := .busy, gapCount := 0, slotIndex := 0, slotCount := 0, slotTaken := false }))

/-- SYMBOL_ENDED, QUIET and GAP_COMPLETE: the end of a kind bit takes the monitor from BUSY to GAP; quiet, one symbol time
after it, is found once, changes nothing else in WAIT-OPEN, and truncates a frame being taken; the gap of 120 reference
periods ends in the window's slot 0 (R119, R124, R125, R139). While the station sends, the receiver moves and nothing
is counted (R128).
Rests on log 10 and log 35. -/
def Obligations.SilenceLeadsToTheWindow : Prop :=
  ∀ s : State, s.resetHeld = false →
    (s.framer.symbol = .recognised 40 → s.access.monitor = .busy →
      exec .symbolEnded s =
        .next (((inPeriod s).setFramer { s.framer with symbol := .none, silence := 0, quietFound := false }).setAccess
          { s.access with monitor := .gap, gapCount := 0 })) ∧
    (s.framer.silence = 40 → s.framer.quietFound = false → s.framer.symbol = .none →
      (s.framer.receiver = .waitOpen →
        exec .quiet s = .next ((inPeriod s).setFramer { s.framer with quietFound := true })) ∧
      (∀ f, s.framer.receiver = .taking f →
        exec .quiet s = .next ((inPeriod s).setFramer { s.framer with
          quietFound := true, receiver := .waitOpen, counters := counted s 9 }))) ∧
    (s.access.monitor = .gap → s.access.gapCount = 120 →
      exec .gapComplete s = .next ((inPeriod s).setAccess { s.access with
        monitor := .window, slotIndex := 0, slotCount := 0, slotTaken := false }))

/-! ### Reception -/

/-- RECEIVE_OPEN, RECEIVE_DATA_SYMBOL, RECEIVE_QUASH, RECEIVE_INVALID_SYMBOL and RECEIVE_SHUT in WAIT-OPEN: an OPEN begins a
frame with the kept start-bit time and count and a check register of ones; a data symbol counts STRAY and skips; a SHUT or
QUASH counts STRAY; an invalid symbol counts SYMBOL and skips (R124). While the station sends, the receiver moves in the same way
and nothing is counted (R128). In SKIPPING, whether it sends or not, every recognised symbol is discarded and nothing is counted,
and quiet takes the receiver to WAIT-OPEN (R127).
Rests on log 10. -/
def Obligations.WaitOpenAndSkippingTakeEachSymbol : Prop :=
  (∀ (s : State) (begun : LineTime) (adjust : Byte), Recognising s → s.framer.receiver = .waitOpen →
      s.clock.startBit = some begun → s.framer.startCount = some adjust →
      exec .receiveOpen s = .next ((inPeriod s).setFramer { s.framer with
        symbol := .recognised 38, receiver := .taking ⟨begun, adjust, [], 0xFFFF⟩ }) ∧
      (∀ b, exec (.receiveDataSymbol b) s = .next ((inPeriod s).setFramer { s.framer with
        symbol := .recognised 38, receiver := .skipping
        counters := counted s 0 })) ∧
      exec .receiveShut s = .next ((inPeriod s).setFramer { s.framer with
        symbol := .recognised 38, counters := counted s 0 }) ∧
      exec .receiveQuash s = .next ((inPeriod s).setFramer { s.framer with
        symbol := .recognised 38, counters := counted s 0 }) ∧
      ∀ content : Byte, content ≠ 0x96 → content ≠ 0xA5 → content ≠ 0xC3 →
        exec (.receiveInvalidSymbol content) s = .next ((inPeriod s).setFramer { s.framer with
          symbol := .recognised 38, receiver := .skipping
          counters := counted s 8 })) ∧
  (∀ s : State, Recognising s → s.framer.receiver = .skipping →
      ∀ c : Instr, (c = .receiveOpen ∨ (∃ b, c = .receiveDataSymbol b) ∨ c = .receiveQuash ∨ c = .receiveShut ∨
        ∃ content : Byte, content ≠ 0x96 ∧ content ≠ 0xA5 ∧ content ≠ 0xC3 ∧ c = .receiveInvalidSymbol content) →
      exec c s = .next ((inPeriod s).setFramer { s.framer with symbol := .recognised 38 })) ∧
  (∀ s : State, s.resetHeld = false → s.framer.receiver = .skipping → s.framer.silence = 40 →
      s.framer.quietFound = false → s.framer.symbol = .none →
      exec .quiet s = .next ((inPeriod s).setFramer { s.framer with quietFound := true, receiver := .waitOpen }))

/-- RECEIVE_OPEN, RECEIVE_DATA_SYMBOL, RECEIVE_QUASH and RECEIVE_INVALID_SYMBOL in TAKING: a byte joins the frame and its check
up to the 53rd, the 54th counts LONG; an OPEN counts BROKEN and begins anew; a QUASH counts QUASHED and an invalid symbol SYMBOL,
and both skip (R125). While the station sends, the receiver moves in the same way and nothing is counted (R128).
Rests on log 10. -/
def Obligations.TakingTakesEachSymbol : Prop :=
  ∀ (s : State) (f : Taking) (begun : LineTime) (adjust : Byte), Recognising s →
    s.framer.receiver = .taking f → s.clock.startBit = some begun → s.framer.startCount = some adjust →
    (∀ b, f.bytes.length ≤ 52 →
      exec (.receiveDataSymbol b) s = .next ((inPeriod s).setFramer { s.framer with
        symbol := .recognised 38
        receiver := .taking { f with bytes := f.bytes ++ [b], check := checkByte f.check b } })) ∧
    (∀ b, f.bytes.length = 53 →
      exec (.receiveDataSymbol b) s = .next ((inPeriod s).setFramer { s.framer with
        symbol := .recognised 38, receiver := .skipping
        counters := counted s 7 })) ∧
    exec .receiveOpen s = .next ((inPeriod s).setFramer { s.framer with
      symbol := .recognised 38, receiver := .taking ⟨begun, adjust, [], 0xFFFF⟩
      counters := counted s 1 }) ∧
    exec .receiveQuash s = .next ((inPeriod s).setFramer { s.framer with
      symbol := .recognised 38, receiver := .skipping
      counters := counted s 2 }) ∧
    ∀ content : Byte, content ≠ 0x96 → content ≠ 0xA5 → content ≠ 0xC3 →
      exec (.receiveInvalidSymbol content) s = .next ((inPeriod s).setFramer { s.framer with
        symbol := .recognised 38, receiver := .skipping
        counters := counted s 8 })

/-- RECEIVE_SHUT in TAKING: the four tests are made in order, the first that fails counts its counter and discards the frame, and
the receiver returns to WAIT-OPEN (R126). While the station sends nothing is counted (R128).
Rests on log 10. -/
def Obligations.ShutTestsTheFrameInOrder : Prop :=
  ∀ (s : State) (f : Taking) (counter : Fin 15), Recognising s → s.framer.receiver = .taking f →
    (f.bytes.length < 5 ∧ counter = 3 ∨
      5 ≤ f.bytes.length ∧ f.bytes.length ≠ (byteAt f.bytes 2).toNat + 5 ∧ counter = 4 ∨
      5 ≤ f.bytes.length ∧ f.bytes.length = (byteAt f.bytes 2).toNat + 5 ∧
        checkBytes (checkOf (f.bytes.take (f.bytes.length - 2))) ≠ f.bytes.drop (f.bytes.length - 2) ∧ counter = 5 ∨
      5 ≤ f.bytes.length ∧ f.bytes.length = (byteAt f.bytes 2).toNat + 5 ∧
        checkBytes (checkOf (f.bytes.take (f.bytes.length - 2))) = f.bytes.drop (f.bytes.length - 2) ∧
        ((byteAt f.bytes 1).toNat = 0 ∨ 24 < (byteAt f.bytes 1).toNat) ∧ counter = 6) →
    exec .receiveShut s = .next ((inPeriod s).setFramer { s.framer with
      symbol := .recognised 38, receiver := .waitOpen, counters := counted s counter })

/-- RECEIVE_SHUT of a good frame while the station does not send: the rotation becomes its sender (R129). A frame of the own
id counts ID-CLASH and makes an ID-CLASH note with its kind byte (R130); of another station's, one of an unknown kind counts
KIND and one that is not well formed MALFORMED (R131); a well-formed one is taken by the idle handler from a buffer where both
are FREE (buffer A here, log 12), waits FULL in the FREE buffer while the other is handled, and counts OVERRUN where neither
is FREE (R132, R133). Of a frame while the station sends, nothing but the receiver's return to WAIT-OPEN remains (R128).
Rests on log 10 and log 12. -/
def Obligations.GoodFrameReachesTheHandler : Prop :=
  ∀ (s u : State) (f : Taking) (kindByte : Byte) (sender : StationId) (body : List Byte), Recognising s →
    s.framer.receiver = .taking f → FrameOf f.bytes kindByte sender body → body.length ≤ 48 →
    1 ≤ sender.toNat → sender.toNat ≤ 24 →
    u = ((inPeriod s).setAccess { s.access with rotation := sender }).setFramer
      { s.framer with symbol := .recognised 38, receiver := .waitOpen } →
    (NotTransmitting s →
      (sender = s.config.id →
        exec .receiveShut s = .next ((u.setFramer { u.framer with
          counters := s.framer.counters.set 13 (raised s.framer.counters[13]) }).takeRecord
            (noteNow s .idClash kindByte s.config.id 0))) ∧
      (sender ≠ s.config.id → kindByte.toNat = 0 ∨ 4 < kindByte.toNat →
        exec .receiveShut s = .next (u.setFramer { u.framer with
          counters := s.framer.counters.set 10 (raised s.framer.counters[10]) })) ∧
      ∀ kind : FrameKind, sender ≠ s.config.id → kindByte = kind.code →
        (bodyWellFormed kind body = false →
          exec .receiveShut s = .next (u.setFramer { u.framer with
            counters := s.framer.counters.set 11 (raised s.framer.counters[11]) })) ∧
        (bodyWellFormed kind body = true →
          (s.framer.bufferA = .free → s.framer.bufferB = .free →
            exec .receiveShut s = .next (u.setFramer { u.framer with
              bufferA := .handling ⟨kind, sender, body, f.stamp, f.adjust⟩, aFirst := true, ripe := false })) ∧
          (∀ g, s.framer.bufferA = .free → s.framer.bufferB = .handling g →
            exec .receiveShut s = .next (u.setFramer { u.framer with
              bufferA := .full ⟨kind, sender, body, f.stamp, f.adjust⟩, aFirst := true })) ∧
          (∀ g, s.framer.bufferA = .handling g → s.framer.bufferB = .free →
            exec .receiveShut s = .next (u.setFramer { u.framer with
              bufferB := .full ⟨kind, sender, body, f.stamp, f.adjust⟩, aFirst := false })) ∧
          (s.framer.bufferA ≠ .free → s.framer.bufferB ≠ .free →
            exec .receiveShut s = .next (u.setFramer { u.framer with
              counters := s.framer.counters.set 12 (raised s.framer.counters[12]) })))) ∧
    (¬NotTransmitting s →
      exec .receiveShut s = .next ((inPeriod s).setFramer { s.framer with symbol := .recognised 38, receiver := .waitOpen }))

/-! ### Sending -/

/-- SLOT_START in the station's own class A slot with class A reported, in its class B slot with class B content alone, or
with the yield flag set in its late slot with any content reported: a WAITING transmitter begins the frame of the first row of
R145 whose owner gives a record, with header, body and check, the transmit stamp of now, and the yield flag clear; where no
row gives one, because the class A content reported is no longer eligible, no frame is begun, the transmitter goes to IDLE and
the yield flag stays. At every other slot, and for every other transmitter, no frame is begun and nothing but the mark of the
slot's start changes; and where no slot starts nothing does (R10, R39, R40, R50, R58, R98, R142, R144, R145).
Rests on log 31 and log 32. -/
def Obligations.SlotStartBeginsTheFrame : Prop :=
  (∀ (s : State) (k : Nat), SlotStarting s → (k : Int) = ((s.config.id.toNat : Int) - s.access.rotation.toNat - 1) % 24 →
    (s.access.tx = .waiting → s.framer.engine = none →
      (s.access.yield = false ∧ s.access.slotIndex = k ∧ s.access.reportA = true ∨
        s.access.yield = false ∧ s.access.slotIndex = 24 + k ∧ s.access.reportA = false ∧ s.classB = true ∨
        s.access.yield = true ∧ s.access.slotIndex = 48 + (s.config.id.toNat - 1) ∧
          (s.access.reportA = true ∨ s.classB = true)) →
      (s.access.reportA = true ∧ s.classA = true ∨ s.classB = true →
        ∃ t kind body,
          exec .slotStart s = .next t ∧
          t.framer = { s.framer with engine := some ⟨kind,
            (kind.code :: s.config.id :: BitVec.ofNat 8 body.length :: body) ++
              checkBytes (checkOf (kind.code :: s.config.id :: BitVec.ofNat 8 body.length :: body)),
            s.clock.now, 0, 0, false, .frame, false⟩ } ∧
          t.access = { s.access with tx := .sending, yield := false, slotTaken := true, reportA := t.classA } ∧
          (s.access.reportA = true → s.eligibleCancels ≠ [] →
            kind = .cancel ∧ body = cancelBody (s.eligibleCancels.take 8) ∧
            t.arms.inFlight =
              .cancels s.clock.now.round ((s.eligibleCancels.take 8).map fun r => ⟨r.id, r.sends == 0⟩)) ∧
          (s.access.reportA = true → s.eligibleCancels = [] → s.eligibleArms ≠ [] →
            kind = .arm ∧ body = armBody (s.eligibleArms.take 4) ∧
            t.arms.inFlight =
              .arms s.clock.now.round ((s.eligibleArms.take 4).map fun r => ⟨r.id, r.tag, r.action, r.sends == 0⟩)) ∧
          (s.access.reportA = false ∨ s.classA = false → s.agreement.timeFrame = .pending → kind = .time ∧
            body = BitVec.ofNat 8 s.agreement.state.code :: s.agreement.founder.getD 0 :: timeBytes s.clock.now ∧
            t.agreement = { s.agreement with timeFrame := .inFlight }) ∧
          (s.access.reportA = false ∨ s.classA = false → s.agreement.timeFrame ≠ .pending → kind = .event ∧
            body = eventBody (s.capture.outbox.take 5) ∧
            t.capture = { s.capture with inFlight := (s.capture.outbox.take 5).length }) ∧
          (kind = .cancel ∨ kind = .arm → t = ((((inPeriod s).setArms { s.arms with inFlight := t.arms.inFlight }).setFramer
            t.framer).setAccess t.access)) ∧
          (kind = .time → t = (((inPeriod s).setAgreement t.agreement).setFramer t.framer).setAccess t.access) ∧
          (kind = .event → t = (((inPeriod s).setCapture t.capture).setFramer t.framer).setAccess t.access)) ∧
      (s.classA = false → s.classB = false →
        exec .slotStart s =
          .next ((inPeriod s).setAccess { s.access with slotTaken := true, reportA := false, tx := .idle }))) ∧
    (s.access.tx ≠ .waiting ∨ s.framer.engine ≠ none ∨
        s.access.yield = false ∧ s.access.slotIndex ≠ k ∧ s.access.slotIndex ≠ 24 + k ∨
        s.access.yield = false ∧ s.access.slotIndex = k ∧ s.access.reportA = false ∨
        s.access.yield = false ∧ s.access.slotIndex = 24 + k ∧ (s.access.reportA = true ∨ s.classB = false) ∨
        s.access.yield = true ∧ s.access.slotIndex ≠ 48 + (s.config.id.toNat - 1) ∨
        s.access.yield = true ∧ s.access.reportA = false ∧ s.classB = false →
      exec .slotStart s = .next ((inPeriod s).setAccess { s.access with slotTaken := true }))) ∧
  ∀ s : State, s.resetHeld = false → s.access.monitor ≠ .window ∨ s.access.slotCount ≠ 0 ∨ s.access.slotTaken = true →
    exec .slotStart s = .next (inPeriod s)

/-- SYMBOL_READBACK: at the kind-bit sample of a symbol of the frame, ten bits that agree read it back well; any other ten count
COLLISION, order the engine to abandon the frame and take the transmitter to QUASHING (R146).
Rests on log 10. -/
def Obligations.ReadbackDecidesTheSymbol : Prop :=
  ∀ (s : State) (e : Engine) (bits : BitVec 10), s.resetHeld = false → s.framer.engine = some e →
    s.access.tx = .sending → e.course = .frame → e.age = 38 → e.readWell = false → e.orphan = false →
    (bits = e.symbol.bits →
      exec (.symbolReadback bits) s = .next ((inPeriod s).setFramer { s.framer with engine := some { e with readWell := true } })) ∧
    (bits ≠ e.symbol.bits →
      exec (.symbolReadback bits) s = .next (((inPeriod s).setFramer { s.framer with
        engine := some { e with course := .abandon }
        counters := s.framer.counters.set 14 (raised s.framer.counters[14]) }).setAccess
          { s.access with tx := .quashing }))

/-- FRAME_GOOD_END: the rotation becomes the own id, the collision count 0 and the transmitter leaves SENDING; the owner is
told: a TIME frame is no longer in flight, and the event records carried leave the outbox (R39, R98, R147, R149).
Rests on log 10 and log 32. -/
def Obligations.GoodEndReportsToTheOwner : Prop :=
  ∀ (s : State) (e : Engine), s.resetHeld = false → s.framer.engine = some e → e.course = .frame →
    e.index = e.bytes.length + 1 → e.age = 40 → e.readWell = true → e.orphan = false →
    ∃ t, exec .frameGoodEnd s = .next t ∧ t.framer = { s.framer with engine := none } ∧
      t.access = { s.access with
        rotation := s.config.id, collisions := 0, reportA := t.classA
        tx := if t.classA || t.classB then .waiting else .idle } ∧
      (e.kind = .time → t.capture = s.capture ∧ t.arms = s.arms ∧
        (s.agreement.timeFrame = .inFlight → t.agreement = { s.agreement with timeFrame := .idle }) ∧
        (s.agreement.timeFrame = .inFlightPending → t.agreement = { s.agreement with timeFrame := .pending })) ∧
      (e.kind = .event → t.agreement = s.agreement ∧ t.arms = s.arms ∧
        t.capture = { s.capture with outbox := s.capture.outbox.drop s.capture.inFlight, inFlight := 0 }) ∧
      (e.kind = .arm ∨ e.kind = .cancel → t.agreement = s.agreement ∧ t.arms.inFlight = .none ∧
        t.arms.nextId = s.arms.nextId) ∧
      t.clock = s.clock ∧ t.tap = s.tap ∧ t.config = s.config

/-- FRAME_GOOD_END of an ARM frame takes the arms it carries one by one, and the in-flight list is cleared. For each, the send
is counted with the round of the slot start where its record is still there; a first send makes the arm effective, enters it
ACCEPTED in the station's own history, whether its record is there or not, and gives the Schedule one request for each binding
of its tag; the record leaves, its input released, where its sends are complete or its action time has passed (R44, R45, R51).
FRAME_GOOD_END of a CANCEL frame takes the ids it carries one by one: the send is counted where the record is still there; at
a first send the entries of its origin leave the Schedule and the own history entry becomes CANCELLED, or a placeholder is
inserted; and the record leaves where its sends are complete (R59).
Rests on log 10. -/
def Obligations.FirstGoodSendMakesTheArmEffective : Prop :=
  (∀ (s : State) (e : Engine), s.resetHeld = false → s.framer.engine = some e → e.course = .frame →
    e.index = e.bytes.length + 1 → e.age = 40 → e.readWell = true → e.orphan = false →
    (∀ round carried, e.kind = .arm → s.arms.inFlight = .arms round carried →
      ∃ t u, exec .frameGoodEnd s = .next t ∧ u = carried.foldl (State.armSent round) s ∧
        t.arms = { u.arms with inFlight := .none } ∧ t.schedule = u.schedule ∧ t.outputs = u.outputs ∧
        t.capture = u.capture ∧ t.store = u.store) ∧
    ∀ round carried, e.kind = .cancel → s.arms.inFlight = .cancels round carried →
      ∃ t u, exec .frameGoodEnd s = .next t ∧ u = carried.foldl (State.cancelSent round) s ∧
        t.arms = { u.arms with inFlight := .none } ∧ t.schedule = u.schedule ∧ t.outputs = s.outputs ∧
        t.capture = s.capture ∧ t.store = s.store) ∧
  (∀ (s v u : State) (round : Round) (a : CarriedArm), ArmIdsDistinct s → v = State.armSent round s a →
    u = (requestsOf s s.config.id a.id a.tag a.action).foldl State.insertRequest s →
    v.arms.cancels = s.arms.cancels ∧ v.arms.nextId = s.arms.nextId ∧ v.capture.outbox = s.capture.outbox ∧
    (a.first = true →
      v.arms.history = s.arms.history.set (stationIx s.config.id).val
        (enterHistory a.id a.tag a.action (s.historyOf s.config.id)) ∧
      v.schedule = u.schedule ∧ v.outputs = u.outputs ∧ v.store = u.store) ∧
    (a.first = false →
      v.arms.history = s.arms.history ∧ v.schedule = s.schedule ∧ v.outputs = s.outputs ∧ v.store = s.store) ∧
    ((∀ r ∈ s.arms.outbox, r.id ≠ a.id) → v.arms.outbox = s.arms.outbox ∧ v.capture = s.capture) ∧
    ∀ before r after, s.arms.outbox = before ++ r :: after → r.id = a.id →
      (s.config.sendCount ≤ r.sends + 1 ∨ later s.len s.clock.now r.action = true →
        v.arms.outbox = before ++ after ∧ Released s v r) ∧
      (r.sends + 1 < s.config.sendCount → later s.len s.clock.now r.action = false →
        v.arms.outbox = before ++
          { r with sends := r.sends + 1, effective := r.effective || a.first, lastRound := some round } :: after ∧
        v.capture = s.capture)) ∧
  ∀ (s v : State) (round : Round) (a : CarriedCancel), ArmIdsDistinct s → v = State.cancelSent round s a →
    v.arms.outbox = s.arms.outbox ∧ v.arms.nextId = s.arms.nextId ∧
    (a.first = true →
      v.schedule = s.schedule.filter (fun x => !(x.sender == s.config.id && x.armId == a.id)) ∧
      v.arms.history = s.arms.history.set (stationIx s.config.id).val
        (cancelHistory a.id (s.historyOf s.config.id))) ∧
    (a.first = false → v.schedule = s.schedule ∧ v.arms.history = s.arms.history) ∧
    ((∀ r ∈ s.arms.cancels, r.id ≠ a.id) → v.arms.cancels = s.arms.cancels) ∧
    ∀ before r after, s.arms.cancels = before ++ r :: after → r.id = a.id →
      (s.config.sendCount ≤ r.sends + 1 → v.arms.cancels = before ++ after) ∧
      (r.sends + 1 < s.config.sendCount →
        v.arms.cancels = before ++ { r with sends := r.sends + 1, lastRound := some round } :: after)

/-- QUASH_END: the consecutive collision count rises, the yield flag is set, and the transmitter goes to WAITING or IDLE, or,
at the eighth collision, to MUTED for 16 boundaries with a MUTED note and the latch set (R148, R149, R150). The content stays
with its owner: a TIME frame is pending again, an event count, an arm list and a cancel list in flight are cleared; but the
records of an ARM frame whose action time has passed in the flight expire, the inputs released, with an ARM-EXPIRED note each
where not effective (R39, R45, R52, R53, R59, R98).
Rests on log 10, log 21 and log 32. -/
def Obligations.QuashEndCountsTheCollision : Prop :=
  ∀ (s : State) (e : Engine) (expired : List ArmRecord), s.resetHeld = false → s.framer.engine = some e →
    e.course = .quash → e.age = 40 → e.orphan = false → ArmIdsDistinct s →
    (∀ round carried, e.kind = .arm ∨ e.kind = .cancel → s.arms.inFlight = .arms round carried →
      expired = s.arms.outbox.filter fun r => later s.len s.clock.now r.action && carried.any fun a => a.id == r.id) →
    ((∀ round carried, s.arms.inFlight ≠ .arms round carried) ∨ e.kind = .time ∨ e.kind = .event → expired = []) →
    ∃ t, exec .quashEnd s = .next t ∧ t.framer = { s.framer with engine := none } ∧ t.access.yield = true ∧
      t.access.rotation = s.access.rotation ∧ t.access.reportA = t.classA ∧ t.capture.outbox = s.capture.outbox ∧
      (e.kind = .arm ∨ e.kind = .cancel → t.arms = { s.arms with
        inFlight := .none, outbox := s.arms.outbox.filter fun r => !expired.contains r }) ∧
      (e.kind = .time ∨ e.kind = .event → t.arms = s.arms) ∧
      (∀ j : Fin 8, t.capture.filters[j] =
        if ∃ r ∈ expired, r.source ≠ .tap ∧ (s.capture.filters[j]).outstanding = some r.id then
          { s.capture.filters[j] with outstanding := none } else s.capture.filters[j]) ∧
      (e.kind = .event → t.capture.inFlight = 0) ∧ (e.kind ≠ .event → t.capture.inFlight = s.capture.inFlight) ∧
      (e.kind ≠ .time → t.agreement = s.agreement) ∧
      (e.kind = .time → (s.agreement.timeFrame = .inFlight ∨ s.agreement.timeFrame = .inFlightPending) →
        t.agreement = { s.agreement with timeFrame := .pending }) ∧
      t.store = ((((expired.filter fun r => !r.effective).map fun r : ArmRecord =>
          noteNow s .armExpired r.id s.config.id r.tag) ++
        (if s.access.collisions + 1 < 8 then [] else [noteNow s .muted 0 s.config.id 0])).foldl
          State.takeRecord s).store ∧
      (s.access.collisions + 1 < 8 → t.access.collisions = s.access.collisions + 1 ∧ t.access.mute = s.access.mute ∧
        t.access.tx = (if t.classA || t.classB then .waiting else .idle) ∧ t.tap = s.tap) ∧
      (8 ≤ s.access.collisions + 1 → t.access.collisions = 0 ∧ t.access.mute = 16 ∧ t.access.tx = .muted ∧
        t.tap = { s.tap with latch := true, setSinceTake := true }) ∧
      t.clock = s.clock ∧ t.schedule = s.schedule ∧ t.outputs = s.outputs

/-! ### The tap port -/

/-- SCS_FALL begins a transaction in IDLE, and SCS_RISE without an accepted RESTART ends one: the port is in IDLE with its latch
and mark as they were, and an OFFERED gap of a READ EVENT aborted in RESPONSE becomes PENDING (R110, R113, R154, R157).
Rests on log 19 and log 23. -/
def Obligations.ScsFramesTheTransaction : Prop :=
  ∀ s : State, s.resetHeld = false →
    (s.tap.state = .idle → ∃ t, exec .scsFall s = .next t ∧ t = (inPeriod s).setTap t.tap ∧ t.tap.state = .command ∧
      t.tap.params = [] ∧ t.tap.response = [] ∧ t.tap.latch = s.tap.latch ∧
      t.tap.setSinceTake = s.tap.setSinceTake ∧ t.sdoPin = some 0) ∧
    (s.tap.state ≠ .idle → s.tap.restartTaken = false →
      ∃ t, exec .scsRise s = .next t ∧ t = ((inPeriod s).setTap t.tap).setStore t.store ∧ t.tap.state = .idle ∧
        t.tap.eventRead = .none ∧ t.tap.latch = s.tap.latch ∧ t.tap.setSinceTake = s.tap.setSinceTake ∧
        t.sdoPin = none ∧ t.store.settling = s.store.settling ∧ t.store.lane = s.store.lane ∧
        t.store.mark = s.store.mark ∧
        t.store.gap = if s.tap.state = .response ∧ (s.tap.eventRead = .head ∨ s.tap.eventRead = .empty) ∧
          s.store.gap = .offered then .pending else s.store.gap)

/-- READ_STATUS, COUNT_EVENTS, READ_EVENT and RESTART at their command bytes: READ STATUS is served in every state, clears the
set-since-take mark and keeps the latch; the others are served outside UNSET, RESTART also in UNSET with the Loader in FAULT, and
answer NOT-READY elsewhere, whatever the Loader's state; RESTART and READ EVENT only note that they are accepted (R156, R158, R159, R161, R162, R165).
Rests on log 19. -/
def Obligations.CommandByteIsTheTakePoint : Prop :=
  ∀ s : State, s.resetHeld = false → s.tap.state = .command →
    (∃ t, exec .readStatus s = .next t ∧ t = (inPeriod s).setTap t.tap ∧ t.tap.state = .turnaround ∧
      t.tap.command = some .readStatus ∧ t.tap.response = 0 :: statusBytes s ∧ t.tap.response.length = 21 ∧
      t.tap.latch = s.tap.latch ∧ t.tap.setSinceTake = false ∧ t.tap.eventRead = s.tap.eventRead) ∧
    (s.agreement.state ≠ .unset →
      (∃ t, exec .countEvents s = .next t ∧ t = (inPeriod s).setTap t.tap ∧ t.tap.state = .turnaround ∧
        t.tap.response = [0, BitVec.ofNat 8 s.store.lane.length, BitVec.ofNat 8 s.store.settling.length,
          if s.store.gap = .pending then 1 else 0]) ∧
      (∃ t, exec .readEvent s = .next t ∧ t = (inPeriod s).setTap t.tap ∧ t.tap.state = .turnaround ∧
        t.tap.eventRead = .awaited ∧ t.tap.latch = s.tap.latch)) ∧
    (s.agreement.state ≠ .unset ∨ s.loader.state = .fault →
      ∃ t, exec .restart s = .next t ∧ t = (inPeriod s).setTap t.tap ∧ t.tap.state = .turnaround ∧ t.tap.restartTaken = true ∧
        t.tap.response = [0] ∧ t.tap.latch = s.tap.latch) ∧
    (s.agreement.state = .unset →
      ∀ c : Instr, c = .countEvents ∨ c = .readEvent ∨ c = .restart ∧ s.loader.state ≠ .fault →
        ∃ t, exec c s = .next t ∧ t = (inPeriod s).setTap t.tap ∧ t.tap.state = .turnaround ∧ t.tap.response = [7] ∧
          t.tap.eventRead = s.tap.eventRead ∧ t.tap.restartTaken = s.tap.restartTaken) ∧
    (∀ code : Byte, code ∉ [0x01, 0x02, 0x03, 0x04, 0x05, 0x06, 0x07, 0x10, 0x11, 0x20] →
      ∃ t, exec (.badCommand code) s = .next t ∧ t = (inPeriod s).setTap t.tap ∧ t.tap.state = .turnaround ∧
        t.tap.response = [8])

/-- READ_PEER, READ_SCHEDULE and READ_OUTBOX at their parameter bytes, outside UNSET: the view of one position is taken and
nothing else changes; a parameter out of its range answers BAD-PARAMETER; the responses have the lengths of 11.4. In UNSET they
answer NOT-READY, whatever the parameter and the Loader's state, and nothing else changes (R156, R161).
Rests on log 19 and log 34. -/
def Obligations.ReadsTakeOnePosition : Prop :=
  ∀ (s : State) (b : Byte), s.resetHeld = false → s.tap.state = .parameters → s.tap.params = [] →
    (s.agreement.state = .unset → ∀ c : Instr,
      s.tap.command = some .readPeer ∧ c = .readPeer b ∨ s.tap.command = some .readSchedule ∧ c = .readSchedule b ∨
        s.tap.command = some .readOutbox ∧ c = .readOutbox b →
      ∃ t, exec c s = .next t ∧ t = (inPeriod s).setTap t.tap ∧ t.tap.state = .turnaround ∧ t.tap.response = [7]) ∧
    (s.agreement.state ≠ .unset →
    (s.tap.command = some .readPeer → ∃ t, exec (.readPeer b) s = .next t ∧ t = (inPeriod s).setTap t.tap ∧
      t.tap.state = .turnaround ∧
      (1 ≤ b.toNat ∧ b.toNat ≤ 24 → t.tap.response = 0 :: peerBytes (s.peerOf b) ∧ t.tap.response.length = 17) ∧
      (b.toNat = 0 ∨ 24 < b.toNat → t.tap.response = [9])) ∧
    (s.tap.command = some .readSchedule → ∃ t, exec (.readSchedule b) s = .next t ∧ t = (inPeriod s).setTap t.tap ∧
      t.tap.state = .turnaround ∧
      (b.toNat ≤ 31 → t.tap.response.length = 13 ∧
        (∀ e, s.schedule[b.toNat]? = some e → t.tap.response = 0 :: scheduleBytes e) ∧
        (s.schedule.length ≤ b.toNat → t.tap.response = List.replicate 13 0)) ∧
      (31 < b.toNat → t.tap.response = [9])) ∧
    (s.tap.command = some .readOutbox → ∃ t, exec (.readOutbox b) s = .next t ∧ t = (inPeriod s).setTap t.tap ∧
      t.tap.state = .turnaround ∧
      (b.toNat ≤ 7 → t.tap.response.length = 15 ∧
        (∀ r, s.arms.outbox[b.toNat]? = some r → t.tap.response = 0 :: armRecordBytes r) ∧
        (s.arms.outbox.length ≤ b.toNat → t.tap.response = List.replicate 15 0)) ∧
      (7 < b.toNat → t.tap.response = [9])))

/-- READ_COUNTERS at its clear option byte, in every agreement state: the fifteen counters are returned, low byte first, and
with the clear option 1 every one is set to 0 in the same happening; any other option than 0 and 1 answers BAD-PARAMETER and
clears nothing (R135, R160).
Rests on log 19. -/
def Obligations.ReadCountersMayClear : Prop :=
  ∀ (s : State) (b : Byte), s.resetHeld = false → s.tap.state = .parameters → s.tap.params = [] →
    s.tap.command = some .readCounters →
    ∃ t, exec (.readCounters b) s = .next t ∧ t.tap.state = .turnaround ∧
      t = ((inPeriod s).setTap t.tap).setFramer { s.framer with
        counters := if b = 1 then Vector.replicate 15 0 else s.framer.counters } ∧
      (b = 0 ∨ b = 1 → t.tap.response.length = 31 ∧
        ∀ i : Fin 15, leValue (fieldAt t.tap.response (1 + 2 * i.val) 2) = (s.framer.counters[i]).toNat) ∧
      (b ≠ 0 → b ≠ 1 → t.tap.response = [9])

/-- POST_TRIGGER at its eighth parameter byte: in UNSET it answers NOT-READY; a form other than 0 and 1, and an absolute phase
of L or more, answer BAD-PARAMETER; else the action time is the absolute line time given, or now plus the relative lead, and
where it passes the checks one record joins the arm outbox at its newest end under the next free id, the response returns
ACCEPTED with that id, and the transmitter follows the reports; a refused request returns its code, and creates nothing. The
arm id with any other code is 0 (R47, R48, R143, R156, R163).
Rests on log 19, log 32 and log 33. -/
def Obligations.PostTriggerCreatesOneArm : Prop :=
  ∀ (s : State) (tag form b2 b3 b4 b5 b6 last : Byte), s.resetHeld = false →
    s.tap.state = .parameters → s.tap.command = some .postTrigger → s.tap.params = [tag, form, b2, b3, b4, b5, b6] →
    ∃ t, exec (.postTrigger last) s = .next t ∧ t.tap.state = .turnaround ∧
      (s.agreement.state = .unset → t = (inPeriod s).setTap t.tap ∧ t.tap.response = [7, 0]) ∧
      (s.agreement.state ≠ .unset → form ≠ 0 ∧ form ≠ 1 ∨ form = 0 ∧ s.len ≤ leValue [b5, b6, last] →
        t = (inPeriod s).setTap t.tap ∧ t.tap.response = [9, 0]) ∧
      ∀ action : LineTime, s.agreement.state ≠ .unset →
        (form = 1 ∧ action = timeAdd s.len s.clock.now (leValue [b2, b3, b4, b5, b6, last]) ∨
          form = 0 ∧ leValue [b5, b6, last] < s.len ∧
            action = ⟨BitVec.ofNat 24 (leValue [b2, b3, b4]), leValue [b5, b6, last]⟩) →
        (Acting s → tag ≠ 0 → earlier s.len action (timeAdd s.len s.clock.now s.config.margin) = false →
          later s.len action (timeAddRounds s.clock.now 250) = false → s.arms.outbox.length < 8 →
          t = (((inPeriod s).setTap t.tap).setArms t.arms).setAccess t.access ∧ Reported s t ∧
          t.arms = { s.arms with
            outbox := s.arms.outbox ++ [⟨s.newArmId, tag, action, .tap, 0, false, none⟩], nextId := s.newArmId + 1 } ∧
          t.tap.response = [0, s.newArmId]) ∧
        (s.agreement.state = .listening ∨ s.agreement.state = .adrift →
          t = (inPeriod s).setTap t.tap ∧ t.tap.response = [1, 0]) ∧
        (Acting s →
          (tag = 0 → t = (inPeriod s).setTap t.tap ∧ t.tap.response = [5, 0]) ∧
          (tag ≠ 0 → earlier s.len action (timeAdd s.len s.clock.now s.config.margin) = true →
            t = (inPeriod s).setTap t.tap ∧ t.tap.response = [2, 0]) ∧
          (tag ≠ 0 → earlier s.len action (timeAdd s.len s.clock.now s.config.margin) = false →
            later s.len action (timeAddRounds s.clock.now 250) = true → t = (inPeriod s).setTap t.tap ∧ t.tap.response = [3, 0]) ∧
          (tag ≠ 0 → earlier s.len action (timeAdd s.len s.clock.now s.config.margin) = false →
            later s.len action (timeAddRounds s.clock.now 250) = false → 8 ≤ s.arms.outbox.length →
            t = (inPeriod s).setTap t.tap ∧ t.tap.response = [4, 0]))

/-- CANCEL_TRIGGER at its arm id byte: in UNSET it answers NOT-READY and changes nothing else (R156). Elsewhere the rows of R56 are
tried in order. A record not effective and not carried by a frame in flight leaves the outbox, its input released (R45). For a
record effective or carried, or, without a record, an id carried or ACCEPTED in the own history, R57 decides: where a cancel of
the id is queued or in flight nothing happens; a full cancel outbox refuses; else the record, if any, leaves, its input released,
and the id joins the cancel outbox at its newest end. Any other id answers UNKNOWN (R56, R57, R164). The transmitter follows the
reports (R143).
Rests on log 19 and log 32. -/
def Obligations.CancelTriggerWithdrawsTheArm : Prop :=
  ∀ (s : State) (id : Byte), s.resetHeld = false → s.tap.state = .parameters → s.tap.command = some .cancelTrigger →
    s.tap.params = [] →
    ∃ t, exec (.cancelTrigger id) s = .next t ∧ t.tap.state = .turnaround ∧
      (s.agreement.state = .unset → t = (inPeriod s).setTap t.tap ∧ t.tap.response = [7]) ∧
      (s.agreement.state ≠ .unset →
        t = ((((inPeriod s).setTap t.tap).setArms t.arms).setCapture t.capture).setAccess t.access ∧ Reported s t ∧
        t.capture.outbox = s.capture.outbox ∧ t.capture.inFlight = s.capture.inFlight ∧
        (∀ before r after, ArmIdsDistinct s → s.arms.outbox = before ++ r :: after → r.id = id → r.effective = false →
          ¬CarriesArm s id →
          t.arms = { s.arms with outbox := before ++ after } ∧ Released s t r ∧ t.tap.response = [0]) ∧
        (ArmIdsDistinct s →
          (∃ r ∈ s.arms.outbox, r.id = id ∧ r.effective = true) ∨ CarriesArm s id ∨
            (∀ r ∈ s.arms.outbox, r.id ≠ id) ∧
              (∃ h ∈ s.historyOf s.config.id, h.id = id ∧ ∃ tag action, h.status = .accepted tag action) →
          ((∃ c ∈ s.arms.cancels, c.id = id) ∨ CarriesCancel s id →
            t.arms = s.arms ∧ t.capture = s.capture ∧ t.tap.response = [0]) ∧
          ((∀ c ∈ s.arms.cancels, c.id ≠ id) → ¬CarriesCancel s id →
            (8 ≤ s.arms.cancels.length → t.arms = s.arms ∧ t.capture = s.capture ∧ t.tap.response = [4]) ∧
            (s.arms.cancels.length < 8 → t.tap.response = [0] ∧
              (∀ before r after, s.arms.outbox = before ++ r :: after → r.id = id →
                t.arms = { s.arms with
                  outbox := before ++ after, cancels := s.arms.cancels ++ [⟨id, 0, none⟩] } ∧ Released s t r) ∧
              ((∀ r ∈ s.arms.outbox, r.id ≠ id) →
                t.arms = { s.arms with cancels := s.arms.cancels ++ [⟨id, 0, none⟩] } ∧ t.capture = s.capture)))) ∧
        ((∀ r ∈ s.arms.outbox, r.id ≠ id) → ¬CarriesArm s id →
          (∀ h ∈ s.historyOf s.config.id, h.id = id → ∀ tag action, h.status ≠ .accepted tag action) →
          t.arms = s.arms ∧ t.capture = s.capture ∧ t.tap.response = [6]))

/-- READ_EVENT_RESPONSE_BEGIN: the response of an accepted READ EVENT is ACCEPTED and the head of the release lane, or an empty
record, 14 bytes in all; a PENDING gap is carried as GAP and becomes OFFERED; the lane keeps the record (R110, R111).
Rests on log 19. -/
def Obligations.ReadEventGivesTheHeadOfTheLane : Prop :=
  ∀ s : State, s.resetHeld = false → s.tap.state = .turnaround → s.tap.eventRead = .awaited →
    ∃ t, exec .readEventResponseBegin s = .next t ∧ t = ((inPeriod s).setTap t.tap).setStore t.store ∧
      t.tap.state = .response ∧ t.tap.response.length = 14 ∧
      t.store = { s.store with gap := if s.store.gap = .pending then .offered else s.store.gap } ∧
      (∀ r rest, s.store.lane = r :: rest → t.tap.eventRead = .head ∧
        t.tap.response = 0 :: recordBytes r (s.store.gap == .pending)) ∧
      (s.store.lane = [] → t.tap.eventRead = .empty ∧
        t.tap.response = List.replicate 13 0 ++ [if s.store.gap = .pending then 2 else 0])

/-- TRANSACTION_DONE: the last byte of the response is clocked out; a complete READ STATUS clears the latch unless it has been
set since its take point, and a complete READ EVENT takes the record it gave from the lane and an OFFERED gap to CLEAR
(R110, R112, R154, R159).
Rests on log 19. -/
def Obligations.CompleteTransactionHasItsEffect : Prop :=
  ∀ (s : State) (b : Byte), s.resetHeld = false → s.tap.state = .response → s.tap.response = [b] →
    ∃ t, exec .transactionDone s = .next t ∧ t = ((inPeriod s).setTap t.tap).setStore t.store ∧ t.tap.state = .done ∧
      t.tap.sdo = b ∧ t.tap.response = [] ∧ t.tap.setSinceTake = s.tap.setSinceTake ∧
      t.tap.latch = (if s.tap.command = some .readStatus ∧ s.tap.setSinceTake = false then false else s.tap.latch) ∧
      (s.tap.command ≠ some .readEvent → t.store = s.store) ∧
      (s.tap.command = some .readEvent → s.tap.eventRead = .head →
        t.store = { s.store with
          lane := s.store.lane.drop 1, gap := if s.store.gap = .offered then .clear else s.store.gap }) ∧
      (s.tap.command = some .readEvent → s.tap.eventRead = .empty →
        t.store = { s.store with gap := if s.store.gap = .offered then .clear else s.store.gap })

/-- TAP_BYTE_COMPLETED for the bytes that are no take point: a command byte with parameters, a parameter byte with more to
come, a turnaround byte, a response byte with more to come, and the bytes of IDLE and DONE each move the transaction state
as R154 states and change nothing outside the port; SDO carries the response byte, and 0 elsewhere (R154).
Rests on log 19 and log 24. -/
def Obligations.TapBytesMoveTheTransaction : Prop :=
  ∀ (s : State) (b : Byte), s.resetHeld = false →
    ∃ t, exec (.tapByteCompleted b) s = .next t ∧
      (s.tap.state = .idle → t = inPeriod s) ∧
      (s.tap.state = .command → b ∈ [0x02, 0x03, 0x04, 0x05, 0x10, 0x11] →
        t = (inPeriod s).setTap { s.tap with state := .parameters, command := some (tapCommandOf b), params := [], sdo := 0 }) ∧
      (s.tap.state = .parameters → s.tap.command = some .postTrigger → s.tap.params.length < 7 →
        t = (inPeriod s).setTap { s.tap with params := s.tap.params ++ [b], sdo := 0 }) ∧
      (s.tap.state = .turnaround → s.tap.eventRead ≠ .awaited →
        t = (inPeriod s).setTap { s.tap with state := .response, sdo := 0 }) ∧
      (∀ first second rest, s.tap.state = .response → s.tap.response = first :: second :: rest →
        t = (inPeriod s).setTap { s.tap with response := second :: rest, sdo := first }) ∧
      (s.tap.state = .done → t = (inPeriod s).setTap { s.tap with sdo := 0 })

/-! ### Loading -/

/-- READ_UNANSWERED and HEAD_READ_DONE: an unanswered read is begun again with the retry count raised, and after four tries the
load ends in FAULT with NO-MEMORY; a completed head read is tested for marker and length in that order, and where both pass
the body read begins with the retry count at 0; every FAULT sets the latch (R169, R170, R174). On the bus the read has taken a
recovery of up to 9 clocks, the address and the offset, and where it is answered the data bytes in one run, each but the last
acknowledged, and a stop; where it is not, CSDA has stayed low, or one of those bytes has been left unacknowledged (R169, R177).
Rests on log 18 and log 23. -/
def Obligations.HeadReadIsRetriedAndTested : Prop :=
  ∀ s : State, s.resetHeld = false →
    (∀ offset : Byte, s.loader.read = .head ∧ offset = 0 ∨ (∃ head, s.loader.read = .body head) ∧ offset = 4 →
      ∃ events, UnansweredRead offset events ∧
        (s.loader.retry < 3 →
          exec .readUnanswered s = .next (((inPeriod s).setLoader { s.loader with
            retry := s.loader.retry + 1, bus := s.loader.bus ++ events }).setFreeIndex (s.freeIndex + 1))) ∧
        (3 ≤ s.loader.retry →
          exec .readUnanswered s = .next ((((inPeriod s).setLoader
            ⟨.fault, .noMemory, 0, .none, s.loader.bus ++ events⟩).setFreeIndex (s.freeIndex + 1)).setTap
              { s.tap with latch := true, setSinceTake := true }))) ∧
    ∀ b0 b1 b2 b3 : Byte, s.loader.read = .head →
      ∃ events, AnsweredRead 0 [b0, b1, b2, b3] events ∧
        (b0.toNat + 256 * b1.toNat ≠ 42517 →
          exec (.headReadDone b0 b1 b2 b3) s = .next ((((inPeriod s).setLoader
            ⟨.fault, .badMarker, 0, .none, s.loader.bus ++ events⟩).setFreeIndex (s.freeIndex + 1)).setTap
              { s.tap with latch := true, setSinceTake := true })) ∧
        (b0.toNat + 256 * b1.toNat = 42517 → (∀ k : Nat, k ≤ 48 → b2.toNat + 256 * b3.toNat ≠ 139 + 6 * k) →
          exec (.headReadDone b0 b1 b2 b3) s = .next ((((inPeriod s).setLoader
            ⟨.fault, .badLength, 0, .none, s.loader.bus ++ events⟩).setFreeIndex (s.freeIndex + 1)).setTap
              { s.tap with latch := true, setSinceTake := true })) ∧
        (b0.toNat + 256 * b1.toNat = 42517 → (∃ k : Nat, k ≤ 48 ∧ b2.toNat + 256 * b3.toNat = 139 + 6 * k) →
          exec (.headReadDone b0 b1 b2 b3) s = .next (((inPeriod s).setLoader { s.loader with
            retry := 0, read := .body [b0, b1, b2, b3], bus := s.loader.bus ++ events }).setFreeIndex (s.freeIndex + 1)))

/-- BODY_READ_DONE: the read ends answered on the bus (R169); a failed check ends the load in FAULT with its code and leaves every
block as it was; an image that passes every check makes the station LOADED and LISTENING, with the clock running from 0:0, every
output SAFE, the receiver SKIPPING, the monitor in GAP, the listen count 6 and the latch set (R14, R17, R79, R123, R140, R171, R174,
R175).
Rests on log 18 and log 27. -/
def Obligations.BodyReadEndsTheLoad : Prop :=
  ∀ (s : State) (head body : List Byte), s.resetHeld = false → s.loader.read = .body head →
    body.length + 4 = (numAt head 2 2) → s.access.tx = .off →
    ∃ events, AnsweredRead 4 body events ∧
    (imageFault (head ++ body) ≠ .none →
      exec (.bodyReadDone body) s = .next ((((inPeriod s).setLoader
        ⟨.fault, imageFault (head ++ body), 0, .none, s.loader.bus ++ events⟩).setFreeIndex (s.freeIndex + 1)).setTap
          { s.tap with latch := true, setSinceTake := true })) ∧
    (imageFault (head ++ body) = .none →
      ∃ t, exec (.bodyReadDone body) s = .next t ∧
        t.loader = ⟨.loaded, .none, 0, .none, s.loader.bus ++ events⟩ ∧ t.config = configOf (head ++ body) ∧
        t.clock =
          { now := ⟨0, 0⟩, trim := 0, pace := 0, overtime := 0, running := true, startBit := none, handed := none } ∧
        t.agreement.state = .listening ∧ t.agreement.founder = none ∧ t.agreement.listenCount = 6 ∧
        t.agreement.adjustCount = 0 ∧ t.agreement.clampCount = 0 ∧ t.agreement.driftCount = 0 ∧
        (∀ i : Fin 8, t.outputs[i] = ⟨.safe, (t.config.outputs[i]).safeActive, none, none⟩) ∧
        t.framer.receiver = .skipping ∧ t.access.monitor = .gap ∧ t.access.gapCount = 0 ∧ t.access.tx = .off ∧
        t.tap = { s.tap with latch := true, setSinceTake := true } ∧
        (∀ i : Fin 8, s.sampled = 0 → (t.config.inputs[i]).selection ≠ .off → (s.capture.filters[i]).stable = none →
          (t.capture.filters[i]).stable = some (s.inPins.getLsbD i.val) ∧
            (t.capture.filters[i]).condition = .stable) ∧
        t.store.lane.length + t.store.settling.length ≤ s.store.lane.length + s.store.settling.length + 1)

/-! ### Frames as bytes -/

/-- The bodies of ARM, EVENT and CANCEL frames give back, at a station of the same round length, the records they were made of:
with phases below L, and L of at most 2,097,152 ticks, every arm id, tag, action time, channel, edge, quality and timestamp
(R134, R178, 11.3). -/
def Obligations.FrameBodiesGiveBackTheirRecords : Prop :=
  ∀ len : Nat, 0 < len → len ≤ 2097152 →
    (∀ rs : List ArmRecord, rs.length ≤ 4 → (∀ r ∈ rs, r.action.phase < len) →
      armEntries len (armBody rs) = rs.map fun r => ⟨r.id, r.tag, r.action⟩) ∧
    (∀ es : List SharedEdge, es.length ≤ 5 → (∀ e ∈ es, e.stamp.phase < len) →
      eventEntries len (eventBody es) = es) ∧
    ∀ rs : List CancelRecord, rs.length ≤ 8 → cancelIds (cancelBody rs) = rs.map (·.id)

/-- The frames the station sends pass a receiver's four tests, and their bodies the check of form: a TIME frame in the states
ALONE, GATHERING, LOCKED and ADRIFT, and frames of 1 to 4 arms with tags, 1 to 5 events and 1 to 8 cancels (R120, R121, R126,
R131). -/
def Obligations.SentFramesPassTheReceiversChecks : Prop :=
  (∀ (kind : FrameKind) (id : StationId) (body : List Byte), 1 ≤ id.toNat → id.toNat ≤ 24 → body.length ≤ 48 →
    State.frameFault (frameBytes kind id body) = none) ∧
    (∀ (state : AgreementState) (founder : StationId) (stamp : LineTime), state ≠ .unset → state ≠ .listening →
      1 ≤ founder.toNat → founder.toNat ≤ 24 → bodyWellFormed .time (timeBody state founder stamp) = true) ∧
    (∀ rs : List ArmRecord, 1 ≤ rs.length → rs.length ≤ 4 → (∀ r ∈ rs, r.tag ≠ 0) →
      bodyWellFormed .arm (armBody rs) = true) ∧
    (∀ es : List SharedEdge, 1 ≤ es.length → es.length ≤ 5 → bodyWellFormed .event (eventBody es) = true) ∧
    ∀ rs : List CancelRecord, 1 ≤ rs.length → rs.length ≤ 8 → bodyWellFormed .cancel (cancelBody rs) = true

/-! ### Invariants that every step keeps -/

/-- Every step keeps every collection within its capacity: 8 arm and cancel records, 8 history entries a sender, 32 schedule
entries, 16 shared edges, 128 event records and 53 bytes of a frame (R45, R55, R60, R68, R97, R102, R125). -/
def Obligations.EveryStepKeepsTheCapacities : Prop :=
  ∀ s t : State, WithinCapacity s → step s = .next t → WithinCapacity t

/-- Every step keeps the Line Clock in its ranges: the trim, the pace count, and while the clock runs the phase below L and the
overtime at most S (1.1, R3, R5, R8, R172). -/
def Obligations.EveryStepKeepsTheClockInRange : Prop :=
  ∀ s t : State, ClockInRange s → step s = .next t → ClockInRange t

/-- Every step keeps the outputs legal, and of legal outputs one that is driven off its safe level is found only in an acting
state (R78, R79). -/
def Obligations.OutputsActOnlyInActingStates : Prop :=
  (∀ s t : State, OutputsLegal s → step s = .next t → OutputsLegal t) ∧
    ∀ (s : State) (i : Fin 8) (high : Bool), OutputsLegal s → s.outPin i = .driven high →
      s.outPin i ≠ safePin (s.config.outputs[i]) →
      s.agreement.state = .alone ∨ s.agreement.state = .gathering ∨ s.agreement.state = .locked

/-- Every step keeps the arm ids of each outbox and history list distinct, and the outstanding arm of each input in step with
the arm outbox (R45, R47, R55, R60, R100). -/
def Obligations.EveryStepKeepsTheArmsInStep : Prop :=
  ∀ s t : State, WithinCapacity s → ArmIdsDistinct s → InputsInStep s → step s = .next t →
    ArmIdsDistinct t ∧ InputsInStep t
end

