-- ==== Sys2Proof/Laws/State.lean ====
section
/-! SUPPORT. One lemma per field per setter of State: a setter sets its field and leaves every other. -/

-- One theorem at a time: many theorems elaborated side by side each take a thread with a stack of its own.
set_option Elab.async false

namespace Sys2Proof.Machine.State

@[simp] theorem setClock_clock (s : State) (x : LineClock) : (s.setClock x).clock = x := rfl
@[simp] theorem setClock_agreement (s : State) (x : LineClock) : (s.setClock x).agreement = s.agreement := rfl
@[simp] theorem setClock_arms (s : State) (x : LineClock) : (s.setClock x).arms = s.arms := rfl
@[simp] theorem setClock_schedule (s : State) (x : LineClock) : (s.setClock x).schedule = s.schedule := rfl
@[simp] theorem setClock_outputs (s : State) (x : LineClock) : (s.setClock x).outputs = s.outputs := rfl
@[simp] theorem setClock_capture (s : State) (x : LineClock) : (s.setClock x).capture = s.capture := rfl
@[simp] theorem setClock_store (s : State) (x : LineClock) : (s.setClock x).store = s.store := rfl
@[simp] theorem setClock_framer (s : State) (x : LineClock) : (s.setClock x).framer = s.framer := rfl
@[simp] theorem setClock_access (s : State) (x : LineClock) : (s.setClock x).access = s.access := rfl
@[simp] theorem setClock_tap (s : State) (x : LineClock) : (s.setClock x).tap = s.tap := rfl
@[simp] theorem setClock_loader (s : State) (x : LineClock) : (s.setClock x).loader = s.loader := rfl
@[simp] theorem setClock_config (s : State) (x : LineClock) : (s.setClock x).config = s.config := rfl
@[simp] theorem setClock_inPins (s : State) (x : LineClock) : (s.setClock x).inPins = s.inPins := rfl
@[simp] theorem setClock_sampled (s : State) (x : LineClock) : (s.setClock x).sampled = s.sampled := rfl
@[simp] theorem setClock_resetHeld (s : State) (x : LineClock) : (s.setClock x).resetHeld = s.resetHeld := rfl
@[simp] theorem setClock_lateHandling (s : State) (x : LineClock) : (s.setClock x).lateHandling = s.lateHandling := rfl
@[simp] theorem setClock_freeIndex (s : State) (x : LineClock) : (s.setClock x).freeIndex = s.freeIndex := rfl
@[simp] theorem setClock_pending (s : State) (x : LineClock) : (s.setClock x).pending = s.pending := rfl

@[simp] theorem setAgreement_clock (s : State) (x : Agreement) : (s.setAgreement x).clock = s.clock := rfl
@[simp] theorem setAgreement_agreement (s : State) (x : Agreement) : (s.setAgreement x).agreement = x := rfl
@[simp] theorem setAgreement_arms (s : State) (x : Agreement) : (s.setAgreement x).arms = s.arms := rfl
@[simp] theorem setAgreement_schedule (s : State) (x : Agreement) : (s.setAgreement x).schedule = s.schedule := rfl
@[simp] theorem setAgreement_outputs (s : State) (x : Agreement) : (s.setAgreement x).outputs = s.outputs := rfl
@[simp] theorem setAgreement_capture (s : State) (x : Agreement) : (s.setAgreement x).capture = s.capture := rfl
@[simp] theorem setAgreement_store (s : State) (x : Agreement) : (s.setAgreement x).store = s.store := rfl
@[simp] theorem setAgreement_framer (s : State) (x : Agreement) : (s.setAgreement x).framer = s.framer := rfl
@[simp] theorem setAgreement_access (s : State) (x : Agreement) : (s.setAgreement x).access = s.access := rfl
@[simp] theorem setAgreement_tap (s : State) (x : Agreement) : (s.setAgreement x).tap = s.tap := rfl
@[simp] theorem setAgreement_loader (s : State) (x : Agreement) : (s.setAgreement x).loader = s.loader := rfl
@[simp] theorem setAgreement_config (s : State) (x : Agreement) : (s.setAgreement x).config = s.config := rfl
@[simp] theorem setAgreement_inPins (s : State) (x : Agreement) : (s.setAgreement x).inPins = s.inPins := rfl
@[simp] theorem setAgreement_sampled (s : State) (x : Agreement) : (s.setAgreement x).sampled = s.sampled := rfl
@[simp] theorem setAgreement_resetHeld (s : State) (x : Agreement) : (s.setAgreement x).resetHeld = s.resetHeld := rfl
@[simp] theorem setAgreement_lateHandling (s : State) (x : Agreement) : (s.setAgreement x).lateHandling = s.lateHandling := rfl
@[simp] theorem setAgreement_freeIndex (s : State) (x : Agreement) : (s.setAgreement x).freeIndex = s.freeIndex := rfl
@[simp] theorem setAgreement_pending (s : State) (x : Agreement) : (s.setAgreement x).pending = s.pending := rfl

@[simp] theorem setArms_clock (s : State) (x : Arms) : (s.setArms x).clock = s.clock := rfl
@[simp] theorem setArms_agreement (s : State) (x : Arms) : (s.setArms x).agreement = s.agreement := rfl
@[simp] theorem setArms_arms (s : State) (x : Arms) : (s.setArms x).arms = x := rfl
@[simp] theorem setArms_schedule (s : State) (x : Arms) : (s.setArms x).schedule = s.schedule := rfl
@[simp] theorem setArms_outputs (s : State) (x : Arms) : (s.setArms x).outputs = s.outputs := rfl
@[simp] theorem setArms_capture (s : State) (x : Arms) : (s.setArms x).capture = s.capture := rfl
@[simp] theorem setArms_store (s : State) (x : Arms) : (s.setArms x).store = s.store := rfl
@[simp] theorem setArms_framer (s : State) (x : Arms) : (s.setArms x).framer = s.framer := rfl
@[simp] theorem setArms_access (s : State) (x : Arms) : (s.setArms x).access = s.access := rfl
@[simp] theorem setArms_tap (s : State) (x : Arms) : (s.setArms x).tap = s.tap := rfl
@[simp] theorem setArms_loader (s : State) (x : Arms) : (s.setArms x).loader = s.loader := rfl
@[simp] theorem setArms_config (s : State) (x : Arms) : (s.setArms x).config = s.config := rfl
@[simp] theorem setArms_inPins (s : State) (x : Arms) : (s.setArms x).inPins = s.inPins := rfl
@[simp] theorem setArms_sampled (s : State) (x : Arms) : (s.setArms x).sampled = s.sampled := rfl
@[simp] theorem setArms_resetHeld (s : State) (x : Arms) : (s.setArms x).resetHeld = s.resetHeld := rfl
@[simp] theorem setArms_lateHandling (s : State) (x : Arms) : (s.setArms x).lateHandling = s.lateHandling := rfl
@[simp] theorem setArms_freeIndex (s : State) (x : Arms) : (s.setArms x).freeIndex = s.freeIndex := rfl
@[simp] theorem setArms_pending (s : State) (x : Arms) : (s.setArms x).pending = s.pending := rfl

@[simp] theorem setSchedule_clock (s : State) (x : List ScheduleEntry) : (s.setSchedule x).clock = s.clock := rfl
@[simp] theorem setSchedule_agreement (s : State) (x : List ScheduleEntry) : (s.setSchedule x).agreement = s.agreement := rfl
@[simp] theorem setSchedule_arms (s : State) (x : List ScheduleEntry) : (s.setSchedule x).arms = s.arms := rfl
@[simp] theorem setSchedule_schedule (s : State) (x : List ScheduleEntry) : (s.setSchedule x).schedule = x := rfl
@[simp] theorem setSchedule_outputs (s : State) (x : List ScheduleEntry) : (s.setSchedule x).outputs = s.outputs := rfl
@[simp] theorem setSchedule_capture (s : State) (x : List ScheduleEntry) : (s.setSchedule x).capture = s.capture := rfl
@[simp] theorem setSchedule_store (s : State) (x : List ScheduleEntry) : (s.setSchedule x).store = s.store := rfl
@[simp] theorem setSchedule_framer (s : State) (x : List ScheduleEntry) : (s.setSchedule x).framer = s.framer := rfl
@[simp] theorem setSchedule_access (s : State) (x : List ScheduleEntry) : (s.setSchedule x).access = s.access := rfl
@[simp] theorem setSchedule_tap (s : State) (x : List ScheduleEntry) : (s.setSchedule x).tap = s.tap := rfl
@[simp] theorem setSchedule_loader (s : State) (x : List ScheduleEntry) : (s.setSchedule x).loader = s.loader := rfl
@[simp] theorem setSchedule_config (s : State) (x : List ScheduleEntry) : (s.setSchedule x).config = s.config := rfl
@[simp] theorem setSchedule_inPins (s : State) (x : List ScheduleEntry) : (s.setSchedule x).inPins = s.inPins := rfl
@[simp] theorem setSchedule_sampled (s : State) (x : List ScheduleEntry) : (s.setSchedule x).sampled = s.sampled := rfl
@[simp] theorem setSchedule_resetHeld (s : State) (x : List ScheduleEntry) : (s.setSchedule x).resetHeld = s.resetHeld := rfl
@[simp] theorem setSchedule_lateHandling (s : State) (x : List ScheduleEntry) : (s.setSchedule x).lateHandling = s.lateHandling := rfl
@[simp] theorem setSchedule_freeIndex (s : State) (x : List ScheduleEntry) : (s.setSchedule x).freeIndex = s.freeIndex := rfl
@[simp] theorem setSchedule_pending (s : State) (x : List ScheduleEntry) : (s.setSchedule x).pending = s.pending := rfl

@[simp] theorem setOutputs_clock (s : State) (x : Vector Output 8) : (s.setOutputs x).clock = s.clock := rfl
@[simp] theorem setOutputs_agreement (s : State) (x : Vector Output 8) : (s.setOutputs x).agreement = s.agreement := rfl
@[simp] theorem setOutputs_arms (s : State) (x : Vector Output 8) : (s.setOutputs x).arms = s.arms := rfl
@[simp] theorem setOutputs_schedule (s : State) (x : Vector Output 8) : (s.setOutputs x).schedule = s.schedule := rfl
@[simp] theorem setOutputs_outputs (s : State) (x : Vector Output 8) : (s.setOutputs x).outputs = x := rfl
@[simp] theorem setOutputs_capture (s : State) (x : Vector Output 8) : (s.setOutputs x).capture = s.capture := rfl
@[simp] theorem setOutputs_store (s : State) (x : Vector Output 8) : (s.setOutputs x).store = s.store := rfl
@[simp] theorem setOutputs_framer (s : State) (x : Vector Output 8) : (s.setOutputs x).framer = s.framer := rfl
@[simp] theorem setOutputs_access (s : State) (x : Vector Output 8) : (s.setOutputs x).access = s.access := rfl
@[simp] theorem setOutputs_tap (s : State) (x : Vector Output 8) : (s.setOutputs x).tap = s.tap := rfl
@[simp] theorem setOutputs_loader (s : State) (x : Vector Output 8) : (s.setOutputs x).loader = s.loader := rfl
@[simp] theorem setOutputs_config (s : State) (x : Vector Output 8) : (s.setOutputs x).config = s.config := rfl
@[simp] theorem setOutputs_inPins (s : State) (x : Vector Output 8) : (s.setOutputs x).inPins = s.inPins := rfl
@[simp] theorem setOutputs_sampled (s : State) (x : Vector Output 8) : (s.setOutputs x).sampled = s.sampled := rfl
@[simp] theorem setOutputs_resetHeld (s : State) (x : Vector Output 8) : (s.setOutputs x).resetHeld = s.resetHeld := rfl
@[simp] theorem setOutputs_lateHandling (s : State) (x : Vector Output 8) : (s.setOutputs x).lateHandling = s.lateHandling := rfl
@[simp] theorem setOutputs_freeIndex (s : State) (x : Vector Output 8) : (s.setOutputs x).freeIndex = s.freeIndex := rfl
@[simp] theorem setOutputs_pending (s : State) (x : Vector Output 8) : (s.setOutputs x).pending = s.pending := rfl

@[simp] theorem setCapture_clock (s : State) (x : Capture) : (s.setCapture x).clock = s.clock := rfl
@[simp] theorem setCapture_agreement (s : State) (x : Capture) : (s.setCapture x).agreement = s.agreement := rfl
@[simp] theorem setCapture_arms (s : State) (x : Capture) : (s.setCapture x).arms = s.arms := rfl
@[simp] theorem setCapture_schedule (s : State) (x : Capture) : (s.setCapture x).schedule = s.schedule := rfl
@[simp] theorem setCapture_outputs (s : State) (x : Capture) : (s.setCapture x).outputs = s.outputs := rfl
@[simp] theorem setCapture_capture (s : State) (x : Capture) : (s.setCapture x).capture = x := rfl
@[simp] theorem setCapture_store (s : State) (x : Capture) : (s.setCapture x).store = s.store := rfl
@[simp] theorem setCapture_framer (s : State) (x : Capture) : (s.setCapture x).framer = s.framer := rfl
@[simp] theorem setCapture_access (s : State) (x : Capture) : (s.setCapture x).access = s.access := rfl
@[simp] theorem setCapture_tap (s : State) (x : Capture) : (s.setCapture x).tap = s.tap := rfl
@[simp] theorem setCapture_loader (s : State) (x : Capture) : (s.setCapture x).loader = s.loader := rfl
@[simp] theorem setCapture_config (s : State) (x : Capture) : (s.setCapture x).config = s.config := rfl
@[simp] theorem setCapture_inPins (s : State) (x : Capture) : (s.setCapture x).inPins = s.inPins := rfl
@[simp] theorem setCapture_sampled (s : State) (x : Capture) : (s.setCapture x).sampled = s.sampled := rfl
@[simp] theorem setCapture_resetHeld (s : State) (x : Capture) : (s.setCapture x).resetHeld = s.resetHeld := rfl
@[simp] theorem setCapture_lateHandling (s : State) (x : Capture) : (s.setCapture x).lateHandling = s.lateHandling := rfl
@[simp] theorem setCapture_freeIndex (s : State) (x : Capture) : (s.setCapture x).freeIndex = s.freeIndex := rfl
@[simp] theorem setCapture_pending (s : State) (x : Capture) : (s.setCapture x).pending = s.pending := rfl

@[simp] theorem setStore_clock (s : State) (x : EventStore) : (s.setStore x).clock = s.clock := rfl
@[simp] theorem setStore_agreement (s : State) (x : EventStore) : (s.setStore x).agreement = s.agreement := rfl
@[simp] theorem setStore_arms (s : State) (x : EventStore) : (s.setStore x).arms = s.arms := rfl
@[simp] theorem setStore_schedule (s : State) (x : EventStore) : (s.setStore x).schedule = s.schedule := rfl
@[simp] theorem setStore_outputs (s : State) (x : EventStore) : (s.setStore x).outputs = s.outputs := rfl
@[simp] theorem setStore_capture (s : State) (x : EventStore) : (s.setStore x).capture = s.capture := rfl
@[simp] theorem setStore_store (s : State) (x : EventStore) : (s.setStore x).store = x := rfl
@[simp] theorem setStore_framer (s : State) (x : EventStore) : (s.setStore x).framer = s.framer := rfl
@[simp] theorem setStore_access (s : State) (x : EventStore) : (s.setStore x).access = s.access := rfl
@[simp] theorem setStore_tap (s : State) (x : EventStore) : (s.setStore x).tap = s.tap := rfl
@[simp] theorem setStore_loader (s : State) (x : EventStore) : (s.setStore x).loader = s.loader := rfl
@[simp] theorem setStore_config (s : State) (x : EventStore) : (s.setStore x).config = s.config := rfl
@[simp] theorem setStore_inPins (s : State) (x : EventStore) : (s.setStore x).inPins = s.inPins := rfl
@[simp] theorem setStore_sampled (s : State) (x : EventStore) : (s.setStore x).sampled = s.sampled := rfl
@[simp] theorem setStore_resetHeld (s : State) (x : EventStore) : (s.setStore x).resetHeld = s.resetHeld := rfl
@[simp] theorem setStore_lateHandling (s : State) (x : EventStore) : (s.setStore x).lateHandling = s.lateHandling := rfl
@[simp] theorem setStore_freeIndex (s : State) (x : EventStore) : (s.setStore x).freeIndex = s.freeIndex := rfl
@[simp] theorem setStore_pending (s : State) (x : EventStore) : (s.setStore x).pending = s.pending := rfl

@[simp] theorem setFramer_clock (s : State) (x : Framer) : (s.setFramer x).clock = s.clock := rfl
@[simp] theorem setFramer_agreement (s : State) (x : Framer) : (s.setFramer x).agreement = s.agreement := rfl
@[simp] theorem setFramer_arms (s : State) (x : Framer) : (s.setFramer x).arms = s.arms := rfl
@[simp] theorem setFramer_schedule (s : State) (x : Framer) : (s.setFramer x).schedule = s.schedule := rfl
@[simp] theorem setFramer_outputs (s : State) (x : Framer) : (s.setFramer x).outputs = s.outputs := rfl
@[simp] theorem setFramer_capture (s : State) (x : Framer) : (s.setFramer x).capture = s.capture := rfl
@[simp] theorem setFramer_store (s : State) (x : Framer) : (s.setFramer x).store = s.store := rfl
@[simp] theorem setFramer_framer (s : State) (x : Framer) : (s.setFramer x).framer = x := rfl
@[simp] theorem setFramer_access (s : State) (x : Framer) : (s.setFramer x).access = s.access := rfl
@[simp] theorem setFramer_tap (s : State) (x : Framer) : (s.setFramer x).tap = s.tap := rfl
@[simp] theorem setFramer_loader (s : State) (x : Framer) : (s.setFramer x).loader = s.loader := rfl
@[simp] theorem setFramer_config (s : State) (x : Framer) : (s.setFramer x).config = s.config := rfl
@[simp] theorem setFramer_inPins (s : State) (x : Framer) : (s.setFramer x).inPins = s.inPins := rfl
@[simp] theorem setFramer_sampled (s : State) (x : Framer) : (s.setFramer x).sampled = s.sampled := rfl
@[simp] theorem setFramer_resetHeld (s : State) (x : Framer) : (s.setFramer x).resetHeld = s.resetHeld := rfl
@[simp] theorem setFramer_lateHandling (s : State) (x : Framer) : (s.setFramer x).lateHandling = s.lateHandling := rfl
@[simp] theorem setFramer_freeIndex (s : State) (x : Framer) : (s.setFramer x).freeIndex = s.freeIndex := rfl
@[simp] theorem setFramer_pending (s : State) (x : Framer) : (s.setFramer x).pending = s.pending := rfl

@[simp] theorem setAccess_clock (s : State) (x : Access) : (s.setAccess x).clock = s.clock := rfl
@[simp] theorem setAccess_agreement (s : State) (x : Access) : (s.setAccess x).agreement = s.agreement := rfl
@[simp] theorem setAccess_arms (s : State) (x : Access) : (s.setAccess x).arms = s.arms := rfl
@[simp] theorem setAccess_schedule (s : State) (x : Access) : (s.setAccess x).schedule = s.schedule := rfl
@[simp] theorem setAccess_outputs (s : State) (x : Access) : (s.setAccess x).outputs = s.outputs := rfl
@[simp] theorem setAccess_capture (s : State) (x : Access) : (s.setAccess x).capture = s.capture := rfl
@[simp] theorem setAccess_store (s : State) (x : Access) : (s.setAccess x).store = s.store := rfl
@[simp] theorem setAccess_framer (s : State) (x : Access) : (s.setAccess x).framer = s.framer := rfl
@[simp] theorem setAccess_access (s : State) (x : Access) : (s.setAccess x).access = x := rfl
@[simp] theorem setAccess_tap (s : State) (x : Access) : (s.setAccess x).tap = s.tap := rfl
@[simp] theorem setAccess_loader (s : State) (x : Access) : (s.setAccess x).loader = s.loader := rfl
@[simp] theorem setAccess_config (s : State) (x : Access) : (s.setAccess x).config = s.config := rfl
@[simp] theorem setAccess_inPins (s : State) (x : Access) : (s.setAccess x).inPins = s.inPins := rfl
@[simp] theorem setAccess_sampled (s : State) (x : Access) : (s.setAccess x).sampled = s.sampled := rfl
@[simp] theorem setAccess_resetHeld (s : State) (x : Access) : (s.setAccess x).resetHeld = s.resetHeld := rfl
@[simp] theorem setAccess_lateHandling (s : State) (x : Access) : (s.setAccess x).lateHandling = s.lateHandling := rfl
@[simp] theorem setAccess_freeIndex (s : State) (x : Access) : (s.setAccess x).freeIndex = s.freeIndex := rfl
@[simp] theorem setAccess_pending (s : State) (x : Access) : (s.setAccess x).pending = s.pending := rfl

@[simp] theorem setTap_clock (s : State) (x : Tap) : (s.setTap x).clock = s.clock := rfl
@[simp] theorem setTap_agreement (s : State) (x : Tap) : (s.setTap x).agreement = s.agreement := rfl
@[simp] theorem setTap_arms (s : State) (x : Tap) : (s.setTap x).arms = s.arms := rfl
@[simp] theorem setTap_schedule (s : State) (x : Tap) : (s.setTap x).schedule = s.schedule := rfl
@[simp] theorem setTap_outputs (s : State) (x : Tap) : (s.setTap x).outputs = s.outputs := rfl
@[simp] theorem setTap_capture (s : State) (x : Tap) : (s.setTap x).capture = s.capture := rfl
@[simp] theorem setTap_store (s : State) (x : Tap) : (s.setTap x).store = s.store := rfl
@[simp] theorem setTap_framer (s : State) (x : Tap) : (s.setTap x).framer = s.framer := rfl
@[simp] theorem setTap_access (s : State) (x : Tap) : (s.setTap x).access = s.access := rfl
@[simp] theorem setTap_tap (s : State) (x : Tap) : (s.setTap x).tap = x := rfl
@[simp] theorem setTap_loader (s : State) (x : Tap) : (s.setTap x).loader = s.loader := rfl
@[simp] theorem setTap_config (s : State) (x : Tap) : (s.setTap x).config = s.config := rfl
@[simp] theorem setTap_inPins (s : State) (x : Tap) : (s.setTap x).inPins = s.inPins := rfl
@[simp] theorem setTap_sampled (s : State) (x : Tap) : (s.setTap x).sampled = s.sampled := rfl
@[simp] theorem setTap_resetHeld (s : State) (x : Tap) : (s.setTap x).resetHeld = s.resetHeld := rfl
@[simp] theorem setTap_lateHandling (s : State) (x : Tap) : (s.setTap x).lateHandling = s.lateHandling := rfl
@[simp] theorem setTap_freeIndex (s : State) (x : Tap) : (s.setTap x).freeIndex = s.freeIndex := rfl
@[simp] theorem setTap_pending (s : State) (x : Tap) : (s.setTap x).pending = s.pending := rfl

@[simp] theorem setLoader_clock (s : State) (x : Loader) : (s.setLoader x).clock = s.clock := rfl
@[simp] theorem setLoader_agreement (s : State) (x : Loader) : (s.setLoader x).agreement = s.agreement := rfl
@[simp] theorem setLoader_arms (s : State) (x : Loader) : (s.setLoader x).arms = s.arms := rfl
@[simp] theorem setLoader_schedule (s : State) (x : Loader) : (s.setLoader x).schedule = s.schedule := rfl
@[simp] theorem setLoader_outputs (s : State) (x : Loader) : (s.setLoader x).outputs = s.outputs := rfl
@[simp] theorem setLoader_capture (s : State) (x : Loader) : (s.setLoader x).capture = s.capture := rfl
@[simp] theorem setLoader_store (s : State) (x : Loader) : (s.setLoader x).store = s.store := rfl
@[simp] theorem setLoader_framer (s : State) (x : Loader) : (s.setLoader x).framer = s.framer := rfl
@[simp] theorem setLoader_access (s : State) (x : Loader) : (s.setLoader x).access = s.access := rfl
@[simp] theorem setLoader_tap (s : State) (x : Loader) : (s.setLoader x).tap = s.tap := rfl
@[simp] theorem setLoader_loader (s : State) (x : Loader) : (s.setLoader x).loader = x := rfl
@[simp] theorem setLoader_config (s : State) (x : Loader) : (s.setLoader x).config = s.config := rfl
@[simp] theorem setLoader_inPins (s : State) (x : Loader) : (s.setLoader x).inPins = s.inPins := rfl
@[simp] theorem setLoader_sampled (s : State) (x : Loader) : (s.setLoader x).sampled = s.sampled := rfl
@[simp] theorem setLoader_resetHeld (s : State) (x : Loader) : (s.setLoader x).resetHeld = s.resetHeld := rfl
@[simp] theorem setLoader_lateHandling (s : State) (x : Loader) : (s.setLoader x).lateHandling = s.lateHandling := rfl
@[simp] theorem setLoader_freeIndex (s : State) (x : Loader) : (s.setLoader x).freeIndex = s.freeIndex := rfl
@[simp] theorem setLoader_pending (s : State) (x : Loader) : (s.setLoader x).pending = s.pending := rfl

@[simp] theorem setConfig_clock (s : State) (x : StationConfig) : (s.setConfig x).clock = s.clock := rfl
@[simp] theorem setConfig_agreement (s : State) (x : StationConfig) : (s.setConfig x).agreement = s.agreement := rfl
@[simp] theorem setConfig_arms (s : State) (x : StationConfig) : (s.setConfig x).arms = s.arms := rfl
@[simp] theorem setConfig_schedule (s : State) (x : StationConfig) : (s.setConfig x).schedule = s.schedule := rfl
@[simp] theorem setConfig_outputs (s : State) (x : StationConfig) : (s.setConfig x).outputs = s.outputs := rfl
@[simp] theorem setConfig_capture (s : State) (x : StationConfig) : (s.setConfig x).capture = s.capture := rfl
@[simp] theorem setConfig_store (s : State) (x : StationConfig) : (s.setConfig x).store = s.store := rfl
@[simp] theorem setConfig_framer (s : State) (x : StationConfig) : (s.setConfig x).framer = s.framer := rfl
@[simp] theorem setConfig_access (s : State) (x : StationConfig) : (s.setConfig x).access = s.access := rfl
@[simp] theorem setConfig_tap (s : State) (x : StationConfig) : (s.setConfig x).tap = s.tap := rfl
@[simp] theorem setConfig_loader (s : State) (x : StationConfig) : (s.setConfig x).loader = s.loader := rfl
@[simp] theorem setConfig_config (s : State) (x : StationConfig) : (s.setConfig x).config = x := rfl
@[simp] theorem setConfig_inPins (s : State) (x : StationConfig) : (s.setConfig x).inPins = s.inPins := rfl
@[simp] theorem setConfig_sampled (s : State) (x : StationConfig) : (s.setConfig x).sampled = s.sampled := rfl
@[simp] theorem setConfig_resetHeld (s : State) (x : StationConfig) : (s.setConfig x).resetHeld = s.resetHeld := rfl
@[simp] theorem setConfig_lateHandling (s : State) (x : StationConfig) : (s.setConfig x).lateHandling = s.lateHandling := rfl
@[simp] theorem setConfig_freeIndex (s : State) (x : StationConfig) : (s.setConfig x).freeIndex = s.freeIndex := rfl
@[simp] theorem setConfig_pending (s : State) (x : StationConfig) : (s.setConfig x).pending = s.pending := rfl

@[simp] theorem setInPins_clock (s : State) (x : BitVec 8) : (s.setInPins x).clock = s.clock := rfl
@[simp] theorem setInPins_agreement (s : State) (x : BitVec 8) : (s.setInPins x).agreement = s.agreement := rfl
@[simp] theorem setInPins_arms (s : State) (x : BitVec 8) : (s.setInPins x).arms = s.arms := rfl
@[simp] theorem setInPins_schedule (s : State) (x : BitVec 8) : (s.setInPins x).schedule = s.schedule := rfl
@[simp] theorem setInPins_outputs (s : State) (x : BitVec 8) : (s.setInPins x).outputs = s.outputs := rfl
@[simp] theorem setInPins_capture (s : State) (x : BitVec 8) : (s.setInPins x).capture = s.capture := rfl
@[simp] theorem setInPins_store (s : State) (x : BitVec 8) : (s.setInPins x).store = s.store := rfl
@[simp] theorem setInPins_framer (s : State) (x : BitVec 8) : (s.setInPins x).framer = s.framer := rfl
@[simp] theorem setInPins_access (s : State) (x : BitVec 8) : (s.setInPins x).access = s.access := rfl
@[simp] theorem setInPins_tap (s : State) (x : BitVec 8) : (s.setInPins x).tap = s.tap := rfl
@[simp] theorem setInPins_loader (s : State) (x : BitVec 8) : (s.setInPins x).loader = s.loader := rfl
@[simp] theorem setInPins_config (s : State) (x : BitVec 8) : (s.setInPins x).config = s.config := rfl
@[simp] theorem setInPins_inPins (s : State) (x : BitVec 8) : (s.setInPins x).inPins = x := rfl
@[simp] theorem setInPins_sampled (s : State) (x : BitVec 8) : (s.setInPins x).sampled = s.sampled := rfl
@[simp] theorem setInPins_resetHeld (s : State) (x : BitVec 8) : (s.setInPins x).resetHeld = s.resetHeld := rfl
@[simp] theorem setInPins_lateHandling (s : State) (x : BitVec 8) : (s.setInPins x).lateHandling = s.lateHandling := rfl
@[simp] theorem setInPins_freeIndex (s : State) (x : BitVec 8) : (s.setInPins x).freeIndex = s.freeIndex := rfl
@[simp] theorem setInPins_pending (s : State) (x : BitVec 8) : (s.setInPins x).pending = s.pending := rfl

@[simp] theorem setSampled_clock (s : State) (x : BitVec 8) : (s.setSampled x).clock = s.clock := rfl
@[simp] theorem setSampled_agreement (s : State) (x : BitVec 8) : (s.setSampled x).agreement = s.agreement := rfl
@[simp] theorem setSampled_arms (s : State) (x : BitVec 8) : (s.setSampled x).arms = s.arms := rfl
@[simp] theorem setSampled_schedule (s : State) (x : BitVec 8) : (s.setSampled x).schedule = s.schedule := rfl
@[simp] theorem setSampled_outputs (s : State) (x : BitVec 8) : (s.setSampled x).outputs = s.outputs := rfl
@[simp] theorem setSampled_capture (s : State) (x : BitVec 8) : (s.setSampled x).capture = s.capture := rfl
@[simp] theorem setSampled_store (s : State) (x : BitVec 8) : (s.setSampled x).store = s.store := rfl
@[simp] theorem setSampled_framer (s : State) (x : BitVec 8) : (s.setSampled x).framer = s.framer := rfl
@[simp] theorem setSampled_access (s : State) (x : BitVec 8) : (s.setSampled x).access = s.access := rfl
@[simp] theorem setSampled_tap (s : State) (x : BitVec 8) : (s.setSampled x).tap = s.tap := rfl
@[simp] theorem setSampled_loader (s : State) (x : BitVec 8) : (s.setSampled x).loader = s.loader := rfl
@[simp] theorem setSampled_config (s : State) (x : BitVec 8) : (s.setSampled x).config = s.config := rfl
@[simp] theorem setSampled_inPins (s : State) (x : BitVec 8) : (s.setSampled x).inPins = s.inPins := rfl
@[simp] theorem setSampled_sampled (s : State) (x : BitVec 8) : (s.setSampled x).sampled = x := rfl
@[simp] theorem setSampled_resetHeld (s : State) (x : BitVec 8) : (s.setSampled x).resetHeld = s.resetHeld := rfl
@[simp] theorem setSampled_lateHandling (s : State) (x : BitVec 8) : (s.setSampled x).lateHandling = s.lateHandling := rfl
@[simp] theorem setSampled_freeIndex (s : State) (x : BitVec 8) : (s.setSampled x).freeIndex = s.freeIndex := rfl
@[simp] theorem setSampled_pending (s : State) (x : BitVec 8) : (s.setSampled x).pending = s.pending := rfl

@[simp] theorem setResetHeld_clock (s : State) (x : Bool) : (s.setResetHeld x).clock = s.clock := rfl
@[simp] theorem setResetHeld_agreement (s : State) (x : Bool) : (s.setResetHeld x).agreement = s.agreement := rfl
@[simp] theorem setResetHeld_arms (s : State) (x : Bool) : (s.setResetHeld x).arms = s.arms := rfl
@[simp] theorem setResetHeld_schedule (s : State) (x : Bool) : (s.setResetHeld x).schedule = s.schedule := rfl
@[simp] theorem setResetHeld_outputs (s : State) (x : Bool) : (s.setResetHeld x).outputs = s.outputs := rfl
@[simp] theorem setResetHeld_capture (s : State) (x : Bool) : (s.setResetHeld x).capture = s.capture := rfl
@[simp] theorem setResetHeld_store (s : State) (x : Bool) : (s.setResetHeld x).store = s.store := rfl
@[simp] theorem setResetHeld_framer (s : State) (x : Bool) : (s.setResetHeld x).framer = s.framer := rfl
@[simp] theorem setResetHeld_access (s : State) (x : Bool) : (s.setResetHeld x).access = s.access := rfl
@[simp] theorem setResetHeld_tap (s : State) (x : Bool) : (s.setResetHeld x).tap = s.tap := rfl
@[simp] theorem setResetHeld_loader (s : State) (x : Bool) : (s.setResetHeld x).loader = s.loader := rfl
@[simp] theorem setResetHeld_config (s : State) (x : Bool) : (s.setResetHeld x).config = s.config := rfl
@[simp] theorem setResetHeld_inPins (s : State) (x : Bool) : (s.setResetHeld x).inPins = s.inPins := rfl
@[simp] theorem setResetHeld_sampled (s : State) (x : Bool) : (s.setResetHeld x).sampled = s.sampled := rfl
@[simp] theorem setResetHeld_resetHeld (s : State) (x : Bool) : (s.setResetHeld x).resetHeld = x := rfl
@[simp] theorem setResetHeld_lateHandling (s : State) (x : Bool) : (s.setResetHeld x).lateHandling = s.lateHandling := rfl
@[simp] theorem setResetHeld_freeIndex (s : State) (x : Bool) : (s.setResetHeld x).freeIndex = s.freeIndex := rfl
@[simp] theorem setResetHeld_pending (s : State) (x : Bool) : (s.setResetHeld x).pending = s.pending := rfl

@[simp] theorem setLateHandling_clock (s : State) (x : Bool) : (s.setLateHandling x).clock = s.clock := rfl
@[simp] theorem setLateHandling_agreement (s : State) (x : Bool) : (s.setLateHandling x).agreement = s.agreement := rfl
@[simp] theorem setLateHandling_arms (s : State) (x : Bool) : (s.setLateHandling x).arms = s.arms := rfl
@[simp] theorem setLateHandling_schedule (s : State) (x : Bool) : (s.setLateHandling x).schedule = s.schedule := rfl
@[simp] theorem setLateHandling_outputs (s : State) (x : Bool) : (s.setLateHandling x).outputs = s.outputs := rfl
@[simp] theorem setLateHandling_capture (s : State) (x : Bool) : (s.setLateHandling x).capture = s.capture := rfl
@[simp] theorem setLateHandling_store (s : State) (x : Bool) : (s.setLateHandling x).store = s.store := rfl
@[simp] theorem setLateHandling_framer (s : State) (x : Bool) : (s.setLateHandling x).framer = s.framer := rfl
@[simp] theorem setLateHandling_access (s : State) (x : Bool) : (s.setLateHandling x).access = s.access := rfl
@[simp] theorem setLateHandling_tap (s : State) (x : Bool) : (s.setLateHandling x).tap = s.tap := rfl
@[simp] theorem setLateHandling_loader (s : State) (x : Bool) : (s.setLateHandling x).loader = s.loader := rfl
@[simp] theorem setLateHandling_config (s : State) (x : Bool) : (s.setLateHandling x).config = s.config := rfl
@[simp] theorem setLateHandling_inPins (s : State) (x : Bool) : (s.setLateHandling x).inPins = s.inPins := rfl
@[simp] theorem setLateHandling_sampled (s : State) (x : Bool) : (s.setLateHandling x).sampled = s.sampled := rfl
@[simp] theorem setLateHandling_resetHeld (s : State) (x : Bool) : (s.setLateHandling x).resetHeld = s.resetHeld := rfl
@[simp] theorem setLateHandling_lateHandling (s : State) (x : Bool) : (s.setLateHandling x).lateHandling = x := rfl
@[simp] theorem setLateHandling_freeIndex (s : State) (x : Bool) : (s.setLateHandling x).freeIndex = s.freeIndex := rfl
@[simp] theorem setLateHandling_pending (s : State) (x : Bool) : (s.setLateHandling x).pending = s.pending := rfl

@[simp] theorem setFreeIndex_clock (s : State) (x : Nat) : (s.setFreeIndex x).clock = s.clock := rfl
@[simp] theorem setFreeIndex_agreement (s : State) (x : Nat) : (s.setFreeIndex x).agreement = s.agreement := rfl
@[simp] theorem setFreeIndex_arms (s : State) (x : Nat) : (s.setFreeIndex x).arms = s.arms := rfl
@[simp] theorem setFreeIndex_schedule (s : State) (x : Nat) : (s.setFreeIndex x).schedule = s.schedule := rfl
@[simp] theorem setFreeIndex_outputs (s : State) (x : Nat) : (s.setFreeIndex x).outputs = s.outputs := rfl
@[simp] theorem setFreeIndex_capture (s : State) (x : Nat) : (s.setFreeIndex x).capture = s.capture := rfl
@[simp] theorem setFreeIndex_store (s : State) (x : Nat) : (s.setFreeIndex x).store = s.store := rfl
@[simp] theorem setFreeIndex_framer (s : State) (x : Nat) : (s.setFreeIndex x).framer = s.framer := rfl
@[simp] theorem setFreeIndex_access (s : State) (x : Nat) : (s.setFreeIndex x).access = s.access := rfl
@[simp] theorem setFreeIndex_tap (s : State) (x : Nat) : (s.setFreeIndex x).tap = s.tap := rfl
@[simp] theorem setFreeIndex_loader (s : State) (x : Nat) : (s.setFreeIndex x).loader = s.loader := rfl
@[simp] theorem setFreeIndex_config (s : State) (x : Nat) : (s.setFreeIndex x).config = s.config := rfl
@[simp] theorem setFreeIndex_inPins (s : State) (x : Nat) : (s.setFreeIndex x).inPins = s.inPins := rfl
@[simp] theorem setFreeIndex_sampled (s : State) (x : Nat) : (s.setFreeIndex x).sampled = s.sampled := rfl
@[simp] theorem setFreeIndex_resetHeld (s : State) (x : Nat) : (s.setFreeIndex x).resetHeld = s.resetHeld := rfl
@[simp] theorem setFreeIndex_lateHandling (s : State) (x : Nat) : (s.setFreeIndex x).lateHandling = s.lateHandling := rfl
@[simp] theorem setFreeIndex_freeIndex (s : State) (x : Nat) : (s.setFreeIndex x).freeIndex = x := rfl
@[simp] theorem setFreeIndex_pending (s : State) (x : Nat) : (s.setFreeIndex x).pending = s.pending := rfl

@[simp] theorem setPending_clock (s : State) (x : List Instr) : (s.setPending x).clock = s.clock := rfl
@[simp] theorem setPending_agreement (s : State) (x : List Instr) : (s.setPending x).agreement = s.agreement := rfl
@[simp] theorem setPending_arms (s : State) (x : List Instr) : (s.setPending x).arms = s.arms := rfl
@[simp] theorem setPending_schedule (s : State) (x : List Instr) : (s.setPending x).schedule = s.schedule := rfl
@[simp] theorem setPending_outputs (s : State) (x : List Instr) : (s.setPending x).outputs = s.outputs := rfl
@[simp] theorem setPending_capture (s : State) (x : List Instr) : (s.setPending x).capture = s.capture := rfl
@[simp] theorem setPending_store (s : State) (x : List Instr) : (s.setPending x).store = s.store := rfl
@[simp] theorem setPending_framer (s : State) (x : List Instr) : (s.setPending x).framer = s.framer := rfl
@[simp] theorem setPending_access (s : State) (x : List Instr) : (s.setPending x).access = s.access := rfl
@[simp] theorem setPending_tap (s : State) (x : List Instr) : (s.setPending x).tap = s.tap := rfl
@[simp] theorem setPending_loader (s : State) (x : List Instr) : (s.setPending x).loader = s.loader := rfl
@[simp] theorem setPending_config (s : State) (x : List Instr) : (s.setPending x).config = s.config := rfl
@[simp] theorem setPending_inPins (s : State) (x : List Instr) : (s.setPending x).inPins = s.inPins := rfl
@[simp] theorem setPending_sampled (s : State) (x : List Instr) : (s.setPending x).sampled = s.sampled := rfl
@[simp] theorem setPending_resetHeld (s : State) (x : List Instr) : (s.setPending x).resetHeld = s.resetHeld := rfl
@[simp] theorem setPending_lateHandling (s : State) (x : List Instr) : (s.setPending x).lateHandling = s.lateHandling := rfl
@[simp] theorem setPending_freeIndex (s : State) (x : List Instr) : (s.setPending x).freeIndex = s.freeIndex := rfl
@[simp] theorem setPending_pending (s : State) (x : List Instr) : (s.setPending x).pending = x := rfl

/-! The later of two settings of one field stands, and setting a field to what it holds changes nothing. -/

@[simp] theorem setClock_setClock (s : State) (x y : LineClock) : (s.setClock x).setClock y = s.setClock y := rfl
@[simp] theorem setAgreement_setAgreement (s : State) (x y : Agreement) : (s.setAgreement x).setAgreement y = s.setAgreement y := rfl
@[simp] theorem setArms_setArms (s : State) (x y : Arms) : (s.setArms x).setArms y = s.setArms y := rfl
@[simp] theorem setSchedule_setSchedule (s : State) (x y : List ScheduleEntry) : (s.setSchedule x).setSchedule y = s.setSchedule y := rfl
@[simp] theorem setOutputs_setOutputs (s : State) (x y : Vector Output 8) : (s.setOutputs x).setOutputs y = s.setOutputs y := rfl
@[simp] theorem setCapture_setCapture (s : State) (x y : Capture) : (s.setCapture x).setCapture y = s.setCapture y := rfl
@[simp] theorem setStore_setStore (s : State) (x y : EventStore) : (s.setStore x).setStore y = s.setStore y := rfl
@[simp] theorem setFramer_setFramer (s : State) (x y : Framer) : (s.setFramer x).setFramer y = s.setFramer y := rfl
@[simp] theorem setAccess_setAccess (s : State) (x y : Access) : (s.setAccess x).setAccess y = s.setAccess y := rfl
@[simp] theorem setTap_setTap (s : State) (x y : Tap) : (s.setTap x).setTap y = s.setTap y := rfl
@[simp] theorem setLoader_setLoader (s : State) (x y : Loader) : (s.setLoader x).setLoader y = s.setLoader y := rfl
@[simp] theorem setConfig_setConfig (s : State) (x y : StationConfig) : (s.setConfig x).setConfig y = s.setConfig y := rfl
@[simp] theorem setInPins_setInPins (s : State) (x y : BitVec 8) : (s.setInPins x).setInPins y = s.setInPins y := rfl
@[simp] theorem setSampled_setSampled (s : State) (x y : BitVec 8) : (s.setSampled x).setSampled y = s.setSampled y := rfl
@[simp] theorem setResetHeld_setResetHeld (s : State) (x y : Bool) : (s.setResetHeld x).setResetHeld y = s.setResetHeld y := rfl
@[simp] theorem setLateHandling_setLateHandling (s : State) (x y : Bool) : (s.setLateHandling x).setLateHandling y = s.setLateHandling y := rfl
@[simp] theorem setFreeIndex_setFreeIndex (s : State) (x y : Nat) : (s.setFreeIndex x).setFreeIndex y = s.setFreeIndex y := rfl
@[simp] theorem setPending_setPending (s : State) (x y : List Instr) : (s.setPending x).setPending y = s.setPending y := rfl

@[simp] theorem setClock_self (s : State) : s.setClock s.clock = s := rfl
@[simp] theorem setAgreement_self (s : State) : s.setAgreement s.agreement = s := rfl
@[simp] theorem setArms_self (s : State) : s.setArms s.arms = s := rfl
@[simp] theorem setSchedule_self (s : State) : s.setSchedule s.schedule = s := rfl
@[simp] theorem setOutputs_self (s : State) : s.setOutputs s.outputs = s := rfl
@[simp] theorem setCapture_self (s : State) : s.setCapture s.capture = s := rfl
@[simp] theorem setStore_self (s : State) : s.setStore s.store = s := rfl
@[simp] theorem setFramer_self (s : State) : s.setFramer s.framer = s := rfl
@[simp] theorem setAccess_self (s : State) : s.setAccess s.access = s := rfl
@[simp] theorem setTap_self (s : State) : s.setTap s.tap = s := rfl
@[simp] theorem setLoader_self (s : State) : s.setLoader s.loader = s := rfl
@[simp] theorem setConfig_self (s : State) : s.setConfig s.config = s := rfl
@[simp] theorem setInPins_self (s : State) : s.setInPins s.inPins = s := rfl
@[simp] theorem setSampled_self (s : State) : s.setSampled s.sampled = s := rfl
@[simp] theorem setResetHeld_self (s : State) : s.setResetHeld s.resetHeld = s := rfl
@[simp] theorem setLateHandling_self (s : State) : s.setLateHandling s.lateHandling = s := rfl
@[simp] theorem setFreeIndex_self (s : State) : s.setFreeIndex s.freeIndex = s := rfl
@[simp] theorem setPending_self (s : State) : s.setPending s.pending = s := rfl

end Sys2Proof.Machine.State
end

