-- ==== Sys2Proof/Laws/Frame.lean ====
section
/-! SUPPORT. The parts of the station, and for each shared operation the parts it can touch: every other part is as it
was. -/

-- One theorem at a time: many theorems elaborated side by side each take a thread with a stack of its own.
set_option Elab.async false

namespace Sys2Proof.Machine

/-- The parts of a station. -/
inductive Part where
  | clock | agreement | timeFrame | outbox | cancels | armsInFlight | history | nextId | schedule | outputs
  | filters | events | eventsInFlight | store | receiver | startCount | symbol | silence | buffers | ripe | counters
  | engine | monitor | rotation | tx | collisions | transaction | latch | loader | config | inPins | sampled
  | resetHeld | lateHandling | freeIndex | pending
deriving DecidableEq

/-- Two stations agree on a part. -/
def Part.same (s t : State) : Part → Prop
  | .clock => t.clock = s.clock
  | .agreement => { t.agreement with timeFrame := .idle } = { s.agreement with timeFrame := .idle }
  | .timeFrame => t.agreement.timeFrame = s.agreement.timeFrame
  | .outbox => t.arms.outbox = s.arms.outbox
  | .cancels => t.arms.cancels = s.arms.cancels
  | .armsInFlight => t.arms.inFlight = s.arms.inFlight
  | .history => t.arms.history = s.arms.history
  | .nextId => t.arms.nextId = s.arms.nextId
  | .schedule => t.schedule = s.schedule
  | .outputs => t.outputs = s.outputs
  | .filters => t.capture.filters = s.capture.filters
  | .events => t.capture.outbox = s.capture.outbox
  | .eventsInFlight => t.capture.inFlight = s.capture.inFlight
  | .store => t.store = s.store
  | .receiver => t.framer.receiver = s.framer.receiver
  | .startCount => t.framer.startCount = s.framer.startCount
  | .symbol => t.framer.symbol = s.framer.symbol
  | .silence => t.framer.silence = s.framer.silence ∧ t.framer.quietFound = s.framer.quietFound
  | .buffers =>
    t.framer.bufferA = s.framer.bufferA ∧ t.framer.bufferB = s.framer.bufferB ∧ t.framer.aFirst = s.framer.aFirst
  | .ripe => t.framer.ripe = s.framer.ripe
  | .counters => t.framer.counters = s.framer.counters
  | .engine => t.framer.engine = s.framer.engine
  | .monitor =>
    t.access.monitor = s.access.monitor ∧ t.access.gapCount = s.access.gapCount ∧
      t.access.slotIndex = s.access.slotIndex ∧ t.access.slotCount = s.access.slotCount ∧
      t.access.slotTaken = s.access.slotTaken
  | .rotation => t.access.rotation = s.access.rotation
  | .tx => t.access.tx = s.access.tx ∧ t.access.reportA = s.access.reportA
  | .collisions =>
    t.access.yield = s.access.yield ∧ t.access.collisions = s.access.collisions ∧ t.access.mute = s.access.mute
  | .transaction =>
    { t.tap with latch := true, setSinceTake := true } = { s.tap with latch := true, setSinceTake := true }
  | .latch => t.tap.latch = s.tap.latch ∧ t.tap.setSinceTake = s.tap.setSinceTake
  | .loader => t.loader = s.loader
  | .config => t.config = s.config
  | .inPins => t.inPins = s.inPins
  | .sampled => t.sampled = s.sampled
  | .resetHeld => t.resetHeld = s.resetHeld
  | .lateHandling => t.lateHandling = s.lateHandling
  | .freeIndex => t.freeIndex = s.freeIndex
  | .pending => t.pending = s.pending

/-- `t` is as `s` in every part but those of `ps`. -/
def Frame (ps : List Part) (s t : State) : Prop := ∀ p, p ∉ ps → p.same s t

namespace Frame

theorem same {ps : List Part} {s t : State} (h : Frame ps s t) (p : Part) (hp : p ∉ ps := by decide) : p.same s t :=
  h p hp

theorem refl (ps : List Part) (s : State) : Frame ps s s := by
  intro p _
  cases p <;> simp [Part.same]

theorem trans {ps : List Part} {s t u : State} (h : Frame ps s t) (h' : Frame ps t u) : Frame ps s u := by
  intro p hp
  have a := h p hp
  have b := h' p hp
  cases p <;> simp only [Part.same] at a b ⊢ <;> first | exact b.trans a | simp_all

theorem mono {ps qs : List Part} {s t : State} (h : Frame ps s t) (hq : ∀ p ∈ ps, p ∈ qs := by decide) :
    Frame qs s t :=
  fun p hp => h p fun hp' => hp (hq p hp')

/-- An operation taken over a list touches no more than each of its steps. -/
theorem foldl {α : Type} {ps : List Part} {f : State → α → State} (h : ∀ s a, Frame ps s (f s a)) :
    ∀ (l : List α) (s : State), Frame ps s (l.foldl f s)
  | [], s => refl ps s
  | a :: l, s => (h s a).trans (foldl h l (f s a))

end Frame

namespace State

/-! ### Flags, notes and looks -/

theorem count_frame (s : State) (c : Counter) : Frame [.counters] s (s.count c) := by
  intro p hp
  unfold count countAlways
  split <;> cases p <;> first | exact absurd (by decide) hp | rfl | simp [Part.same]

theorem setLatch_frame (s : State) : Frame [.latch] s s.setLatch := by
  intro p hp
  cases p <;> first | exact absurd (by decide) hp | rfl | simp [Part.same, setLatch]

theorem takeRecord_frame (s : State) (r : EventRecord) : Frame [.store] s (s.takeRecord r) := by
  intro p hp
  unfold takeRecord
  split <;> cases p <;> first | exact absurd (by decide) hp | rfl | simp [Part.same]

theorem lookStore_frame (s : State) : Frame [.store] s s.lookStore := by
  intro p hp
  cases p <;> first | exact absurd (by decide) hp | rfl | simp [Part.same, lookStore]

theorem note_frame (s : State) (code : NoteCode) (origin : StationId) (detail tag : Byte) :
    Frame [.store] s (s.note code origin detail tag) := takeRecord_frame s _

theorem ownNote_frame (s : State) (code : NoteCode) (detail tag : Byte) :
    Frame [.store] s (s.ownNote code detail tag) := takeRecord_frame s _

theorem entryNote_frame (s : State) (code : NoteCode) (e : ScheduleEntry) : Frame [.store] s (s.entryNote code e) :=
  takeRecord_frame s _

/-! ### Outputs and Schedule -/

theorem setOutputs_frame (s : State) (x : Vector Output 8) : Frame [.outputs] s (s.setOutputs x) := by
  intro p hp
  cases p <;> first | exact absurd (by decide) hp | rfl | simp [Part.same]

theorem setSchedule_frame (s : State) (x : List ScheduleEntry) : Frame [.schedule] s (s.setSchedule x) := by
  intro p hp
  cases p <;> first | exact absurd (by decide) hp | rfl | simp [Part.same]

theorem mapOutputs_frame (s : State) (f : OutputConfig → Output → Output) : Frame [.outputs] s (s.mapOutputs f) :=
  setOutputs_frame s _

theorem safeOutputs_frame (s : State) : Frame [.outputs] s s.safeOutputs := setOutputs_frame s _

theorem endPulses_frame (s : State) : Frame [.outputs] s s.endPulses := setOutputs_frame s _

theorem execute_frame (s : State) (e : ScheduleEntry) : Frame [.outputs, .store] s (s.execute e) := by
  unfold execute
  simp only
  split
  · exact ((setOutputs_frame s _).mono).trans ((entryNote_frame _ _ e).mono)
  · exact (setOutputs_frame s _).mono

theorem takeEntry_frame (s : State) (e : ScheduleEntry) : Frame [.outputs, .store] s (s.takeEntry e) := by
  unfold takeEntry
  split
  · exact execute_frame s e
  · exact (entryNote_frame s _ e).mono

/-- A look takes entries from the Schedule; the actions change outputs, and the notes the store. -/
theorem lookSchedule_frame (s : State) : Frame [.schedule, .outputs, .store] s s.lookSchedule := by
  unfold lookSchedule
  split
  · exact ((setSchedule_frame s _).mono).trans ((Frame.foldl takeEntry_frame _ _).mono)
  · exact Frame.refl _ s

theorem insertAndLook_frame (s : State) (e : ScheduleEntry) :
    Frame [.schedule, .outputs, .store] s (s.insertAndLook e) :=
  ((setSchedule_frame s _).mono).trans (lookSchedule_frame _)

theorem insertFull_frame (s : State) (e : ScheduleEntry) : Frame [.schedule, .outputs, .store] s (s.insertFull e) := by
  unfold insertFull
  split
  · exact Frame.refl _ s
  · split
    · exact (((setSchedule_frame s _).mono).trans ((entryNote_frame _ _ _).mono)).trans (insertAndLook_frame _ e)
    · exact (entryNote_frame s _ e).mono

/-- An insertion request changes no more than the Schedule, the outputs and the store. -/
theorem insertRequest_frame (s : State) (e : ScheduleEntry) :
    Frame [.schedule, .outputs, .store] s (s.insertRequest e) := by
  unfold insertRequest
  split
  · exact (entryNote_frame s _ e).mono
  · split
    · exact insertAndLook_frame s e
    · exact insertFull_frame s e

theorem removeOrigin_frame (s : State) (sender : StationId) (armId : Byte) :
    Frame [.schedule] s (s.removeOrigin sender armId) := setSchedule_frame s _

theorem stepSchedule_frame (s : State) : Frame [.schedule, .store] s s.stepSchedule :=
  ((setSchedule_frame s _).mono).trans ((Frame.foldl (fun s e => entryNote_frame s .missed e) _ _).mono)

/-! ### Arms -/

theorem setHistory_frame (s : State) (sender : StationId) (es : List HistoryEntry) :
    Frame [.history] s (s.setHistory sender es) := by
  intro p hp
  cases p <;> first | exact absurd (by decide) hp | rfl | simp [Part.same, setHistory]

theorem applyBindings_frame (s : State) (sender : StationId) (armId tag : Byte) (action : LineTime) :
    Frame [.schedule, .outputs, .store] s (s.applyBindings sender armId tag action) :=
  Frame.foldl insertRequest_frame _ _

/-- Accepting an arm enters it in the history and applies its bindings. -/
theorem acceptArm_frame (s : State) (sender : StationId) (armId tag : Byte) (action : LineTime) :
    Frame [.history, .schedule, .outputs, .store] s (s.acceptArm sender armId tag action) :=
  ((setHistory_frame s _ _).mono).trans ((applyBindings_frame _ sender armId tag action).mono)

theorem cancelArm_frame (s : State) (sender : StationId) (armId : Byte) :
    Frame [.history, .schedule] s (s.cancelArm sender armId) :=
  ((removeOrigin_frame s sender armId).mono).trans ((setHistory_frame _ _ _).mono)

theorem releaseArm_frame (s : State) (r : ArmRecord) : Frame [.filters] s (s.releaseArm r) := by
  unfold releaseArm
  split
  · exact Frame.refl _ s
  · intro p hp
    cases p <;> first | exact absurd (by decide) hp | rfl | simp [Part.same]

theorem setOutbox_frame (s : State) (rs : List ArmRecord) :
    Frame [.outbox] s (s.setArms { s.arms with outbox := rs }) := by
  intro p hp
  cases p <;> first | exact absurd (by decide) hp | rfl | simp [Part.same]

/-- Records leaving the arm outbox release their inputs. -/
theorem removeArms_frame (s : State) (q : ArmRecord → Bool) : Frame [.outbox, .filters] s (s.removeArms q) :=
  ((setOutbox_frame s _).mono).trans ((Frame.foldl releaseArm_frame _ _).mono)

theorem updateArm_frame (s : State) (id : Byte) (f : ArmRecord → ArmRecord) : Frame [.outbox] s (s.updateArm id f) :=
  setOutbox_frame s _

theorem expireArm_frame (s : State) (r : ArmRecord) : Frame [.outbox, .filters, .store] s (s.expireArm r) := by
  unfold expireArm
  split
  · exact (removeArms_frame s _).mono
  · exact ((ownNote_frame s _ _ _).mono).trans ((removeArms_frame _ _).mono)

theorem expireWhere_frame (s : State) (q : ArmRecord → Bool) : Frame [.outbox, .filters, .store] s (s.expireWhere q) :=
  Frame.foldl expireArm_frame _ _

theorem expireArms_frame (s : State) : Frame [.outbox, .filters, .store] s s.expireArms := expireWhere_frame s _

theorem stepArms_frame (s : State) : Frame [.outbox, .filters, .store] s s.stepArms := expireWhere_frame s _

/-- A change of reading for the length of an operation touches what the operation touches. -/
theorem atReadings_frame {ps : List Part} {f : State → State} (s : State) (t store : LineTime)
    (h : ∀ u, Frame ps u (f u)) : Frame ps s (s.atReadings t store f) := by
  intro p hp
  have b := h (s.setClock { s.clock with now := t, handed := some store }) p hp
  cases p <;> first | rfl | simpa [Part.same, atReadings] using b

theorem atReading_frame {ps : List Part} {f : State → State} (s : State) (t : LineTime)
    (h : ∀ u, Frame ps u (f u)) : Frame ps s (s.atReading t f) :=
  atReadings_frame s t _ h

theorem expireArmOf_frame (s : State) (id : Byte) : Frame [.outbox, .filters, .store] s (s.expireArmOf id) := by
  unfold expireArmOf
  split
  · exact expireWhere_frame s _
  · exact (expireWhere_frame s _).trans (atReading_frame _ _ fun h => expireWhere_frame h _)

theorem stepArmsFirst_frame (s : State) (judged : LineTime) :
    Frame [.outbox, .filters, .store] s (s.stepArmsFirst judged) := by
  unfold stepArmsFirst
  split
  · exact Frame.refl _ s
  · exact atReading_frame s _ stepArms_frame

theorem createArm_frame (s : State) (tag : Byte) (action : LineTime) (source : ArmSource) :
    Frame [.outbox, .nextId, .filters] s (s.createArm tag action source) := by
  unfold createArm
  cases source <;> intro p hp <;> cases p <;> first | exact absurd (by decide) hp | rfl | simp [Part.same]

/-- The checks on a request from an input create one record or raise one note. -/
theorem checkRequest_frame (s : State) (i : Fin 8) (stamp judged : LineTime) :
    Frame [.outbox, .nextId, .filters, .store] s (s.checkRequest i stamp judged) := by
  unfold checkRequest
  simp only
  repeat' split
  all_goals first | exact (ownNote_frame s _ _ _).mono | exact (createArm_frame s _ _ _).mono

theorem requestFromInput_frame (s : State) (i : Fin 8) (stamp judged : LineTime) :
    Frame [.outbox, .nextId, .filters, .store] s (s.requestFromInput i stamp judged) :=
  ((stepArmsFirst_frame s judged).mono).trans (checkRequest_frame _ _ _ _)

theorem clearInFlight_frame (s : State) : Frame [.armsInFlight] s s.clearInFlight := by
  intro p hp
  cases p <;> first | exact absurd (by decide) hp | rfl | simp [Part.same, clearInFlight]

theorem setCancels_frame (s : State) (rs : List CancelRecord) :
    Frame [.cancels] s (s.setArms { s.arms with cancels := rs }) := by
  intro p hp
  cases p <;> first | exact absurd (by decide) hp | rfl | simp [Part.same]

theorem armSent_frame (round : Round) (s : State) (a : CarriedArm) :
    Frame [.outbox, .filters, .history, .schedule, .outputs, .store] s (armSent round s a) := by
  unfold armSent
  simp only
  refine Frame.trans ?_ ((removeArms_frame _ _).mono)
  split
  · exact (((updateArm_frame s _ _).mono).trans ((updateArm_frame _ _ _).mono)).trans ((acceptArm_frame _ _ _ _ _).mono)
  · exact (updateArm_frame s _ _).mono

theorem cancelSent_frame (round : Round) (s : State) (a : CarriedCancel) :
    Frame [.cancels, .history, .schedule] s (cancelSent round s a) := by
  unfold cancelSent
  simp only
  refine Frame.trans ?_ ((setCancels_frame _ _).mono)
  split
  · exact ((setCancels_frame s _).mono).trans ((cancelArm_frame _ _ _).mono)
  · exact (setCancels_frame s _).mono

/-- The report of a good send changes no more than the Arm Unit's lists, the inputs released, and what accepting an arm
changes. -/
theorem armsSentWell_frame (s : State) :
    Frame [.outbox, .cancels, .armsInFlight, .filters, .history, .schedule, .outputs, .store] s s.armsSentWell := by
  unfold armsSentWell
  split
  · exact Frame.refl _ s
  · exact ((Frame.foldl (armSent_frame _) _ s).mono).trans ((clearInFlight_frame _).mono)
  · exact ((Frame.foldl (cancelSent_frame _) _ s).mono).trans ((clearInFlight_frame _).mono)

theorem armsCollided_frame (s : State) :
    Frame [.outbox, .armsInFlight, .filters, .store] s s.armsCollided := by
  unfold armsCollided
  split
  · exact Frame.refl _ s
  · exact ((clearInFlight_frame s).mono).trans ((Frame.foldl expireArm_frame _ _).mono)
  · exact (clearInFlight_frame s).mono

theorem cancelEffect_frame (s : State) (id : Byte) : Frame [.outbox, .cancels, .filters] s (s.cancelEffect id) := by
  unfold cancelEffect
  split
  · exact (removeArms_frame s _).mono
  · split
    · exact ((removeArms_frame s _).mono).trans ((setCancels_frame _ _).mono)
    · exact Frame.refl _ s

theorem takeArmFrame_frame (s : State) (sender : StationId) (arms : List ReceivedArm) :
    Frame [.history, .schedule, .outputs, .store] s (s.takeArmFrame sender arms) := by
  unfold takeArmFrame
  split
  · refine Frame.foldl (fun s a => ?_) _ s
    unfold takeArm
    repeat' split
    all_goals first
      | exact (note_frame s _ _ _ _).mono
      | exact acceptArm_frame s _ _ _ _
      | exact Frame.refl _ s
  · exact Frame.refl _ s

theorem takeCancelFrame_frame (s : State) (sender : StationId) (ids : List Byte) :
    Frame [.history, .schedule] s (s.takeCancelFrame sender ids) := by
  unfold takeCancelFrame
  split
  · exact Frame.foldl (fun s id => cancelArm_frame s sender id) _ s
  · exact Frame.refl _ s

theorem takeEventFrame_frame (s : State) (sender : StationId) (es : List SharedEdge) :
    Frame [.store] s (s.takeEventFrame sender es) := by
  unfold takeEventFrame
  split
  · exact Frame.refl _ s
  · exact Frame.foldl (fun s e => takeRecord_frame s _) _ s

/-! ### Inputs -/

theorem setFilters_frame (s : State) (fs : Vector InputFilter 8) :
    Frame [.filters] s (s.setCapture { s.capture with filters := fs }) := by
  intro p hp
  cases p <;> first | exact absurd (by decide) hp | rfl | simp [Part.same]

theorem setFilter_frame (s : State) (i : Fin 8) (f : InputFilter) : Frame [.filters] s (s.setFilter i f) :=
  setFilters_frame s _

theorem setSampled_frame (s : State) (x : BitVec 8) : Frame [.sampled] s (s.setSampled x) := by
  intro p hp
  cases p <;> first | exact absurd (by decide) hp | rfl | simp [Part.same]

theorem sampleInput_frame (s : State) (i : Fin 8) : Frame [.filters, .sampled] s (s.sampleInput i) := by
  unfold sampleInput
  split
  · exact ((setFilter_frame s i _).mono).trans ((setSampled_frame _ _).mono)
  · exact Frame.refl _ s

theorem sampleInputs_frame (s : State) : Frame [.filters, .sampled] s s.sampleInputs :=
  Frame.foldl sampleInput_frame _ s

theorem setEvents_frame (s : State) (es : List SharedEdge) :
    Frame [.events] s (s.setCapture { s.capture with outbox := es }) := by
  intro p hp
  cases p <;> first | exact absurd (by decide) hp | rfl | simp [Part.same]

theorem handOn_frame (s : State) (i : Fin 8) (edge : Edge) (stamp : LineTime) (stepped : Bool)
    (judged : LineTime) :
    Frame [.events, .store, .outbox, .nextId, .filters] s (s.handOn i edge stamp stepped judged) := by
  have shared : ∀ (b : Bool) (es : List SharedEdge) (r : EventRecord),
      Frame [.events, .store, .outbox, .nextId, .filters] s
        ((if b then s.setCapture { s.capture with outbox := es } else s).takeRecord r) := by
    intro b es r
    refine Frame.trans ?_ ((takeRecord_frame _ _).mono)
    split
    · exact (setEvents_frame s _).mono
    · exact Frame.refl _ s
  unfold handOn
  simp only
  split
  · exact (shared _ _ _).trans ((requestFromInput_frame _ _ _ _).mono)
  · exact shared _ _ _

theorem acceptEdge_frame (judged : LineTime) (s : State) (i : Fin 8) :
    Frame [.events, .store, .outbox, .nextId, .filters] s (acceptEdge judged s i) := by
  unfold acceptEdge
  split
  · exact Frame.refl _ s
  · simp only
    split
    · exact ((setFilter_frame s i _).mono).trans (handOn_frame _ _ _ _ _ _)
    · exact (setFilter_frame s i _).mono

/-- The acceptances of a period change no more than the inputs, the event outbox, the store and the arm outbox. -/
theorem acceptEdges_frame (judged : LineTime) (s : State) :
    Frame [.events, .store, .outbox, .nextId, .filters] s (s.acceptEdges judged) := by
  refine Frame.foldl (fun s i => ?_) _ s
  split
  · exact acceptEdge_frame judged s i
  · exact Frame.refl _ s

/-! ### Sending -/

theorem setTx_frame (s : State) (x : Transmitter) : Frame [.tx] s (s.setTx x) := by
  intro p hp
  cases p <;> first | exact absurd (by decide) hp | rfl | simp [Part.same, setTx]

theorem moveTx_frame (s : State) : Frame [.tx] s s.moveTx := by
  unfold moveTx
  split
  · exact setTx_frame s _
  · exact Frame.refl _ s

/-- A report touches the transmitter and the report alone. -/
theorem reportAt_frame (s : State) (t : LineTime) : Frame [.tx] s (s.reportAt t) := by
  refine Frame.trans ?_ (moveTx_frame _)
  intro p hp
  cases p <;> first | exact absurd (by decide) hp | rfl | simp [Part.same]

theorem refreshTx_frame (s : State) : Frame [.tx] s s.refreshTx := reportAt_frame s _

theorem beginFrame_frame (s : State) (kind : FrameKind) (body : List Byte) :
    Frame [.engine, .tx, .collisions] s (s.beginFrame kind body) := by
  intro p hp
  cases p <;> first | exact absurd (by decide) hp | rfl | simp [Part.same, beginFrame]

/-- The assembly of a frame marks its content as in flight, and begins the frame. -/
theorem assemble_frame (s : State) :
    Frame [.armsInFlight, .timeFrame, .eventsInFlight, .engine, .tx, .collisions] s s.assemble := by
  unfold assemble
  repeat' split
  · refine Frame.trans ?_ ((beginFrame_frame _ _ _).mono)
    intro p hp
    cases p <;> first | exact absurd (by decide) hp | rfl | simp [Part.same]
  · refine Frame.trans ?_ ((beginFrame_frame _ _ _).mono)
    intro p hp
    cases p <;> first | exact absurd (by decide) hp | rfl | simp [Part.same]
  · refine Frame.trans ?_ ((beginFrame_frame _ _ _).mono)
    intro p hp
    cases p <;> first | exact absurd (by decide) hp | rfl | simp [Part.same]
  · refine Frame.trans ?_ ((beginFrame_frame _ _ _).mono)
    intro p hp
    cases p <;> first | exact absurd (by decide) hp | rfl | simp [Part.same]
  · exact Frame.refl _ s

theorem takeSlot_frame (s : State) :
    Frame [.monitor, .armsInFlight, .timeFrame, .eventsInFlight, .engine, .tx, .collisions] s s.takeSlot := by
  have started : Frame [.monitor] s (s.setAccess { s.access with slotTaken := true }) := by
    intro p hp
    cases p <;> first | exact absurd (by decide) hp | rfl | simp [Part.same]
  unfold takeSlot
  simp only
  repeat' split
  · exact (started.mono).trans (((assemble_frame _).mono).trans ((refreshTx_frame _).mono))
  · exact started.mono
  · exact Frame.refl _ s

theorem setEngine_frame (s : State) (e : Option Engine) : Frame [.engine] s (s.setEngine e) := by
  intro p hp
  cases p <;> first | exact absurd (by decide) hp | rfl | simp [Part.same, setEngine]

theorem setTimeFrame_frame (s : State) (x : TimeFrame) :
    Frame [.timeFrame] s (s.setAgreement { s.agreement with timeFrame := x }) := by
  intro p hp
  cases p <;> first | exact absurd (by decide) hp | rfl | simp [Part.same]

theorem reportSent_frame (s : State) (kind : FrameKind) :
    Frame [.outbox, .cancels, .armsInFlight, .filters, .history, .schedule, .outputs, .store, .timeFrame, .events,
      .eventsInFlight] s (s.reportSent kind) := by
  cases kind
  · exact (setTimeFrame_frame s _).mono
  · intro p hp
    cases p <;> first | exact absurd (by decide) hp | rfl | simp [Part.same, reportSent, eventsSentWell]
  · exact (armsSentWell_frame s).mono
  · exact (armsSentWell_frame s).mono

theorem reportCollided_frame (s : State) (kind : FrameKind) :
    Frame [.outbox, .armsInFlight, .filters, .store, .timeFrame, .eventsInFlight] s (s.reportCollided kind) := by
  cases kind
  · exact (setTimeFrame_frame s _).mono
  · intro p hp
    cases p <;> first | exact absurd (by decide) hp | rfl | simp [Part.same, reportCollided, eventsCollided]
  · exact (armsCollided_frame s).mono
  · exact (armsCollided_frame s).mono

/-- The good end of a frame ends the engine's work, moves the rotation, and reports to the content's owner. -/
theorem endFrame_frame (s : State) :
    Frame [.engine, .rotation, .collisions, .tx, .outbox, .cancels, .armsInFlight, .filters, .history, .schedule, .outputs,
      .store, .timeFrame, .events, .eventsInFlight] s s.endFrame := by
  have good : ∀ k, Frame [.engine, .rotation, .collisions, .tx, .outbox, .cancels, .armsInFlight, .filters, .history,
      .schedule, .outputs, .store, .timeFrame, .events, .eventsInFlight] s (s.goodEnd k) := by
    intro k
    refine Frame.trans ?_ ((setTx_frame _ _).mono)
    refine Frame.trans ?_ ((reportSent_frame _ k).mono)
    refine Frame.trans ((setEngine_frame s none).mono) (?_ : Frame _ _ _)
    intro p hp
    cases p <;> first | exact absurd (by decide) hp | rfl | simp [Part.same, setEngine]
  unfold endFrame
  repeat' split
  · exact Frame.refl _ s
  · exact (setEngine_frame s _).mono
  · exact (good _).trans ((refreshTx_frame _).mono)
  · exact Frame.refl _ s
  · exact Frame.refl _ s

theorem muteTx_frame (s : State) : Frame [.tx, .collisions, .store, .latch] s s.muteTx := by
  refine Frame.trans ?_ ((setLatch_frame _).mono)
  refine Frame.trans ?_ ((ownNote_frame _ _ _ _).mono)
  intro p hp
  cases p <;> first | exact absurd (by decide) hp | rfl | simp [Part.same]

theorem endQuash_frame (s : State) :
    Frame [.engine, .collisions, .tx, .outbox, .armsInFlight, .filters, .store, .timeFrame, .eventsInFlight, .latch]
      s s.endQuash := by
  have ended : ∀ k, Frame [.engine, .collisions, .tx, .outbox, .armsInFlight, .filters, .store, .timeFrame,
      .eventsInFlight, .latch] s (s.collisionEnd k) := by
    intro k
    have reported : Frame [.engine, .collisions, .tx, .outbox, .armsInFlight, .filters, .store, .timeFrame,
        .eventsInFlight, .latch] s (((s.setEngine none).setAccess
          { s.access with collisions := s.access.collisions + 1, yield := true }).reportCollided k) := by
      refine Frame.trans ?_ ((reportCollided_frame _ k).mono)
      refine Frame.trans ((setEngine_frame s none).mono) (?_ : Frame _ _ _)
      intro p hp
      cases p <;> first | exact absurd (by decide) hp | rfl | simp [Part.same, setEngine]
    unfold collisionEnd
    simp only
    split
    · exact reported.trans ((muteTx_frame _).mono)
    · exact reported.trans ((setTx_frame _ _).mono)
  unfold endQuash
  repeat' split
  · exact Frame.refl _ s
  · exact (setEngine_frame s _).mono
  · exact (ended _).trans ((refreshTx_frame _).mono)
  · exact Frame.refl _ s

theorem muteBoundary_frame (s : State) : Frame [.tx, .collisions] s s.muteBoundary := by
  unfold muteBoundary
  repeat' split
  all_goals
    intro p hp
    cases p <;> first | exact absurd (by decide) hp | rfl | simp [Part.same]

/-! ### The line -/

theorem endSymbol_frame (s : State) : Frame [.symbol, .silence, .monitor] s s.endSymbol := by
  unfold endSymbol
  simp only
  repeat' split
  all_goals
    intro p hp
    cases p <;> first | exact absurd (by decide) hp | rfl | simp [Part.same]

theorem setReceiver_frame (s : State) (r : Receiver) : Frame [.receiver] s (s.setReceiver r) := by
  intro p hp
  cases p <;> first | exact absurd (by decide) hp | rfl | simp [Part.same, setReceiver]

theorem takeQuiet_frame (s : State) : Frame [.silence, .receiver, .counters] s s.takeQuiet := by
  have found : Frame [.silence] s (s.setFramer { s.framer with quietFound := true }) := by
    intro p hp
    cases p <;> first | exact absurd (by decide) hp | rfl | simp [Part.same]
  unfold takeQuiet
  simp only
  repeat' split
  · exact ((found.mono).trans ((count_frame _ _).mono)).trans ((setReceiver_frame _ _).mono)
  · exact (found.mono).trans ((setReceiver_frame _ _).mono)
  · exact found.mono
  · exact Frame.refl _ s

theorem completeGap_frame (s : State) : Frame [.monitor] s s.completeGap := by
  unfold completeGap
  split <;> intro p hp <;> cases p <;> first | exact absurd (by decide) hp | rfl | simp [Part.same]

theorem takeBuffer_frame (s : State) : Frame [.buffers, .ripe] s s.takeBuffer := by
  unfold takeBuffer
  repeat' split
  all_goals
    intro p hp
    cases p <;> first | exact absurd (by decide) hp | rfl | simp [Part.same]

/-! ### The tap port -/

theorem respond_frame (s : State) (result : ResultCode) (data : List Byte) :
    Frame [.transaction] s (s.respond result data) := by
  intro p hp
  cases p <;> first | exact absurd (by decide) hp | rfl | simp [Part.same, respond]

theorem moveTap_frame (s : State) (x : TapState) (sdo : Byte) : Frame [.transaction] s (s.moveTap x sdo) := by
  intro p hp
  cases p <;> first | exact absurd (by decide) hp | rfl | simp [Part.same, moveTap]

/-- A take point changes no more than the transaction, the latch's mark, the line counters and the Arm Unit's lists with
the inputs they release. -/
theorem takePoint_frame (s : State) (cmd : TapCommand) (params : List Byte) :
    Frame [.transaction, .latch, .counters, .outbox, .cancels, .nextId, .filters, .tx] s (s.takePoint cmd params) := by
  unfold takePoint
  split
  · cases cmd
    case readCounters =>
      unfold takeCommand takeReadCounters
      simp only
      split
      · refine ((respond_frame s .accepted (counterBytes s)).mono).trans (?_ : Frame _ _ _)
        intro p hp
        cases p <;> first | exact absurd (by decide) hp | rfl | simp [Part.same, clearCounters]
      · exact (respond_frame s _ _).mono
    case postTrigger =>
      unfold takeCommand takePost
      simp only
      split
      · exact (((createArm_frame s _ _ _).mono).trans ((refreshTx_frame _).mono)).trans ((respond_frame _ _ _).mono)
      · exact (respond_frame s _ _).mono
    case cancelTrigger =>
      exact (((cancelEffect_frame s _).mono).trans ((refreshTx_frame _).mono)).trans ((respond_frame _ _ _).mono)
    all_goals
      intro p hp
      cases p <;> first
        | exact absurd (by decide) hp
        | rfl
        | simp [Part.same, takeCommand, takeReadStatus, respond, takeReadEvent, takeRestart]
  · exact (respond_frame s _ _).mono

/-! ### The end of a reference period -/

/-- The parts that the happenings of a reference period may touch, short of a round close and of the clock's advance. -/
def dueParts : List Part :=
  [.timeFrame, .outbox, .cancels, .armsInFlight, .history, .nextId, .schedule, .outputs, .filters, .events,
    .eventsInFlight, .store, .receiver, .symbol, .silence, .counters, .engine, .monitor, .rotation, .tx, .collisions, .latch,
    .sampled]

/-- The looks of one reading. -/
theorem takeLooks_frame (s : State) :
    Frame [.schedule, .outputs, .store, .outbox, .filters] s s.takeLooks := by
  refine Frame.trans ?_ ((lookStore_frame _).mono)
  refine Frame.trans ?_ ((expireArms_frame _).mono)
  exact ((lookSchedule_frame s).mono).trans ((endPulses_frame _).mono)

theorem takeEnds_frame (s : State) : Frame dueParts s s.takeEnds := by
  refine Frame.trans ?_ ((endFrame_frame _).mono)
  refine Frame.trans ?_ ((completeGap_frame _).mono)
  exact ((takeQuiet_frame s).mono).trans ((endSymbol_frame _).mono)

theorem takeStarts_frame (judged : LineTime) (s : State) : Frame dueParts s (s.takeStarts judged) := by
  refine Frame.trans ?_ ((acceptEdges_frame _ _).mono)
  refine Frame.trans ?_ ((takeSlot_frame _).mono)
  refine Frame.trans ?_ ((refreshTx_frame _).mono)
  exact (endQuash_frame s).mono

theorem takeLine_frame (s : State) : Frame dueParts s s.takeLine := (takeEnds_frame s).trans (takeStarts_frame _ _)

theorem takeDue_frame (s : State) : Frame dueParts s s.takeDue := by
  refine Frame.trans ?_ (takeLine_frame _)
  exact ((sampleInputs_frame s).mono).trans ((takeLooks_frame _).mono)

theorem countPeriod_frame (s : State) :
    Frame [.symbol, .silence, .ripe, .engine, .monitor, .sampled] s s.countPeriod := by
  intro p hp
  have h : s.access.period.rotation = s.access.rotation ∧ s.access.period.tx = s.access.tx ∧
      s.access.period.yield = s.access.yield ∧ s.access.period.collisions = s.access.collisions ∧
      s.access.period.mute = s.access.mute ∧ s.access.period.reportA = s.access.reportA := by
    unfold Access.period
    repeat' split
    all_goals simp
  cases p <;> first | exact absurd (by decide) hp | rfl | simp [Part.same, countPeriod, h]

/-- The reactions to a round boundary. -/
theorem boundaryWork_frame (s : State) :
    Frame [.outputs, .tx, .collisions, .schedule, .store, .outbox, .filters] s s.boundaryWork := by
  refine Frame.trans ?_ ((lookStore_frame _).mono)
  refine Frame.trans ?_ ((expireArms_frame _).mono)
  refine Frame.trans ?_ ((endPulses_frame _).mono)
  refine Frame.trans ?_ ((lookSchedule_frame _).mono)
  exact ((mapOutputs_frame s _).mono).trans ((muteBoundary_frame _).mono)

theorem setAgreement_frame (s : State) (a : Agreement) : Frame [.agreement, .timeFrame] s (s.setAgreement a) := by
  intro p hp
  cases p <;> first | exact absurd (by decide) hp | rfl | simp [Part.same]

theorem setClock_frame (s : State) (c : LineClock) : Frame [.clock] s (s.setClock c) := by
  intro p hp
  cases p <;> first | exact absurd (by decide) hp | rfl | simp [Part.same]

/-- A change of agreement state also reports it, and may make the outputs SAFE or take the transmitter out of OFF. -/
theorem enterAgreement_frame (s : State) (new : AgreementState) :
    Frame [.agreement, .timeFrame, .store, .latch, .outputs, .tx] s (s.enterAgreement new) := by
  have noted : ∀ a, Frame [.agreement, .timeFrame, .store, .latch, .outputs, .tx] s
      (((s.setAgreement a).ownNote .agreement (BitVec.ofNat 8 new.code) 0).setLatch) := fun a =>
    (((setAgreement_frame s a).mono).trans ((ownNote_frame _ _ _ _).mono)).trans ((setLatch_frame _).mono)
  have idle : ∀ t : State, Frame [.tx] t (t.setAccess { t.access with tx := .idle }) := by
    intro t p hp
    cases p <;> first | exact absurd (by decide) hp | rfl | simp [Part.same]
  have driven : Frame [.agreement, .timeFrame, .store, .latch, .outputs, .tx] s
      (if new = .adrift then
        (((s.setAgreement { s.agreement with
          state := new
          clampCount := 0
          progress := 0
          lonelyCount := 0
          driftCount := if new = .adrift then 0 else s.agreement.driftCount }).ownNote .agreement
            (BitVec.ofNat 8 new.code) 0).setLatch).safeOutputs
      else
        (((s.setAgreement { s.agreement with
          state := new
          clampCount := 0
          progress := 0
          lonelyCount := 0
          driftCount := if new = .adrift then 0 else s.agreement.driftCount }).ownNote .agreement
            (BitVec.ofNat 8 new.code) 0).setLatch)) := by
    split
    · exact (noted _).trans ((safeOutputs_frame _).mono)
    · exact noted _
  unfold enterAgreement
  simp only
  split
  · exact driven.trans ((idle _).mono)
  · exact driven

/-- The Agreement Unit's work of a close. -/
theorem closeWork_frame (s : State) (k : CloseFigures) :
    Frame [.agreement, .timeFrame, .store, .latch, .outputs, .tx] s (s.closeWork k) := by
  have marked : ∀ t : State, Frame [.agreement, .timeFrame, .store, .latch, .outputs, .tx] t t.markTimeFrame := by
    intro t
    unfold markTimeFrame
    split
    · exact (setAgreement_frame t _).mono
    · exact Frame.refl _ t
  have moved : ∀ t : State, Frame [.agreement, .timeFrame, .store, .latch, .outputs, .tx] t (t.closeTransition k) := by
    intro t
    unfold closeTransition
    split
    · exact enterAgreement_frame t _
    · split
      · exact Frame.refl _ t
      · unfold closeListening
        simp only
        split
        · exact (((setAgreement_frame t _).mono).trans ((setAgreement_frame _ _).mono)).trans
            (enterAgreement_frame _ _)
        · exact (setAgreement_frame t _).mono
      · unfold closeAlone
        split
        · exact enterAgreement_frame t _
        · exact Frame.refl _ t
      · unfold closeGathering
        repeat' split
        all_goals first | exact enterAgreement_frame t _ | exact (setAgreement_frame t _).mono
      · unfold closeLocked
        repeat' split
        all_goals first | exact enterAgreement_frame t _ | exact (setAgreement_frame t _).mono
      · unfold closeAdrift
        split
        · exact (((setAgreement_frame t _).mono).trans ((setAgreement_frame _ _).mono)).trans
            (enterAgreement_frame _ _)
        · exact (setAgreement_frame t _).mono
  have barred : ∀ t : State, Frame [.agreement, .timeFrame, .store, .latch, .outputs, .tx] t
      (t.noteBarred s.agreement k) := by
    intro t
    refine Frame.foldl (fun t i => ?_) _ t
    split
    · exact (note_frame t _ _ _ _).mono
    · exact Frame.refl _ t
  exact ((((setAgreement_frame s _).mono).trans (barred _)).trans (moved _)).trans (marked _)

theorem flushStore_frame (s : State) : Frame [.store] s s.flushStore := by
  intro p hp
  cases p <;> first | exact absurd (by decide) hp | rfl | simp [Part.same, flushStore]

theorem stepCapture_frame (s : State) : Frame [.filters, .events] s s.stepCapture := by
  intro p hp
  cases p <;> first | exact absurd (by decide) hp | rfl | simp [Part.same, stepCapture]

/-- The step that is made: the clock takes the new line time, and the blocks react. -/
theorem makeStep_frame (s : State) :
    Frame [.clock, .outputs, .filters, .events, .schedule, .store, .outbox] s s.makeStep := by
  unfold makeStep
  split
  · exact Frame.refl _ s
  · refine Frame.trans ?_ ((lookSchedule_frame _).mono)
    refine Frame.trans ?_ ((stepArms_frame _).mono)
    refine Frame.trans ?_ ((stepSchedule_frame _).mono)
    refine Frame.trans ?_ ((stepCapture_frame _).mono)
    exact ((setClock_frame s _).mono).trans ((mapOutputs_frame _ _).mono)

/-- The parts that the Line Clock's work at the end of a period may touch. -/
def clockParts : List Part :=
  [.clock, .agreement, .timeFrame, .latch, .outputs, .tx, .collisions, .schedule, .store, .outbox, .filters, .events]

/-- A step, a close, the clock's advance and the boundary touch no more than these parts. -/
theorem clockPeriod_frame (lookFirst : Bool) (s : State) : Frame clockParts s (s.clockPeriod lookFirst) := by
  have closed : ∀ t : State, Frame clockParts t (if s.advances.closed then t.closeWork s.closeFigures else t) := by
    intro t
    split
    · exact (closeWork_frame t _).mono
    · exact Frame.refl _ t
  have advanced : Frame clockParts s (s.makeStep.setClock s.advances.clock) :=
    ((makeStep_frame s).mono).trans ((setClock_frame _ _).mono)
  have looked : ∀ t : State, Frame clockParts t
      (if lookFirst && (s.clampDue || s.driftDue) then t.lookSchedule else t) := by
    intro t
    split
    · exact (lookSchedule_frame t).mono
    · exact Frame.refl _ t
  unfold clockPeriod
  simp only
  split
  · exact ((advanced.trans (looked _)).trans (closed _)).trans ((boundaryWork_frame _).mono)
  · exact (advanced.trans (looked _)).trans (closed _)

theorem advanceThenStep_frame (s : State) : Frame clockParts s s.advanceThenStep :=
  ((setClock_frame s _).mono).trans (((takeLooks_frame _).mono).trans ((makeStep_frame _).mono))

theorem setFreeIndex_frame (s : State) (x : Nat) : Frame [.freeIndex] s (s.setFreeIndex x) := by
  intro p hp
  cases p <;> first | exact absurd (by decide) hp | rfl | simp [Part.same]

theorem plainClockPeriod_frame (s : State) : Frame (.freeIndex :: clockParts) s s.plainClockPeriod := by
  unfold plainClockPeriod
  split
  · exact (clockPeriod_frame false s).mono
  · refine Frame.trans ?_ ((setFreeIndex_frame _ _).mono)
    split
    · exact (advanceThenStep_frame s).mono
    · exact (clockPeriod_frame false s).mono

/-- The parts that the end of a reference period may touch, whichever command ends it. -/
def periodParts : List Part := .clock :: .agreement :: .ripe :: .lateHandling :: dueParts

theorem markLate_frame (t s : State) : Frame [.lateHandling] t (t.markLate s) := by
  intro p hp
  cases p <;> first | exact absurd (by decide) hp | rfl | simp [Part.same, markLate]

theorem endPeriodNamed_frame (s : State) : Frame periodParts s s.endPeriodNamed := by
  refine Frame.trans ?_ ((markLate_frame _ _).mono)
  refine Frame.trans ?_ ((reportAt_frame _ _).mono)
  refine Frame.trans ?_ ((clockPeriod_frame _ _).mono)
  exact ((takeDue_frame s).mono).trans ((countPeriod_frame _).mono)

theorem setStore_frame (s : State) (st : EventStore) : Frame [.store] s (s.setStore st) := by
  intro p hp
  cases p <;> first | exact absurd (by decide) hp | rfl | simp [Part.same]

/-- The clock's part before the slot start touches no more than the two touch, in whichever order the store takes their records. -/
theorem clockThenStarts_frame (lookFirst : Bool) (s : State) : Frame periodParts s (s.clockThenStarts lookFirst) := by
  have closed : Frame periodParts s (s.clockPeriod lookFirst) := (clockPeriod_frame _ _).mono
  unfold clockThenStarts
  simp only
  split
  · exact closed.trans ((atReadings_frame _ _ _ (takeStarts_frame _)).mono)
  · refine Frame.trans ?_ ((setStore_frame _ _).mono)
    refine Frame.trans ?_ ((atReadings_frame _ _ _ (takeStarts_frame _)).mono)
    exact closed.trans ((setStore_frame _ _).mono)

theorem endPeriodClockFirst_frame (lookFirst : Bool) (s : State) :
    Frame periodParts s (s.endPeriodClockFirst lookFirst) := by
  refine Frame.trans ?_ ((markLate_frame _ _).mono)
  refine Frame.trans ?_ ((reportAt_frame _ _).mono)
  refine Frame.trans ?_ ((countPeriod_frame _).mono)
  refine Frame.trans ?_ (clockThenStarts_frame _ _)
  refine Frame.trans ?_ ((takeEnds_frame _).mono)
  exact ((sampleInputs_frame s).mono).trans ((takeLooks_frame _).mono)

/-- The parts that REFERENCE_PERIOD never touches; a free value is used where a step is handed over (R9, log 5). -/
theorem endPeriod_frame (s : State) : Frame (.freeIndex :: periodParts) s s.endPeriod := by
  unfold endPeriod
  split
  · exact Frame.refl _ s
  · refine Frame.trans ?_ ((markLate_frame _ _).mono)
    refine Frame.trans ?_ ((reportAt_frame _ _).mono)
    refine Frame.trans ?_ ((plainClockPeriod_frame _).mono)
    exact ((takeDue_frame s).mono).trans ((countPeriod_frame _).mono)

/-- Where no step is handed over, REFERENCE_PERIOD ends the period as a named command does. -/
theorem endPeriod_of_not_handed (s : State) (held : s.resetHeld = false) (h : s.clock.handed = none) :
    s.endPeriod = s.endPeriodNamed := by
  have due : s.takeDue.clock = s.clock := (takeDue_frame s).same .clock
  have counted : s.takeDue.countPeriod.clock = s.takeDue.clock := (countPeriod_frame _).same .clock
  have plain : s.takeDue.countPeriod.plainClockPeriod = s.takeDue.countPeriod.clockPeriod false :=
    if_pos (by rw [counted, due, h])
  have ended : s.endPeriod = ((s.takeDue.countPeriod.plainClockPeriod).reportAt s.now).markLate s :=
    if_neg (by simp [held])
  exact ended.trans (congrArg (fun u => markLate (reportAt u s.now) s) plain)

/-! ### Received TIME frames -/

/-- The parts that an adoption may touch: those of the looks, of the Agreement Unit's own part, and of a step made at once. -/
def adoptParts : List Part :=
  [.clock, .agreement, .timeFrame, .store, .latch, .outputs, .tx, .filters, .events, .schedule, .outbox, .freeIndex]

/-- The looks of the present reading, the step handed over, and the Agreement Unit's own part. -/
theorem handAdoption_frame (s : State) (founder : StationId) (offset : Int) :
    Frame adoptParts s (s.handAdoption founder offset) := by
  have noted : ∀ h : State, Frame [.agreement, .timeFrame, .store, .latch, .outputs, .tx] h
      (if s.agreement.state = .gathering then h.stepNote founder
        else (h.stepNote founder).enterAgreement .gathering) := by
    intro h
    split
    · exact (takeRecord_frame h _).mono
    · exact ((takeRecord_frame h _).mono).trans (enterAgreement_frame _ _)
  refine Frame.trans ?_ ((atReading_frame _ _ noted).mono)
  refine Frame.trans ?_ ((setAgreement_frame _ _).mono)
  exact ((takeLooks_frame s).mono).trans (((flushStore_frame _).mono).trans ((setClock_frame _ _).mono))

theorem adoptLate_frame (s : State) : Frame adoptParts s s.adoptLate := by
  refine Frame.trans ?_ ((setFreeIndex_frame _ _).mono)
  split
  · exact (makeStep_frame s).mono
  · exact Frame.refl _ s

/-- An adoption, whether its step is handed over or made at once. -/
theorem adopt_frame (s : State) (founder : StationId) (offset : Int) :
    Frame adoptParts s (s.adopt founder offset) := by
  refine Frame.trans ?_ ((reportAt_frame _ _).mono)
  split
  · exact (handAdoption_frame s _ _).trans (adoptLate_frame _)
  · exact handAdoption_frame s _ _

theorem takeTimeFrame_frame (s : State) (sender : StationId) (state : AgreementState) (founder : StationId)
    (sent stamp : LineTime) (noted : Byte) :
    Frame adoptParts s (s.takeTimeFrame sender state founder sent stamp noted) := by
  have peer : ∀ p, Frame adoptParts s (s.setPeer sender p) := fun p => (setAgreement_frame s _).mono
  unfold takeTimeFrame
  simp only
  repeat' split
  · exact Frame.refl _ s
  · exact peer _
  · exact (peer _).trans (adopt_frame _ _ _)
  · exact peer _

/-- The hand-over of a frame touches only what its owner owns and reacts with. -/
theorem handOver_frame (s : State) (f : ReceivedFrame) :
    Frame (.history :: adoptParts) s (s.handOver f) := by
  unfold handOver
  repeat' split
  · exact Frame.refl _ s
  · exact (takeTimeFrame_frame s _ _ _ _ _ _).mono
  · exact (takeEventFrame_frame s _ _).mono
  · exact (takeArmFrame_frame s _ _).mono
  · exact (takeCancelFrame_frame s _ _).mono

theorem endHandling_frame (s : State) :
    Frame (.history :: .buffers :: .ripe :: adoptParts) s s.endHandling := by
  have freed : ∀ (t : State) (a b : Buffer), Frame [.buffers, .ripe] t
      (t.setFramer { t.framer with bufferA := a, bufferB := b, ripe := false }) := by
    intro t a b p hp
    cases p <;> first | exact absurd (by decide) hp | rfl | simp [Part.same]
  unfold endHandling
  simp only
  repeat' split
  · refine Frame.trans ?_ ((takeBuffer_frame _).mono)
    exact ((handOver_frame s _).mono).trans ((freed _ _ _).mono)
  · refine Frame.trans ?_ ((takeBuffer_frame _).mono)
    exact ((handOver_frame s _).mono).trans ((freed _ _ _).mono)
  · exact Frame.refl _ s
  · exact Frame.refl _ s

end State

end Sys2Proof.Machine
end

