-- ==== Sys2Proof/Laws/Framer.lean ====
section
/-! SUPPORT. What the shared operations of reception can do: the gate of a held reset, counting, and the taking of a
symbol. -/

namespace Sys2Proof.Machine.State

/-- A station that is not held takes the command's effect. -/
theorem unlessHeld_of_released {s : State} (h : s.resetHeld = false) (f : State → State) :
    s.unlessHeld f = f (s.setLateHandling false) := by
  simp [unlessHeld, whileReleased, h]

/-- A station that is held keeps its state. -/
theorem unlessHeld_of_held {s : State} (h : s.resetHeld = true) (f : State → State) : s.unlessHeld f = s := by
  simp [unlessHeld, whileReleased, h]

/-- The end of a handling is taken whether or not it may belong to a period that has been ended. -/
theorem whileReleased_of_released {s : State} (h : s.resetHeld = false) (f : State → State) : s.whileReleased f = f s := by
  simp [whileReleased, h]

theorem whileReleased_of_held {s : State} (h : s.resetHeld = true) (f : State → State) : s.whileReleased f = s := by
  simp [whileReleased, h]

theorem countUp_eq_raised (n : BitVec 16) : countUp n = Safety.raised n := by
  unfold countUp Safety.raised
  by_cases h : n = 0xFFFF
  · simp [h]
  · have : n.toNat ≠ 65535 := fun h' => h (BitVec.eq_of_toNat_eq (by simpa using h'))
    rw [if_neg h, if_neg this]

/-- Counting raises one counter of the Framer and changes nothing else. -/
theorem countAlways_eq (s : State) (c : Counter) :
    s.countAlways c = s.setFramer { s.framer with
      counters := s.framer.counters.set c.index.val (Safety.raised s.framer.counters[c.index]) } := by
  simp [countAlways, counter, countUp_eq_raised]

/-- A receiver counts only while the station does not send. -/
theorem count_of_notTransmitting {s : State} (h : Safety.NotTransmitting s) (c : Counter) :
    s.count c = s.setFramer { s.framer with
      counters := s.framer.counters.set c.index.val (Safety.raised s.framer.counters[c.index]) } := by
  have : s.transmitting = false := by simp [transmitting, h.1, h.2]
  simp [count, this, countAlways_eq]

/-- While the station sends, the receiver counts nothing (R128). -/
theorem count_of_transmitting {s : State} (h : ¬Safety.NotTransmitting s) (c : Counter) : s.count c = s := by
  have : s.transmitting = true := by
    simp only [Safety.NotTransmitting, not_and_or, not_not] at h
    simpa [transmitting] using h
  simp [count, this]

/-- Counting changes no more than the counters. -/
theorem count_framer (s : State) (c : Counter) :
    ∃ counters, s.count c = s.setFramer { s.framer with counters := counters } := by
  unfold count
  split
  · exact ⟨s.framer.counters, rfl⟩
  · exact ⟨_, rfl⟩

/-- A recognised symbol is taken at the sample of its kind bit, and at no other time. -/
theorem recognise_of_recognising {s : State} (h : Safety.Recognising s) (take : State → State) :
    s.recognise take = take (s.setFramer { s.framer with symbol := .recognised 38 }) := by
  simp [recognise, h.2.1, h.2.2, setSymbol]

theorem recognise_otherwise {s : State} (h : ¬Safety.Recognising s) (hr : s.resetHeld = false) (take : State → State) :
    s.recognise take = s := by
  unfold recognise
  split
  · rename_i h'; exact absurd ⟨hr, h'.1, h'.2⟩ h
  · rfl

end Sys2Proof.Machine.State
end

