-- ==== Sys2Proof/Laws/PerInstr.lean ====
section
/-! SUPPORT. Statements about every command as a term, one lemma per constructor. Checks: what the checks of a command term
come to, in the words of the spec. -/

-- One theorem at a time: many theorems elaborated side by side each take a thread with a stack of its own.
set_option Elab.async false

namespace Sys2Proof.Laws.Checks

/-- The check of a command term says just what its rule says of its operand: a peer is a station id 1 to 24 (R30, R31), an
invalid symbol has none of the three contents of 11.2 (R118), an unknown command byte is none of the ten codes of 11.4 (R155),
and a body read has 135 + 6k bytes for a k of at most 48 (11.6). Every other command term is well formed. -/
def Statement : Instr → Prop
  | .peerBarred peer => (Instr.peerBarred peer).wellFormed = true ↔ 1 ≤ peer.toNat ∧ peer.toNat ≤ 24
  | .peerSilentAbsent peer => (Instr.peerSilentAbsent peer).wellFormed = true ↔ 1 ≤ peer.toNat ∧ peer.toNat ≤ 24
  | .barredRoundsEnd peer => (Instr.barredRoundsEnd peer).wellFormed = true ↔ 1 ≤ peer.toNat ∧ peer.toNat ≤ 24
  | .receiveInvalidSymbol content =>
    (Instr.receiveInvalidSymbol content).wellFormed = true ↔ content ≠ 0x96 ∧ content ≠ 0xA5 ∧ content ≠ 0xC3
  | .badCommand code =>
    (Instr.badCommand code).wellFormed = true ↔
      code ≠ 0x01 ∧ code ≠ 0x02 ∧ code ≠ 0x03 ∧ code ≠ 0x04 ∧ code ≠ 0x05 ∧ code ≠ 0x06 ∧ code ≠ 0x07 ∧ code ≠ 0x10 ∧
        code ≠ 0x11 ∧ code ≠ 0x20
  | .bodyReadDone bytes =>
    (Instr.bodyReadDone bytes).wellFormed = true ↔ ∃ k : Nat, k ≤ 48 ∧ bytes.length = 135 + 6 * k
  | .fullReset => Instr.fullReset.wellFormed = true
  | .referencePeriod => Instr.referencePeriod.wellFormed = true
  | .roundClose => Instr.roundClose.wellFormed = true
  | .overtimeEnd => Instr.overtimeEnd.wellFormed = true
  | .listenPeriodEnd => Instr.listenPeriodEnd.wellFormed = true
  | .gatheringProgressLocked => Instr.gatheringProgressLocked.wellFormed = true
  | .gatheringLonelyAlone => Instr.gatheringLonelyAlone.wellFormed = true
  | .lockedLonelyAlone => Instr.lockedLonelyAlone.wellFormed = true
  | .clampLimitAdrift => Instr.clampLimitAdrift.wellFormed = true
  | .driftLimitRefound => Instr.driftLimitRefound.wellFormed = true
  | .muteEnd => Instr.muteEnd.wellFormed = true
  | .scheduleEntryDue => Instr.scheduleEntryDue.wellFormed = true
  | .pulseEnd output => (Instr.pulseEnd output).wellFormed = true
  | .armExpired armId => (Instr.armExpired armId).wellFormed = true
  | .settle => Instr.settle.wellFormed = true
  | .inputChange input level => (Instr.inputChange input level).wellFormed = true
  | .edgeAccepted => Instr.edgeAccepted.wellFormed = true
  | .symbolConfirmed => Instr.symbolConfirmed.wellFormed = true
  | .symbolEnded => Instr.symbolEnded.wellFormed = true
  | .gapComplete => Instr.gapComplete.wellFormed = true
  | .quiet => Instr.quiet.wellFormed = true
  | .receiveOpen => Instr.receiveOpen.wellFormed = true
  | .receiveDataSymbol byte => (Instr.receiveDataSymbol byte).wellFormed = true
  | .receiveQuash => Instr.receiveQuash.wellFormed = true
  | .receiveShut => Instr.receiveShut.wellFormed = true
  | .frameHandlingEnd => Instr.frameHandlingEnd.wellFormed = true
  | .slotStart => Instr.slotStart.wellFormed = true
  | .symbolReadback bits => (Instr.symbolReadback bits).wellFormed = true
  | .frameGoodEnd => Instr.frameGoodEnd.wellFormed = true
  | .quashEnd => Instr.quashEnd.wellFormed = true
  | .scsFall => Instr.scsFall.wellFormed = true
  | .scsRise => Instr.scsRise.wellFormed = true
  | .restart => Instr.restart.wellFormed = true
  | .readStatus => Instr.readStatus.wellFormed = true
  | .readCounters clearOption => (Instr.readCounters clearOption).wellFormed = true
  | .readPeer id => (Instr.readPeer id).wellFormed = true
  | .readSchedule position => (Instr.readSchedule position).wellFormed = true
  | .readOutbox position => (Instr.readOutbox position).wellFormed = true
  | .countEvents => Instr.countEvents.wellFormed = true
  | .readEvent => Instr.readEvent.wellFormed = true
  | .postTrigger lastByte => (Instr.postTrigger lastByte).wellFormed = true
  | .cancelTrigger armId => (Instr.cancelTrigger armId).wellFormed = true
  | .readEventResponseBegin => Instr.readEventResponseBegin.wellFormed = true
  | .transactionDone => Instr.transactionDone.wellFormed = true
  | .readUnanswered => Instr.readUnanswered.wellFormed = true
  | .headReadDone byte0 byte1 byte2 byte3 => (Instr.headReadDone byte0 byte1 byte2 byte3).wellFormed = true
  | .tapByteCompleted byte => (Instr.tapByteCompleted byte).wellFormed = true
  | .symbolBegins => Instr.symbolBegins.wellFormed = true
  | .startBitGlitch => Instr.startBitGlitch.wellFormed = true
  | .resetReleased => Instr.resetReleased.wellFormed = true

/-- A station id is valid exactly from 1 to 24. -/
theorem validStationId_iff (id : StationId) : validStationId id = true ↔ 1 ≤ id.toNat ∧ id.toNat ≤ 24 := by
  simp [validStationId]

/-- The lengths of a body read. -/
theorem validBodyLength_iff (n : Nat) : validBodyLength n = true ↔ ∃ k : Nat, k ≤ 48 ∧ n = 135 + 6 * k := by
  simp only [validBodyLength, Bool.and_eq_true, decide_eq_true_eq, beq_iff_eq]
  constructor
  · intro h
    exact ⟨(n - 135) / 6, by omega, by omega⟩
  · rintro ⟨k, hk, rfl⟩
    omega

theorem fullReset : Statement .fullReset := rfl

theorem referencePeriod : Statement .referencePeriod := rfl

theorem roundClose : Statement .roundClose := rfl

theorem overtimeEnd : Statement .overtimeEnd := rfl

theorem peerBarred (peer : StationId) : Statement (.peerBarred peer) := validStationId_iff peer

theorem peerSilentAbsent (peer : StationId) : Statement (.peerSilentAbsent peer) := validStationId_iff peer

theorem barredRoundsEnd (peer : StationId) : Statement (.barredRoundsEnd peer) := validStationId_iff peer

theorem listenPeriodEnd : Statement .listenPeriodEnd := rfl

theorem gatheringProgressLocked : Statement .gatheringProgressLocked := rfl

theorem gatheringLonelyAlone : Statement .gatheringLonelyAlone := rfl

theorem lockedLonelyAlone : Statement .lockedLonelyAlone := rfl

theorem clampLimitAdrift : Statement .clampLimitAdrift := rfl

theorem driftLimitRefound : Statement .driftLimitRefound := rfl

theorem muteEnd : Statement .muteEnd := rfl

theorem scheduleEntryDue : Statement .scheduleEntryDue := rfl

theorem pulseEnd (output : Fin 8) : Statement (.pulseEnd output) := rfl

theorem armExpired (armId : Byte) : Statement (.armExpired armId) := rfl

theorem settle : Statement .settle := rfl

theorem inputChange (input : Fin 8) (level : Bool) : Statement (.inputChange input level) := rfl

theorem edgeAccepted : Statement .edgeAccepted := rfl

theorem symbolConfirmed : Statement .symbolConfirmed := rfl

theorem symbolEnded : Statement .symbolEnded := rfl

theorem gapComplete : Statement .gapComplete := rfl

theorem quiet : Statement .quiet := rfl

theorem receiveOpen : Statement .receiveOpen := rfl

theorem receiveDataSymbol (byte : Byte) : Statement (.receiveDataSymbol byte) := rfl

theorem receiveQuash : Statement .receiveQuash := rfl

theorem receiveInvalidSymbol (content : Byte) : Statement (.receiveInvalidSymbol content) := by
  simp [Statement, Instr.wellFormed, controlPatterns]

theorem receiveShut : Statement .receiveShut := rfl

theorem frameHandlingEnd : Statement .frameHandlingEnd := rfl

theorem slotStart : Statement .slotStart := rfl

theorem symbolReadback (bits : BitVec 10) : Statement (.symbolReadback bits) := rfl

theorem frameGoodEnd : Statement .frameGoodEnd := rfl

theorem quashEnd : Statement .quashEnd := rfl

theorem scsFall : Statement .scsFall := rfl

theorem scsRise : Statement .scsRise := rfl

theorem restart : Statement .restart := rfl

theorem readStatus : Statement .readStatus := rfl

theorem readCounters (clearOption : Byte) : Statement (.readCounters clearOption) := rfl

theorem readPeer (id : Byte) : Statement (.readPeer id) := rfl

theorem readSchedule (position : Byte) : Statement (.readSchedule position) := rfl

theorem readOutbox (position : Byte) : Statement (.readOutbox position) := rfl

theorem countEvents : Statement .countEvents := rfl

theorem readEvent : Statement .readEvent := rfl

theorem postTrigger (lastByte : Byte) : Statement (.postTrigger lastByte) := rfl

theorem cancelTrigger (armId : Byte) : Statement (.cancelTrigger armId) := rfl

theorem badCommand (code : Byte) : Statement (.badCommand code) := by
  simp [Statement, Instr.wellFormed, tapCodes]

theorem readEventResponseBegin : Statement .readEventResponseBegin := rfl

theorem transactionDone : Statement .transactionDone := rfl

theorem readUnanswered : Statement .readUnanswered := rfl

theorem headReadDone (byte0 : Byte) (byte1 : Byte) (byte2 : Byte) (byte3 : Byte) : Statement (.headReadDone byte0 byte1 byte2 byte3) := rfl

theorem bodyReadDone (bytes : List Byte) : Statement (.bodyReadDone bytes) := validBodyLength_iff bytes.length

theorem tapByteCompleted (byte : Byte) : Statement (.tapByteCompleted byte) := rfl

theorem symbolBegins : Statement .symbolBegins := rfl

theorem startBitGlitch : Statement .startBitGlitch := rfl

theorem resetReleased : Statement .resetReleased := rfl

end Sys2Proof.Laws.Checks
end

