-- ==== Sys2Proof/Laws/Report.lean ====
section
/-! SUPPORT. Laws of the reports of pending content (R49, R143): what a report changes, once, and what an operation of the Access
Unit leaves of the owners' content. -/

set_option Elab.async false

namespace Sys2Proof.Machine.State

@[simp] theorem classA_setAccess (s : State) (a : Access) : (s.setAccess a).classA = s.classA := rfl
@[simp] theorem classB_setAccess (s : State) (a : Access) : (s.setAccess a).classB = s.classB := rfl
@[simp] theorem contentPending_setAccess (s : State) (a : Access) :
    (s.setAccess a).contentPending = (a.reportA || s.classB) := rfl

/-- The transmitter's move by the reports as they stand changes no more than the transmitter state. -/
theorem moveTx_eq (s : State) :
    s.moveTx = s.setAccess { s.access with
      tx := if s.access.tx = .idle ∨ s.access.tx = .waiting then (if s.contentPending then .waiting else .idle)
        else s.access.tx } := by
  unfold moveTx setTx
  split
  · rfl
  · rfl

/-- A report at a reading changes the report of class A, and a transmitter in IDLE or WAITING, and nothing else. -/
theorem reportAt_eq (s : State) (t : LineTime) :
    s.reportAt t = s.setAccess { s.access with
      reportA := (s.setClock { s.clock with now := t }).classA
      tx := if s.access.tx = .idle ∨ s.access.tx = .waiting then
          (if (s.setClock { s.clock with now := t }).classA || s.classB then .waiting else .idle)
        else s.access.tx } := by
  unfold reportAt
  rw [moveTx_eq]
  rfl

/-- The reports as the content stands now. -/
theorem refreshTx_eq (s : State) :
    s.refreshTx = s.setAccess { s.access with
      reportA := s.classA
      tx := if s.access.tx = .idle ∨ s.access.tx = .waiting then (if s.classA || s.classB then .waiting else .idle)
        else s.access.tx } := reportAt_eq s s.now

theorem refreshTx_reported (s : State) : Safety.Reported s s.refreshTx := by
  rw [refreshTx_eq]
  rfl

/-- A transmitter outside IDLE and WAITING does not follow the reports. -/
theorem refreshTx_tx_of_busy {s : State} (h1 : s.access.tx ≠ .idle) (h2 : s.access.tx ≠ .waiting) :
    s.refreshTx.access.tx = s.access.tx := by
  simp [refreshTx_eq, h1, h2]

/-- A report leaves the slot, the rotation and the collisions as they are. -/
@[simp] theorem reportAt_slotDue (s : State) (t : LineTime) : (s.reportAt t).slotDue = s.slotDue := by
  rw [reportAt_eq]
  rfl

end Sys2Proof.Machine.State
end

