-- ==== Sys2Proof/Laws/Step.lean ====
section
/-! SUPPORT. Laws of the adoption step: the clock with and without a step handed over, and what making the step leaves in it; an
adoption whose step is handed over or made at once; and the period whose close enters or leaves ADRIFT. -/

set_option Elab.async false

namespace Sys2Proof.Machine

@[simp] theorem LineClock.stepped_of_none (c : LineClock) (h : c.handed = none) : c.stepped = c := by
  simp [LineClock.stepped, h]

@[simp] theorem LineClock.stepped_of_some (c : LineClock) (new : LineTime) (h : c.handed = some new) :
    c.stepped = { c with now := new, overtime := 0, handed := none } := by
  simp [LineClock.stepped, h]

@[simp] theorem LineClock.stepped_handed (c : LineClock) : c.stepped.handed = none := by
  cases h : c.handed <;> simp [h]

namespace State

@[simp] theorem storeNow_of_none (s : State) (h : s.clock.handed = none) : s.storeNow = s.now := by
  simp [storeNow, now, h]

@[simp] theorem storeNow_of_some (s : State) (new : LineTime) (h : s.clock.handed = some new) : s.storeNow = new := by
  simp [storeNow, h]

@[simp] theorem makeStep_of_none (s : State) (h : s.clock.handed = none) : s.makeStep = s := by
  unfold makeStep
  rw [h]

/-- What is run at other readings leaves the clock as it was. -/
@[simp] theorem atReadings_clock (s : State) (t store : LineTime) (f : State → State) :
    (s.atReadings t store f).clock = s.clock := rfl

@[simp] theorem atReading_clock (s : State) (t : LineTime) (f : State → State) : (s.atReading t f).clock = s.clock := rfl

/-- Where no step has come first, a request finds the arms as they are. -/
@[simp] theorem stepArmsFirst_now (s : State) : s.stepArmsFirst s.now = s := by
  simp [stepArmsFirst]

/-- Where no step has been handed over, ARM_EXPIRED goes by the reading alone (R53). -/
theorem expireArmOf_of_none (s : State) (id : Byte) (h : s.clock.handed = none) :
    s.expireArmOf id = s.expireWhere fun r => r.id == id && s.armPassed r := by
  simp [expireArmOf, h]

/-- A step that is handed over changes of the clock only what is handed over. -/
@[simp] theorem handStep_clock (s : State) (new : LineTime) : (s.handStep new).clock = { s.clock with handed := some new } :=
  rfl

/-- An adoption hands its step over, but where its handling may belong to a period whose close has been taken. -/
theorem adopt_of_not_late (s : State) (founder : StationId) (offset : Int) (h : s.lateHandling = false) :
    s.adopt founder offset = (s.handAdoption founder offset).reportAt s.now := by
  simp [adopt, h]

/-- Where it may, the step is handed over or made at once; a free value is used either way. -/
theorem adopt_of_late (s : State) (founder : StationId) (offset : Int) (h : s.lateHandling = true) :
    ∃ made, (made = s.handAdoption founder offset ∨ made = (s.handAdoption founder offset).makeStep) ∧
      s.adopt founder offset =
        (made.setFreeIndex ((s.handAdoption founder offset).freeIndex + 1)).reportAt s.now := by
  cases f : Config.stepInClosedPeriod (s.handAdoption founder offset).freeIndex
  · exact ⟨_, .inl rfl, by simp [adopt, h, adoptLate, f]⟩
  · exact ⟨_, .inr rfl, by simp [adopt, h, adoptLate, f]⟩

@[simp] theorem notedCount_of_none (s : State) (h : s.clock.handed = none) : s.notedCount = s.agreement.adjustCount := by
  simp [notedCount, h]

/-- Where the reading stays, the slot start follows the close as it is. -/
theorem clockThenStarts_of_same_reading (s : State) (lookFirst : Bool)
    (h : (s.clockPeriod lookFirst).storeNow = s.storeNow) :
    s.clockThenStarts lookFirst = (s.clockPeriod lookFirst).atReadings s.now s.storeNow (takeStarts s.storeNow) := by
  simp [clockThenStarts, h]

/-- In either order the Line Clock stands after the clock's part alone. -/
@[simp] theorem clockThenStarts_clock (s : State) (lookFirst : Bool) :
    (s.clockThenStarts lookFirst).clock = (s.clockPeriod lookFirst).clock := by
  unfold clockThenStarts
  simp only
  split <;> rfl

/-- Whether the Schedule looks before the close matters only where the close enters or leaves ADRIFT (R76). -/
theorem clockPeriod_of_not_turning (s : State) (lookFirst : Bool) (h : (s.clampDue || s.driftDue) = false) :
    s.clockPeriod lookFirst = s.clockPeriod false := by
  simp [clockPeriod, h]

end State

end Sys2Proof.Machine
end

