-- ==== Sys2Proof/Tests/Slice0.lean ====
section
/-! SUPPORT. Tests: the checks of command terms, the spec's worked examples, and for each statement with hypotheses a named
witness, a concrete station and operands that meet them. -/

-- One theorem at a time: many theorems elaborated side by side each take a thread with a stack of its own.
set_option Elab.async false

namespace Sys2Proof.Tests

open Sys2Proof.Machine Sys2Proof.Safety

/-! ### The checks refuse ill-formed terms -/

theorem test_peer_zero_refused : (Instr.peerBarred 0).wellFormed = false := by decide
theorem test_peer_25_refused : (Instr.peerSilentAbsent 25).wellFormed = false := by decide
theorem test_barred_peer_255_refused : (Instr.barredRoundsEnd 255).wellFormed = false := by decide
theorem test_peer_24_taken : (Instr.peerBarred 24).wellFormed = true := by decide
theorem test_open_pattern_is_no_invalid_symbol : (Instr.receiveInvalidSymbol 0x96).wellFormed = false := by decide
theorem test_zeros_are_an_invalid_symbol : (Instr.receiveInvalidSymbol 0).wellFormed = true := by decide
theorem test_read_status_is_no_bad_command : (Instr.badCommand 0x01).wellFormed = false := by decide
theorem test_code_8_is_a_bad_command : (Instr.badCommand 0x08).wellFormed = true := by decide
theorem test_short_body_read_refused : (Instr.bodyReadDone [0, 0, 0]).wellFormed = false := by decide

/-! ### Worked examples of chapter 1 (L = 200,000) -/

/-- 1.4: the difference from 16,777,214:190000 to 1:5000. -/
theorem test_difference_across_the_wrap : timeDiff 200000 ⟨16777214, 190000⟩ ⟨1, 5000⟩ = 415000 := by decide
/-- 1.4: the difference from 1204:150000 to 1204:149000. -/
theorem test_difference_within_a_round : timeDiff 200000 ⟨1204, 150000⟩ ⟨1204, 149000⟩ = -1000 := by decide
/-- 1.4: 16,777,215:195000 + 12,000 ticks. -/
theorem test_addition_wraps_the_round : timeAdd 200000 ⟨16777215, 195000⟩ 12000 = ⟨0, 7000⟩ := by decide
/-- 1.4: 1204:3000 + (-65,535) ticks. -/
theorem test_addition_of_a_negative_offset : timeAdd 200000 ⟨1204, 3000⟩ (-65535) = ⟨1203, 137465⟩ := by decide
/-- 1.4: 1204:150000 + 250 rounds. -/
theorem test_addition_of_rounds : timeAddRounds ⟨1204, 150000⟩ 250 = ⟨1454, 150000⟩ := by decide
/-- 1.3: c = +25 moves a trim of +10 to +72, and c = -30 moves +72 to -3. -/
theorem test_trim_at_two_closes : trimAfter 200000 25 10 = 72 ∧ trimAfter 200000 (-30) 72 = -3 := by decide
/-- 2.9: the offset of the adopting frame, and the new time. -/
theorem test_adoption_offset :
    timeDiff 200000 ⟨2, 3900⟩ (timeAdd 200000 ⟨3071, 1800⟩ 60) = 613797960 ∧
      timeAdd 200000 ⟨2, 4150⟩ 613797960 = ⟨3071, 2110⟩ := by decide

/-! ### Worked examples of chapters 2, 7, 8 and 11 -/

/-- 2.8: the unclamped corrections of four closes. -/
theorem test_corrections_of_four_closes :
    rawCorrection [18, -6, 230] = 9 ∧ rawCorrection [7, -14, 221] = 3 ∧ rawCorrection [2, -10, 215] = 1 ∧
      rawCorrection [1, -7] = 0 := by decide
/-- 11.2: the OPEN, bit 0 first: start bit low, 0x96 least significant bit first, kind bit 0. -/
theorem test_open_symbol_bits : DrivenSymbol.opening.bits = 0b0100101100#10 := by decide
/-- 11.2: the SHUT and the QUASH, and a data symbol of the same content as the SHUT, whose kind bit is 1. -/
theorem test_shut_quash_and_data_bits :
    DrivenSymbol.shut.bits = 0b0101001010#10 ∧ DrivenSymbol.quash.bits = 0b0110000110#10 ∧
      (DrivenSymbol.data 0xA5).bits = 0b1101001010#10 := by decide
/-- R121: with every stage at 1, a bit of 1 equals stage 15, and stage 0 becomes 0; a bit of 0 differs, and stages 0, 2 and 15
are inverted. -/
theorem test_one_check_bit :
    checkBit checkStart true = 0xFFFE ∧ checkBit checkStart false = 0x7FFB := by decide
/-- R177: the three-byte field of 5001 (0x001389), least significant byte first. -/
theorem test_field_order : leBytes 3 5001 = [0x89, 0x13, 0x00] ∧ leValue [0x89, 0x13, 0x00] = 5001 := by decide
/-- R177: -75 in two's complement. -/
theorem test_signed_field : leBytesSigned 2 (-75) = [0xB5, 0xFF] ∧ leSigned 2 [0xB5, 0xFF] = -75 := by decide

/-! ### Stations for the tests -/

/-- The configuration of the worked examples: L = 200,000, S = 40, M = 8,000, H = 2, send count 2. IN2 is that of 5.7, OUT0 a
LEVEL output, OUT1 that of 4.11, OUT3 a LEVEL output with its log flag, OUT6 a ROUND output. -/
def config : StationConfig where
  id := 5
  roundLength := 200000
  stepLimit := 40
  lineDelay := 60
  margin := 8000
  sendCount := 2
  horizon := 2
  attention := true
  inputs := #v[⟨.both, 3, true, 0, .rise, 0⟩, ⟨.both, 3, false, 0, .rise, 0⟩, ⟨.rise, 400, true, 17, .rise, 300000⟩,
    ⟨.off, 0, false, 0, .rise, 0⟩, ⟨.off, 0, false, 0, .rise, 0⟩, ⟨.both, 1000, true, 0, .rise, 0⟩,
    ⟨.off, 0, false, 0, .rise, 0⟩, ⟨.off, 0, false, 0, .rise, 0⟩]
  outputs := #v[⟨.level, false, false, 0, false⟩, ⟨.pulse, false, false, 4000, false⟩, ⟨.off, false, false, 0, false⟩,
    ⟨.level, false, true, 0, true⟩, ⟨.off, true, true, 0, false⟩, ⟨.level, false, false, 0, false⟩,
    ⟨.round, false, false, 0, false⟩, ⟨.off, false, false, 0, false⟩]
  bindings := [⟨17, 1, .fire, -2000⟩]

/-- A loaded station in an agreement state under founder 3 at a line time. -/
def station (state : AgreementState) (now : LineTime) : State :=
  { State.reset with
    clock := { LineClock.reset with running := true, now := now }
    agreement := { Agreement.reset with state := state, founder := some 3 }
    config := config
    loader := ⟨.loaded, .none, 0, .none, []⟩
    outputs := Vector.ofFn fun i => Output.safe config.outputs[i]
    framer := { Framer.reset with receiver := .waitOpen }
    access := { Access.reset with monitor := .window, tx := .idle } }

/-- A station whose transmitter is OFF. -/
def still (state : AgreementState) (now : LineTime) : State :=
  { station state now with access := { Access.reset with monitor := .window } }

/-- A LIVE peer with a fresh offset, LOCKED under founder 3. -/
def livePeer (offset : Int) : Peer := ⟨.live, some offset, some 1204, true, true, some .locked, some 3, 0, 0, 0⟩

/-- `s` with the entry of a peer. -/
def withPeer (s : State) (i : Fin 24) (p : Peer) : State :=
  { s with agreement := { s.agreement with peers := s.agreement.peers.set i.val p } }

/-- A station about to close round 1204. -/
def closing (state : AgreementState) : State := station state ⟨1204, 199999⟩

/-- A station whose tap port is in a transaction state with a command and its parameter bytes so far. -/
def tapping (s : State) (x : TapState) (cmd : Option TapCommand) (params : List Byte) : State :=
  { s with tap := { Tap.reset with state := x, command := cmd, params := params } }

/-- A station whose receiver has come to a symbol's recognition. -/
def recognising (s : State) (r : Receiver) : State :=
  { s with
    clock := { s.clock with startBit := some ⟨1204, 0⟩ }
    framer := { s.framer with receiver := r, symbol := .confirmed 38, startCount := some 0 } }

/-- A station handling a received frame in buffer A. -/
def handling (s : State) (kind : FrameKind) (sender : StationId) (body : List Byte) (stamp : LineTime) : State :=
  { s with framer := { s.framer with bufferA := .handling ⟨kind, sender, body, stamp, 0⟩, ripe := true } }

/-- A station whose engine sends a frame. -/
def sending (s : State) (e : Engine) : State :=
  { s with framer := { s.framer with engine := some e }, access := { s.access with tx := .sending } }

/-- A record of the arm outbox from the tap. -/
def tapArm (id : Byte) (action : LineTime) (effective : Bool) : ArmRecord :=
  ⟨id, 17, action, .tap, if effective then 1 else 0, effective, if effective then some 5000 else none⟩

/-- `s` with an arm outbox. -/
def withArms (s : State) (rs : List ArmRecord) : State := { s with arms := { s.arms with outbox := rs } }

/-- What a command answers, when the part of the state looked at satisfies `p`. -/
def gives (o : Host.Outcome State Fault Refusal) (p : State → Bool) : Bool :=
  match o with
  | .next t => p t
  | _ => false

/-! ### Witnesses: the station as a machine, and the resets -/

theorem witness_StepTakesTheFrontCommand :
    ({ State.reset with pending := [.settle, .quiet] } : State).pending = .settle :: [.quiet] ∧
      State.reset.pending = [] := ⟨rfl, rfl⟩

theorem witness_HeldStationWaitsForItsRelease :
    State.reset.fullReset.resetHeld = true ∧ Instr.settle ≠ .fullReset ∧ Instr.settle ≠ .resetReleased ∧
      (∀ i level, Instr.settle ≠ .inputChange i level) ∧ State.reset.resetHeld = false := by
  refine ⟨rfl, by decide, by decide, (fun _ _ h => by cases h), rfl⟩

/-- A station that has taken a RESTART, with a frame at symbol `index` of one data symbol in a course. -/
def restarting (index : Nat) (course : EngineCourse) (records : Nat) (loader : LoaderState) : State :=
  { station .locked ⟨1204, 7⟩ with
    tap := { Tap.reset with state := .done, restartTaken := true }
    loader := ⟨loader, .none, 0, .none, []⟩
    framer := { Framer.reset with engine := some ⟨.time, [1], ⟨1204, 0⟩, index, 0, false, course, false⟩ }
    store := { EventStore.reset with
      lane := List.replicate records ⟨.note .acted 0, 5, true, 0, ⟨1204, 0⟩, false, false, false⟩ } }

theorem witness_RestartTakesEffectAsScsRises :
    (∀ s ∈ [restarting 0 .frame 0 .loaded, restarting 1 .frame 127 .fault, restarting 2 .frame 128 .loaded,
        restarting 0 .quash 128 .fault, restarting 1 .abandon 0 .loaded, restarting 2 .abandon 0 .loaded],
      s.resetHeld = false ∧ s.tap.state ≠ .idle ∧ s.tap.restartTaken = true ∧ s.tap.eventRead = .none) ∧
      (restarting 1 .frame 127 .fault).store.settling.length +
        (restarting 1 .frame 127 .fault).store.lane.length < 128 ∧
      (restarting 2 .frame 128 .loaded).store.lane.length = 128 ∧
      ([1] : List Byte).length < ((restarting 2 .abandon 0 .loaded).framer.engine.map (·.index)).getD 0 :=
  ⟨by decide, by simp [restarting, EventStore.reset], by simp [restarting], by decide⟩

/-! ### Witnesses: line time -/

theorem witness_TimeAdditionFollowsTheFourSteps :
    0 < 20000 ∧ (⟨16777215, 19999⟩ : LineTime).phase < 20000 := by decide

theorem witness_TimeDifferenceOrdersLineTimes :
    (⟨0, 0⟩ : LineTime).phase < 20000 ∧ (⟨8388608, 19999⟩ : LineTime).phase < 20000 ∧
      (8388608 : Round) - 0 = 8388608 ∧ (8388607 : Round) - 0 ≠ 8388608 := by decide

/-- A running station with a trim and a pace count. -/
def pacing (trim : Int) (pace : Nat) (phase : Nat) : State :=
  { station .locked ⟨1204, phase⟩ with
    clock := { LineClock.reset with running := true, now := ⟨1204, phase⟩, trim := trim, pace := pace } }

theorem witness_ReferencePeriodAdvancesTheClock :
    (∀ s ∈ [pacing 200 999799 199997, pacing 200 999800 199997, pacing (-1) 999999 0],
      s.resetHeld = false ∧ s.clock.overtime = 0 ∧ s.clock.handed = none ∧ s.clock.running = true ∧
        s.clock.now.phase + 2 < s.config.roundLength) ∧
      (pacing 200 999799 199997).clock.pace + (pacing 200 999799 199997).clock.trim.natAbs < 1000000 ∧
      1000000 ≤ (pacing 200 999800 199997).clock.pace + (pacing 200 999800 199997).clock.trim.natAbs ∧
      1000000 ≤ (pacing (-1) 999999 0).clock.pace + (pacing (-1) 999999 0).clock.trim.natAbs ∧
      State.reset.clock.running = false ∧ State.reset.clock.overtime = 0 ∧ State.reset.clock.handed = none := by decide

/-- A command that changes line time, one that does not, and one that leaves the mark of a late handling. -/
theorem witness_LineTimeChangesAtPeriodEndsAndResets :
    (∃ t, exec .fullReset (pacing 0 0 7) = .next t ∧ t.clock.now ≠ (pacing 0 0 7).clock.now) ∧
      (∃ t, exec .settle (pacing 0 0 7) = .next t) ∧ EndsPeriod .roundClose ∧ EndsPeriod (.barredRoundsEnd 24) ∧
      ¬EndsPeriod .settle ∧ (handling (closing .locked) .cancel 3 [1, 0] .zero).resetHeld = false ∧
      ∃ t, exec .roundClose (handling (closing .locked) .cancel 3 [1, 0] .zero) = .next t ∧ t.lateHandling = true := by
  refine ⟨⟨_, rfl, ?_⟩, ⟨_, rfl⟩, .inl (by decide), .inr ⟨24, .inr (.inr rfl)⟩, ?_, rfl, _, rfl, ?_⟩
  · decide
  · rintro (h | ⟨_, h | h | h⟩)
    · revert h
      decide
    all_goals cases h
  · decide +kernel

/-- `s` in an overtime. -/
def inOvertime (s : State) (n : Nat) : State := { s with clock := { s.clock with overtime := n } }

/-- An overtime of two ticks in a plain period and of three in a doubled one. -/
theorem witness_OvertimeIsSpent :
    SingleAdvance (inOvertime (pacing (-200) 999799 199999) 2) ∧
      2 ≤ (inOvertime (pacing (-200) 999799 199999) 2).clock.overtime ∧
      DoubleAdvance (inOvertime (pacing 200 999800 199999) 3) ∧
      3 ≤ (inOvertime (pacing 200 999800 199999) 3).clock.overtime := by
  unfold SingleAdvance DoubleAdvance
  decide

/-- Withheld advances at the last phase and in an overtime, a single one from the last phase but one, and a stopped clock at any
phase. -/
theorem witness_AdvancesAtTheLastPhases :
    (∀ s ∈ [pacing (-1) 999999 199999, inOvertime (pacing (-200) 999800 199999) 3, pacing 200 999799 199998, pacing 0 0 199998],
      s.resetHeld = false ∧ s.clock.handed = none ∧ s.clock.running = true) ∧
      1000000 ≤ (pacing (-1) 999999 199999).clock.pace + (pacing (-1) 999999 199999).clock.trim.natAbs ∧
      1000000 ≤ (inOvertime (pacing (-200) 999800 199999) 3).clock.pace +
        (inOvertime (pacing (-200) 999800 199999) 3).clock.trim.natAbs ∧
      (pacing (-1) 999999 199999).clock.trim < 0 ∧
      (pacing 200 999799 199998).clock.now.phase + 1 < (pacing 200 999799 199998).config.roundLength ∧
      (pacing 200 999799 199998).clock.pace + (pacing 200 999799 199998).clock.trim.natAbs < 1000000 ∧
      (pacing 200 999799 199998).clock.overtime = 0 := by decide

/-- A station whose line monitor stands at given counts. -/
def monitoring (m : Monitor) (gap index count : Nat) : State :=
  { station .locked ⟨1204, 7⟩ with
    access := { Access.reset with monitor := m, gapCount := gap, slotIndex := index, slotCount := count, slotTaken := true } }

/-- A station with a symbol on LRX, the silence and an engine. -/
def onLine (y : LineSymbol) (silence : Nat) (e : Option Engine) : State :=
  let s := monitoring .busy 0 0 0
  { s with framer := { s.framer with symbol := y, silence := silence, engine := e } }

/-- An engine of three data symbols. -/
def engineAt (index age : Nat) (readWell : Bool) (course : EngineCourse) : Engine :=
  ⟨.time, [1, 2, 3], ⟨1204, 0⟩, index, age, readWell, course, false⟩

/-- The line monitor's, the symbol's and the silence's clauses, each at the ends of its range. -/
theorem witness_LineCounts :
    (∀ s ∈ [monitoring .gap 119 0 0, monitoring .gap 120 0 0, monitoring .window 0 5 38, monitoring .window 0 71 39,
        onLine (.recognised 40) 40 none, onLine (.confirmed 38) 0 none, onLine (.begun .zero 3 2) 40 none,
        onLine .none 39 none],
      s.resetHeld = false ∧ s.framer.receiver ≠ .off) ∧
      (monitoring .gap 119 0 0).access.gapCount < 120 ∧ (monitoring .gap 120 0 0).access.gapCount = 120 ∧
      (monitoring .window 0 5 38).access.slotCount < 39 ∧ (monitoring .window 0 71 39).access.slotCount = 39 ∧
      (onLine (.recognised 40) 40 none).access.monitor = .busy ∧
      (onLine (.recognised 40) 40 none).framer.symbol = .recognised 40 ∧
      (onLine (.begun .zero 3 2) 40 none).framer.silence = 40 ∧ (onLine .none 39 none).framer.silence < 40 := by decide

/-- The engine's clauses: within a symbol, at its readback, at its end in each course, and at the end of a frame. -/
theorem witness_EngineClauses :
    (∀ e ∈ [engineAt 1 37 false .frame, engineAt 1 38 true .frame, engineAt 1 38 false .frame, engineAt 3 39 true .frame,
        engineAt 4 39 true .frame, engineAt 2 39 false .abandon, engineAt 2 39 false .quash, engineAt 4 40 true .frame,
        engineAt 2 40 false .quash],
      (onLine .none 0 (some e)).framer.engine = some e ∧ (onLine .none 0 (some e)).resetHeld = false ∧
        NoSlotStart (onLine .none 0 (some e))) ∧
      (engineAt 3 39 true .frame).index ≤ (engineAt 3 39 true .frame).bytes.length ∧
      (engineAt 4 39 true .frame).bytes.length < (engineAt 4 39 true .frame).index ∧
      (onLine .none 0 none).framer.engine = none := by
  unfold NoSlotStart
  decide

/-- The closing station of these tests meets the conditions of a close. -/
theorem closingNow (state : AgreementState) (i : Fin 24) (p : Peer) : ClosingNow (withPeer (closing state) i p) :=
  ⟨⟨rfl, rfl, by show 0 + (0 : Int).natAbs < 1000000; decide, rfl⟩, rfl, rfl⟩

theorem witness_RoundCloseTakesTheCorrection :
    ClosingNow (withPeer (closing .locked) 6 (livePeer 50)) ∧ ClosingNow (withPeer (closing .locked) 6 (livePeer (-60))) ∧
      ClosingNow (withPeer (closing .locked) 6 (livePeer 0)) ∧
      ((withPeer (closing .locked) 6 (livePeer 50)).agreement.figures 40).correction = 25 ∧
      ((withPeer (closing .locked) 6 (livePeer (-60))).agreement.figures 40).correction = -30 ∧
      ((withPeer (closing .locked) 6 (livePeer 0)).agreement.figures 40).correction = 0 :=
  ⟨closingNow _ _ _, closingNow _ _ _, closingNow _ _ _, by decide, by decide, by decide⟩

/-- A station of a doubled period at one of the last two phases. -/
def doubled (phase : Nat) (offset : Int) : State := withPeer (pacing 200 999800 phase) 6 (livePeer offset)

/-- A close at the first and at the second advance, with corrections above, at and below 0, and of -1. -/
theorem witness_CloseInADoubledPeriod :
    (∀ phase ∈ [199998, 199999], ∀ offset ∈ [(50 : Int), 0, -2, -4],
      (doubled phase offset).resetHeld = false ∧ (doubled phase offset).clock.running = true ∧
        1000000 ≤ (doubled phase offset).clock.pace + (doubled phase offset).clock.trim.natAbs ∧
        0 < (doubled phase offset).clock.trim ∧ (doubled phase offset).clock.handed = none ∧
        (doubled phase offset).clock.overtime = 0) ∧
      ((doubled 199998 50).agreement.figures 40).correction = 25 ∧
      ((doubled 199998 0).agreement.figures 40).correction = 0 ∧
      ((doubled 199999 (-2)).agreement.figures 40).correction = -1 ∧
      ((doubled 199999 (-4)).agreement.figures 40).correction = -2 ∧
      (doubled 199998 0).clock.now.phase + 2 = (doubled 199998 0).config.roundLength ∧
      (doubled 199999 0).clock.now.phase + 1 = (doubled 199999 0).config.roundLength ∧
      (25 : Int).toNat + 1 < (doubled 199998 0).config.roundLength := by decide

/-- An entry that the boundary at 1205:25 does not reach. -/
def entry40 : ScheduleEntry := ⟨⟨1205, 26⟩, 3, .set, 2, 8, 40, 0⟩

/-- A closing station with an entry of OUT `output` that the boundary at 1205:25 reaches, and one that it does not. -/
def reaching (state : AgreementState) (output : Fin 8) (action : Action) (due : LineTime) : State :=
  { withPeer (closing state) 6 (livePeer 50) with
    schedule := [⟨due, output, action, 2, 7, 40, 0⟩, entry40] }

/-- SET, CLEAR and TOGGLE at a LEVEL output, FIRE at a PULSE output, SET at a ROUND output, and the same entry in ADRIFT. -/
theorem witness_BoundaryReachesAnEntry :
    (∀ s ∈ [reaching .locked 3 .set ⟨1205, 25⟩, reaching .alone 3 .clear ⟨1205, 0⟩,
        reaching .gathering 6 .set ⟨1205, 0⟩, reaching .locked 3 .toggle ⟨1205, 1⟩, reaching .locked 1 .fire ⟨1205, 24⟩,
        reaching .adrift 3 .set ⟨1205, 25⟩],
      (s.agreement.figures s.config.stepLimit).correction = 25 ∧ s.framer.engine = none ∧
        s.schedule.length = 2 ∧
        (∀ e ∈ s.schedule.head?, earlier s.len s.clock.now e.due = true ∧ earlier s.len ⟨1205, 25⟩ e.due = false ∧
          (s.outputs[e.output]).condition ≠ .undriven ∧ (s.outputs[e.output]).pulseEnd = none) ∧
        (∀ x ∈ (s.schedule.drop 1).head?, earlier s.len ⟨1205, 25⟩ x.due = true) ∧
        s.clock.now.phase + 1 = s.config.roundLength) ∧
      earlier 200000 ⟨1205, 25⟩ (timeAdd 200000 ⟨1205, 25⟩ (config.outputs[(1 : Fin 8)]).width) = true ∧
      ∀ state output action due, ClosingNow (reaching state output action due) :=
  ⟨by decide, by decide, fun _ _ _ _ => ⟨⟨rfl, rfl, by show 0 + (0 : Int).natAbs < 1000000; decide, rfl⟩, rfl, rfl⟩⟩

/-- A closing station with its clamp and drift counts, nothing but its close giving the store a record, and an entry of OUT3, which
logs, that the boundary reaches. -/
def turning (state : AgreementState) (clamp drift : Nat) (offset : Int) : State :=
  let s := withPeer (closing state) 6 (livePeer offset)
  { s with
    agreement := { s.agreement with clampCount := clamp, driftCount := drift }
    sampled := 0xFF
    schedule := [⟨⟨1205, 0⟩, 3, .clear, 2, 7, 40, 0⟩, ⟨⟨1206, 0⟩, 3, .set, 2, 8, 40, 0⟩] }

/-- A close that keeps an acting state, one that enters ADRIFT, one that keeps it, and one that leaves it, at the reading of an
entry. -/
theorem witness_EntryAtTheReadingOfAClose :
    (∀ s ∈ [turning .locked 0 0 50, turning .locked 2 0 82, turning .adrift 0 0 0, turning .adrift 0 15 82],
      ClosingNow s ∧ Calm s ∧ 0 ≤ (s.agreement.figures s.config.stepLimit).correction ∧
        (∀ e ∈ s.schedule.head?, earlier s.len s.clock.now e.due = true ∧ earlier s.len ⟨1205, 0⟩ e.due = false ∧
          (s.outputs[e.output]).condition = .safe ∧ (s.outputs[e.output]).pulseEnd = none) ∧
        (∀ x ∈ (s.schedule.drop 1).head?, earlier s.len ⟨1205, 40⟩ x.due = true) ∧ s.agreement.state ≠ .unset) ∧
      ((turning .locked 2 0 82).agreement.figures 40).clamped = true ∧ Acting (turning .locked 2 0 82) ∧
      (turning .locked 2 0 82).agreement.clampCount = 2 ∧ (turning .adrift 0 15 82).agreement.driftCount = 15 := by
  unfold ClosingNow SingleAdvance Calm Acting
  decide +kernel

/-- A station one tick from the end of an overtime, its output 6 latched to the round that ends. -/
def overtime (tx : Transmitter) : State :=
  { station .locked ⟨1205, 199999⟩ with
    clock := { LineClock.reset with running := true, now := ⟨1205, 199999⟩, trim := -3, pace := 7, overtime := 1 }
    outputs := (station .locked .zero).outputs.set 6 ⟨.acting, true, none, some 1205⟩
    access := { Access.reset with monitor := .window, tx := tx, mute := 1 } }

/-- The overtime ends at the start of a slot that may have been taken, with the yield flag set and the TIME frame pending. -/
def mutedAtSlot (slot : Nat) (taken : Bool) : State :=
  { overtime .muted with
    agreement := { (overtime .muted).agreement with timeFrame := .pending }
    access := { (overtime .muted).access with slotIndex := slot, slotTaken := taken, yield := true } }

theorem witness_MuteEndAtASlotStart :
    SingleAdvance (mutedAtSlot 52 false) ∧ (mutedAtSlot 52 false).clock.overtime = 1 ∧
      (mutedAtSlot 52 false).framer.engine = none ∧ (mutedAtSlot 52 false).access.tx = .muted ∧
      (mutedAtSlot 52 false).access.mute = 1 ∧ (mutedAtSlot 52 false).access.monitor = .window ∧
      (mutedAtSlot 52 false).access.slotCount = 0 ∧ (mutedAtSlot 52 false).access.slotTaken = false ∧
      (mutedAtSlot 52 false).access.yield = true ∧
      (mutedAtSlot 52 false).access.slotIndex = 48 + ((mutedAtSlot 52 false).config.id.toNat - 1) ∧
      (mutedAtSlot 52 false).agreement.timeFrame = .pending ∧ (mutedAtSlot 52 false).arms.outbox = [] ∧
      (mutedAtSlot 52 false).arms.cancels = [] ∧ NoSlotStart (mutedAtSlot 52 true) := by
  unfold SingleAdvance NoSlotStart
  decide

theorem witness_OvertimeEndMakesTheBoundary :
    SingleAdvance (overtime .muted) ∧ (overtime .muted).clock.overtime = 1 ∧ (overtime .muted).framer.engine = none ∧
      (overtime .muted).access.tx = .muted ∧ (overtime .muted).access.mute = 1 ∧ (overtime .muted).schedule = [] ∧
      ((overtime .muted).config.outputs[(6 : Fin 8)]).mode = .round ∧
      ((overtime .muted).outputs[(6 : Fin 8)]).condition = .acting ∧
      ((overtime .muted).outputs[(6 : Fin 8)]).latchRound ≠ some ((overtime .muted).clock.now.round + 1) ∧
      ((overtime .muted).outputs[(6 : Fin 8)]).pulseEnd = none := by
  unfold SingleAdvance
  decide

/-- A station MUTED for one more boundary, that of its close, in a slot that is not its own. -/
def mutedAtClose (offset : Int) : State :=
  { withPeer (closing .locked) 6 (livePeer offset) with
    access := { (closing .locked).access with tx := .muted, mute := 1, slotTaken := true } }

/-- An overtime of one and of two ticks that ends in a doubled period, and a mute that ends at a close with c = 0. -/
theorem witness_BoundariesOfOtherPeriods :
    (∀ n ∈ [1, 2],
      DoubleAdvance (inOvertime (pacing 200 999800 199999) n) ∧
        (inOvertime (pacing 200 999800 199999) n).clock.overtime = n) ∧
      2 ≤ (pacing 200 999800 199999).config.roundLength ∧ ClosingNow (mutedAtClose 0) ∧
      ((mutedAtClose 0).agreement.figures 40).correction = 0 ∧ (mutedAtClose 0).framer.engine = none ∧
      (mutedAtClose 0).access.tx = .muted ∧ (mutedAtClose 0).access.mute = 1 ∧ NoSlotStart (mutedAtClose 0) := by
  unfold ClosingNow SingleAdvance DoubleAdvance NoSlotStart
  decide

/-! ### Witnesses: agreement -/

theorem witness_CorrectionIsTheMidpointOfTheKeptOffsets :
    ([] : List Int).length ≤ 23 ∧ (List.replicate 23 (7 : Int)).length ≤ 23 := by decide

/-- Unclamped corrections of exactly S and of S + 1 in magnitude. -/
theorem witness_CloseFiguresFollowTheContributors :
    (withPeer (closing .locked) 6 (livePeer 80)).agreement.state ≠ .listening ∧
      ((withPeer (closing .locked) 6 (livePeer 80)).agreement.figures 40).clamped = false ∧
      ((withPeer (closing .locked) 6 (livePeer 82)).agreement.figures 40).clamped = true ∧
      ((withPeer (closing .locked) 6 (livePeer (-82))).agreement.figures 40).clamped = true := by decide

/-- 2.8: the close of round 1206. -/
def striking : State :=
  withPeer (withPeer (withPeer (closing .locked) 2 (livePeer 2)) 8 (livePeer (-10))) 11
    { livePeer 215 with strikes := 2 }

theorem witness_ThirdStrikeBarsThePeer :
    ClosingNow striking ∧ 1 ≤ (12 : StationId).toNat ∧ (12 : StationId).toNat ≤ 24 ∧
      (striking.peerOf 12).contributes striking.agreement.founder = true ∧ striking.agreement.state ≠ .listening ∧
      (striking.peerOf 12).offset = some 215 ∧ (striking.peerOf 12).strikes = 2 ∧
      4 * (striking.config.stepLimit : Int) < |215 - (striking.agreement.figures striking.config.stepLimit).raw| :=
  ⟨⟨⟨rfl, rfl, by decide, rfl⟩, rfl, rfl⟩, by decide, by decide, by decide, by decide, by decide, by decide, by decide⟩

/-- Nothing but the close gives a record: the close of 2.8, and one without a contributor. -/
theorem witness_NotesOfAClose :
    ∀ s ∈ [({ striking with sampled := 0xFF } : State), { withPeer (closing .locked) 6 Peer.none with sampled := 0xFF }],
      ClosingNow s ∧ Calm s ∧ s.agreement.state ≠ .unset ∧ s.schedule = [] := by
  unfold ClosingNow SingleAdvance Calm
  decide +kernel

theorem witness_SilentAndBarredPeersBecomeAbsent :
    ClosingNow (withPeer (closing .locked) 23 { livePeer 9 with heard := false, fresh := false, silent := 7 }) ∧
      ClosingNow (withPeer (closing .locked) 0 { livePeer 9 with state := .barred, barred := 1 }) ∧
      ((withPeer (closing .locked) 23 { livePeer 9 with heard := false, fresh := false, silent := 7 }).peerOf 24).silent
        = 7 ∧
      ((withPeer (closing .locked) 0 { livePeer 9 with state := .barred, barred := 1 }).peerOf 1).barred = 1 :=
  ⟨closingNow _ _ _, closingNow _ _ _, by decide, by decide⟩

/-- A station at its last listening close. -/
def lastListening : State :=
  { still .listening ⟨5, 199999⟩ with
    agreement := { Agreement.reset with state := .listening, founder := none, listenCount := 1 } }

/-- Entries at the ends of their ranges: contributors within 4S of the unclamped correction and beyond it, unheard ones, BARRED
ones and an ABSENT one. The offset is twice the unclamped correction, so 320 lies exactly 4S from it. -/
theorem witness_PeersOfAClose :
    (∀ p ∈ [livePeer 320, { livePeer 320 with strikes := 2 }, { livePeer 322 with strikes := 1 },
        { livePeer 322 with strikes := 2 }, { livePeer 9 with fresh := false, heard := false, silent := 6 },
        { livePeer 9 with fresh := false, heard := false, silent := 7 }, { livePeer 9 with state := .barred, barred := 2 },
        { livePeer 9 with state := .barred, barred := 1 }, Peer.none],
      p = (withPeer (closing .locked) 6 p).agreement.peers[(6 : Fin 24)]) ∧
      thirdStrike (withPeer (closing .locked) 6 { livePeer 320 with strikes := 2 }) 6 = false ∧
      thirdStrike (withPeer (closing .locked) 6 { livePeer 322 with strikes := 1 }) 6 = false ∧
      thirdStrike (withPeer (closing .locked) 6 { livePeer 322 with strikes := 2 }) 6 = true ∧
      ∀ p, ClosingNow (withPeer (closing .locked) 6 p) :=
  ⟨by decide, by decide, by decide, by decide, fun p => closingNow _ _ p⟩

theorem witness_ListenPeriodEndsInAlone :
    ClosingNow lastListening ∧ lastListening.agreement.state = .listening ∧ lastListening.agreement.listenCount = 1 ∧
      lastListening.agreement.timeFrame = .idle ∧ lastListening.framer.engine = none ∧ lastListening.access.tx = .off :=
  ⟨⟨⟨rfl, rfl, by decide, rfl⟩, rfl, rfl⟩, rfl, rfl, rfl, rfl, rfl⟩

/-- A closing station with its counts. -/
def counting (state : AgreementState) (clamp progress lonely drift : Nat) (p : Peer) : State :=
  { withPeer (closing state) 6 p with
    agreement := { (withPeer (closing state) 6 p).agreement with
      clampCount := clamp, progress := progress, lonelyCount := lonely, driftCount := drift } }

/-- A listening station with closes to go. -/
def listeningOn (count : Nat) : State :=
  { lastListening with agreement := { lastListening.agreement with listenCount := count } }

/-- Closes at which each count moves and reaches no limit: clamped closes and others, with contributors and without. -/
theorem witness_CountsOfAClose :
    (∀ s ∈ [listeningOn 2, counting .alone 1 0 0 0 (livePeer 82), counting .alone 2 0 0 0 Peer.none,
        counting .gathering 2 1 2 0 Peer.none, counting .gathering 1 1 3 0 (livePeer 82),
        counting .gathering 2 0 3 0 (livePeer 80), counting .locked 2 0 6 0 Peer.none, counting .locked 1 0 7 0 (livePeer 82),
        counting .locked 2 0 7 0 (livePeer 80), counting .adrift 0 0 0 14 (livePeer 82)],
      ClosingNow s ∧
        (if (s.agreement.figures s.config.stepLimit).clamped then s.agreement.clampCount + 1 else 0) ≤ 2) ∧
      ((counting .locked 1 0 7 0 (livePeer 82)).agreement.figures 40).clamped = true ∧
      ((counting .locked 1 0 7 0 (livePeer 82)).agreement.figures 40).offsets ≠ [] ∧
      ((counting .locked 2 0 7 0 (livePeer 80)).agreement.figures 40).clamped = false ∧
      ((counting .locked 2 0 6 0 Peer.none).agreement.figures 40).offsets = [] ∧
      (listeningOn 2).agreement.listenCount = 2 := by
  unfold ClosingNow SingleAdvance
  decide +kernel

/-- A closing station with its own TIME frame and an engine, in a period in which no slot starts. -/
def marking (state : AgreementState) (own : TimeFrame) (e : Option Engine) : State :=
  let s := closing state
  { s with
    agreement := { s.agreement with timeFrame := own, listenCount := 2, driftCount := 14 }
    framer := { s.framer with engine := e }
    access := { s.access with slotTaken := true } }

/-- A TIME frame idle, pending and in flight, and the two ends of a flight in the period of the close. -/
theorem witness_TimeFrameOfAClose :
    (∀ s ∈ [marking .locked .idle none, marking .alone .pending none, marking .gathering .inFlight (some (engineAt 1 39 true .frame)),
        marking .adrift .inFlightPending (some (engineAt 2 39 false .quash)), marking .listening .idle none,
        marking .locked .inFlight (some (engineAt 4 40 true .frame)), marking .locked .inFlight (some (engineAt 2 40 false .quash))],
      ClosingNow s ∧ NoSlotStart s) ∧
      (engineAt 4 40 true .frame).kind = .time ∧ (engineAt 4 40 true .frame).orphan = false ∧
      (engineAt 4 40 true .frame).bytes.length < (engineAt 4 40 true .frame).index ∧
      (∃ t, exec .roundClose (marking .adrift .idle none) = .next t ∧ t.agreement.state = .adrift) ∧
      ∃ t, exec .roundClose (marking .listening .idle none) = .next t ∧ t.agreement.state = .listening := by
  refine ⟨?_, by decide, by decide, by decide, ⟨_, rfl, by decide +kernel⟩, _, rfl, by decide +kernel⟩
  unfold ClosingNow SingleAdvance NoSlotStart
  decide +kernel

/-- `s` MUTED for more boundaries. -/
def mutedFor (s : State) (rounds : Nat) : State := { s with access := { s.access with tx := .muted, mute := rounds } }

/-- A mute of 2 and of 16 at the boundary of a close, of an overtime and of a doubled period, and at a close that makes no
boundary. -/
theorem witness_MuteCountFalls :
    (∀ rounds ∈ [2, 16],
      ClosingNow (mutedFor (mutedAtClose 0) rounds) ∧ ClosingNow (mutedFor (mutedAtClose (-4)) rounds) ∧
        SingleAdvance (mutedFor (overtime .muted) rounds) ∧
        DoubleAdvance (mutedFor (inOvertime (pacing 200 999800 199999) 1) rounds) ∧
        2 ≤ (mutedFor (mutedAtClose 0) rounds).access.mute ∧ (mutedFor (mutedAtClose 0) rounds).framer.engine = none) ∧
      0 ≤ ((mutedFor (mutedAtClose 0) 2).agreement.figures 40).correction ∧
      ((mutedFor (mutedAtClose (-4)) 2).agreement.figures 40).correction < 0 := by
  unfold ClosingNow SingleAdvance DoubleAdvance
  decide +kernel

theorem witness_GatheringAndLockedMoveOnAtCloses :
    ClosingNow (counting .gathering 0 1 0 0 (livePeer 6)) ∧
      ((counting .gathering 0 1 0 0 (livePeer 6)).agreement.figures 40).offsets ≠ [] ∧
      ((counting .gathering 0 1 0 0 (livePeer 6)).agreement.figures 40).clamped = false ∧
      ClosingNow (counting .gathering 0 0 3 0 Peer.none) ∧
      ((counting .gathering 0 0 3 0 Peer.none).agreement.figures 40).offsets = [] ∧
      ClosingNow (counting .locked 0 0 7 0 Peer.none) ∧
      ((counting .locked 0 0 7 0 Peer.none).agreement.figures 40).offsets = [] :=
  ⟨⟨⟨rfl, rfl, by decide, rfl⟩, rfl, rfl⟩, by decide, by decide, ⟨⟨rfl, rfl, by decide, rfl⟩, rfl, rfl⟩, by decide,
    ⟨⟨rfl, rfl, by decide, rfl⟩, rfl, rfl⟩, by decide⟩

theorem witness_AloneIsLeftForLocked :
    ClosingNow (counting .alone 2 0 0 0 (livePeer 6)) ∧ (counting .alone 2 0 0 0 (livePeer 6)).agreement.state = .alone ∧
      ((counting .alone 2 0 0 0 (livePeer 6)).agreement.figures 40).offsets ≠ [] ∧
      ((counting .alone 2 0 0 0 (livePeer 6)).agreement.figures 40).clamped = false :=
  ⟨⟨⟨rfl, rfl, by decide, rfl⟩, rfl, rfl⟩, rfl, by decide, by decide⟩

theorem witness_AdriftIsEnteredAndLeftAtCloses :
    ClosingNow (counting .alone 2 0 0 0 (livePeer 82)) ∧
      ((counting .alone 2 0 0 0 (livePeer 82)).agreement.figures 40).clamped = true ∧
      ClosingNow (counting .adrift 0 0 0 15 Peer.none) ∧ (counting .adrift 0 0 0 15 Peer.none).agreement.driftCount = 15 :=
  ⟨⟨⟨rfl, rfl, by decide, rfl⟩, rfl, rfl⟩, by decide, ⟨⟨rfl, rfl, by decide, rfl⟩, rfl, rfl⟩, rfl⟩

/-- The body of a TIME frame: sender state code, founder 3, stamp 3071:1800. -/
def timeBytes3071 (code : Byte) : List Byte := [code, 3, 0xFF, 0x0B, 0x00, 0x08, 0x07, 0x00]

/-- 2.9: station 14's listening station handles the frame of station 3. -/
def joining : State := handling (still .listening ⟨2, 4150⟩) .time 3 (timeBytes3071 4) ⟨2, 3900⟩

/-- A station of founder 9 handles the frame of founder 3. -/
def joiningIn (state : AgreementState) : State :=
  { joining with agreement := { joining.agreement with state := state, founder := some 9 } }

/-- Nothing is to be taken at the reading of a station whose Schedule, arm outbox and settling list are empty and whose outputs
hold no pulse. -/
theorem looksTaken_of_empty (s : State) (h1 : s.schedule = []) (h2 : ∀ i : Fin 8, (s.outputs[i]).pulseEnd = none)
    (h3 : s.arms.outbox = []) (h4 : s.store.settling = []) : LooksTaken s := by
  refine ⟨by simp [h1], fun i t h => ?_, by simp [h3], by simp [h4]⟩
  rw [h2 i] at h
  cases h

/-- In ADRIFT and LISTENING under any founder, and in the acting states under founder 9. -/
theorem witness_AdoptionFromEachState :
    (∀ state ∈ [AgreementState.listening, .adrift, .alone, .gathering, .locked],
      (joiningIn state).resetHeld = false ∧ (joiningIn state).agreement.state = state ∧
        (joiningIn state).agreement.founder = some 9 ∧ (byteAt (timeBytes3071 4) 1).toNat < (9 : StationId).toNat ∧
        ((joiningIn state).peerOf 3).state ≠ .barred ∧ (0 : Byte) = (joiningIn state).agreement.adjustCount ∧
        (joiningIn state).store.settling.length + (joiningIn state).store.lane.length + 2 ≤ 128) ∧
      ∀ state, LooksTaken (joiningIn state) :=
  ⟨by decide, fun state => looksTaken_of_empty _ rfl (by cases state <;> decide) rfl rfl⟩

theorem witness_AdoptionStepsTheClock :
    joining.resetHeld = false ∧ joining.framer.bufferA = .handling ⟨.time, 3, timeBytes3071 4, ⟨2, 3900⟩, 0⟩ ∧
      joining.framer.ripe = true ∧ byteAt (timeBytes3071 4) 0 = 4 ∧ byteAt (timeBytes3071 2) 0 = 2 ∧
      joining.agreement.state = .listening ∧
      (joining.peerOf 3).state ≠ .barred ∧ (0 : Byte) = joining.agreement.adjustCount ∧
      (⟨2, 3900⟩ : LineTime).phase + 1 ≠ joining.config.roundLength ∧
      (613797960 : Int) = timeDiff joining.config.roundLength ⟨2, 3900⟩
        (timeAdd joining.config.roundLength
          (carriedTime joining.config.roundLength (numAt (timeBytes3071 4) 2 3) (numAt (timeBytes3071 4) 5 3))
          joining.config.lineDelay) := by decide

/-- The frame of 2.9 handled after a close in whose period the handling could have ended. -/
def joiningLate : State := { joining with lateHandling := true }

theorem witness_AdoptionAfterAClose :
    joiningLate.lateHandling = true ∧ joiningLate.resetHeld = false ∧ joiningLate.framer.ripe = true ∧
      joiningLate.framer.bufferA = .handling ⟨.time, 3, timeBytes3071 4, ⟨2, 3900⟩, 0⟩ ∧
      joiningLate.agreement.state = .listening ∧ (joiningLate.peerOf 3).state ≠ .barred ∧
      (0 : Byte) = joiningLate.agreement.adjustCount ∧ joining.lateHandling = false := by decide

/-- The handling of a frame in buffer A, with buffer B FREE, ends. -/
theorem handlingEnds (s : State) (kind : FrameKind) (sender : StationId) (body : List Byte) (stamp : LineTime)
    (h : s.resetHeld = false) :
    HandlingEnds (handling s kind sender body stamp) ⟨kind, sender, body, stamp, 0⟩
      { (handling s kind sender body stamp).framer with
        bufferA := .free, ripe := false
        bufferB := match s.framer.bufferB with | .full g => .handling g | b => b } :=
  ⟨h, rfl, .inl ⟨rfl, rfl⟩⟩

/-- The offset of the frame of 2.9, noted under the present count, and the same noted before a correction of +25. -/
theorem witness_AdoptionOffset :
    FrameOffset joining ⟨.time, 3, timeBytes3071 4, ⟨2, 3900⟩, 0⟩ (some 613797960) ∧
      FrameOffset { joining with agreement := { joining.agreement with adjustCount := 1, lastAdjust := .correction 25 } }
        ⟨.time, 3, timeBytes3071 4, ⟨2, 3900⟩, 0⟩ (some 613797935) :=
  ⟨⟨613797960, by decide, .inr ⟨by decide, .inl ⟨rfl, rfl⟩⟩⟩,
    ⟨613797960, by decide, .inr ⟨by decide, .inr (.inl ⟨rfl, .inl ⟨25, rfl, rfl⟩⟩)⟩⟩⟩

/-- A station in GATHERING to which a step has been handed over: an entry and an arm earlier than the new line time and one of
each that are not, a pulse that has ended then, a latch of another round, a held edge and a shared copy. -/
def stepping : State :=
  let s := station .gathering ⟨1204, 500⟩
  { s with
    clock := { s.clock with handed := some ⟨3071, 2110⟩, overtime := 4, trim := 7, pace := 11 }
    schedule := [⟨⟨3071, 2109⟩, 3, .set, 2, 7, 40, 0⟩, ⟨⟨3071, 2111⟩, 3, .clear, 2, 8, 41, 0⟩]
    arms := { s.arms with
      outbox := [⟨0, 17, ⟨3071, 2109⟩, .tap, 0, false, none⟩, ⟨1, 18, ⟨3071, 2110⟩, .tap, 0, false, none⟩] }
    outputs := (s.outputs.set 1 ⟨.acting, true, some ⟨3071, 2110⟩, none⟩).set 6 ⟨.acting, true, none, some 1204⟩
    capture :=
      ⟨s.capture.filters.set 2 ⟨some false, .pending .rise ⟨1204, 300⟩ 200 false, none⟩,
        [⟨2, .rise, true, 17, ⟨1203, 5⟩⟩], 0⟩ }

theorem witness_StepIsMade :
    stepping.clock.handed = some ⟨3071, 2110⟩ ∧ stepping.agreement.state = .gathering ∧
      (∀ e ∈ stepping.schedule,
        earlier stepping.len e.due ⟨3071, 2110⟩ = true ∨ earlier stepping.len ⟨3071, 2110⟩ e.due = true) ∧
      ArmIdsDistinct stepping ∧ stepping.resetHeld = false ∧ stepping.clock.running = true ∧
      stepping.clock.pace + stepping.clock.trim.natAbs < 1000000 ∧
      (⟨3071, 2110⟩ : LineTime).phase + 1 < stepping.config.roundLength := by
  unfold ArmIdsDistinct
  decide

/-- A station handling a TIME frame of founder 3 from station 3, its stamp noted at a phase under the count 0, with its own count
and last adjustment. -/
def hearing (state : AgreementState) (code : Byte) (p : Peer) (count : Byte) (last : Adjustment) (phase : Nat) : State :=
  let s := handling (withPeer (station state ⟨3071, 4150⟩) 2 p) .time 3 (timeBytes3071 code) ⟨3071, phase⟩
  { s with agreement := { s.agreement with adjustCount := count, lastAdjust := last } }

/-- The rows of R22: the counts equal; one correction, or one step, between them; two between them; the last phase. -/
theorem witness_FrameOffsets (state : AgreementState) (code : Byte) (p : Peer) :
    FrameOffset (hearing state code p 0 .step 3900) ⟨.time, 3, timeBytes3071 code, ⟨3071, 3900⟩, 0⟩ (some (-2040)) ∧
      FrameOffset (hearing state code p 1 (.correction 7) 3900) ⟨.time, 3, timeBytes3071 code, ⟨3071, 3900⟩, 0⟩
        (some (-2047)) ∧
      FrameOffset (hearing state code p 1 .step 3900) ⟨.time, 3, timeBytes3071 code, ⟨3071, 3900⟩, 0⟩ none ∧
      FrameOffset (hearing state code p 2 (.correction 7) 3900) ⟨.time, 3, timeBytes3071 code, ⟨3071, 3900⟩, 0⟩ none ∧
      FrameOffset (hearing state code p 0 .step 199999) ⟨.time, 3, timeBytes3071 code, ⟨3071, 199999⟩, 0⟩ none :=
  have d : (-2040 : Int) = timeDiff 200000 ⟨3071, 3900⟩
      (timeAdd 200000 (carriedTime 200000 (numAt (timeBytes3071 code) 2 3) (numAt (timeBytes3071 code) 5 3)) 60) := by
    have e1 : numAt (timeBytes3071 code) 2 3 = 3071 := rfl
    have e2 : numAt (timeBytes3071 code) 5 3 = 1800 := rfl
    rw [e1, e2]
    decide
  ⟨⟨_, d, .inr ⟨nofun, .inl ⟨rfl, rfl⟩⟩⟩,
    ⟨_, d, .inr ⟨nofun, .inr (.inl ⟨rfl, .inl ⟨7, rfl, rfl⟩⟩)⟩⟩,
    ⟨_, d, .inr ⟨nofun, .inr (.inl ⟨rfl, .inr ⟨rfl, rfl⟩⟩)⟩⟩,
    ⟨_, d, .inr ⟨nofun, .inr (.inr ⟨nofun, nofun, rfl⟩)⟩⟩,
    ⟨_, rfl, .inl ⟨rfl, rfl⟩⟩⟩

/-- Senders in GATHERING and ADRIFT, a BARRED entry, a LOCKED sender and an ALONE one whose founder is not lower, and a station in
UNSET. -/
theorem witness_TimeFrameUpdatesThePeerEntry :
    (∀ s ∈ [hearing .locked 3 Peer.none 0 .step 3900, hearing .adrift 5 (livePeer 7) 1 .step 3900,
        hearing .listening 4 { livePeer 7 with state := .barred, barred := 3 } 0 .step 3900,
        hearing .alone 4 (livePeer 7) 0 .step 3900, hearing .gathering 2 Peer.none 1 (.correction 7) 3900],
      s.resetHeld = false ∧ s.framer.ripe = true ∧ s.agreement.state ≠ .unset) ∧
      Acting (hearing .alone 4 (livePeer 7) 0 .step 3900) ∧
      (∀ own, (hearing .alone 4 (livePeer 7) 0 .step 3900).agreement.founder = some own →
        own.toNat ≤ (byteAt (timeBytes3071 4) 1).toNat) ∧
      byteAt (timeBytes3071 2) 0 = 2 ∧ byteAt (timeBytes3071 3) 0 = 3 ∧ byteAt (timeBytes3071 4) 0 = 4 ∧
      byteAt (timeBytes3071 5) 0 = 5 ∧
      ((hearing .listening 4 { livePeer 7 with state := .barred, barred := 3 } 0 .step 3900).peerOf 3).state = .barred ∧
      (hearing .unset 4 Peer.none 0 .step 3900).agreement.state = .unset := by
  refine ⟨by decide, .inl rfl, ?_, by decide⟩
  intro own h
  obtain rfl : (3 : StationId) = own := Option.some.inj h
  decide

/-- A frame handled from buffer B while buffer A is FULL. -/
theorem witness_HandlingFromBufferB :
    HandlingEnds { hearing .locked 4 Peer.none 0 .step 3900 with
        framer := { Framer.reset with
          bufferA := .full ⟨.event, 9, [], .zero, 0⟩, ripe := true
          bufferB := .handling ⟨.cancel, 3, [1, 0], .zero, 0⟩ } }
      ⟨.cancel, 3, [1, 0], .zero, 0⟩
      { Framer.reset with bufferA := .handling ⟨.event, 9, [], .zero, 0⟩, bufferB := .free, ripe := false } :=
  ⟨rfl, rfl, .inr ⟨nofun, rfl, rfl⟩⟩

/-! ### Witnesses: arms, cancels and the Schedule -/

/-- Both outboxes full, their ids 0 to 15. -/
def fullOutboxes : State :=
  { station .locked ⟨5000, 20000⟩ with
    arms := { Arms.reset with
      outbox := (List.range 8).map fun n => tapArm (BitVec.ofNat 8 n) ⟨5001, 0⟩ false
      cancels := (List.range 8).map fun n => ⟨BitVec.ofNat 8 (8 + n), 0, none⟩ } }

theorem witness_NewArmIdIsTheFirstFree :
    fullOutboxes.arms.outbox.length ≤ 8 ∧ fullOutboxes.arms.cancels.length ≤ 8 ∧ fullOutboxes.newArmId = 16 := by decide

/-- A schedule entry on OUT3. -/
def entry (due : LineTime) : ScheduleEntry := ⟨due, 3, .set, 2, 7, 40, 0⟩

/-- A station at 6999:180000 with a Schedule. -/
def scheduled (state : AgreementState) (es : List ScheduleEntry) : State :=
  { station state ⟨6999, 180000⟩ with schedule := es }

theorem witness_InsertionRequestsFollowTheirDueTime :
    (∀ x ∈ (scheduled .locked (List.replicate 32 (entry ⟨7000, 5⟩))).schedule,
        earlier 200000 ⟨6999, 180000⟩ x.due = true) ∧
      List.replicate 32 (entry ⟨7000, 5⟩) = List.replicate 31 (entry ⟨7000, 5⟩) ++ [entry ⟨7000, 5⟩] ∧
      earlier 200000 ⟨6999, 180000⟩ ⟨6999, 180001⟩ = true ∧ earlier 200000 ⟨6999, 180001⟩ ⟨6999, 180000⟩ = false ∧
      earlier 200000 ⟨7000, 4⟩ ⟨7000, 5⟩ = true ∧ earlier 200000 ⟨7000, 5⟩ ⟨7000, 5⟩ = false ∧
      earlier 200000 ⟨6999, 179999⟩ ⟨6999, 180000⟩ = true ∧
      (scheduled .locked (List.replicate 31 (entry ⟨7000, 5⟩))).schedule.length < 32 := by decide

/-- A request due exactly now, into a full Schedule and into one with room, in each kind of state. -/
theorem witness_RequestsDueNow :
    (∀ x ∈ (scheduled .locked (List.replicate 32 (entry ⟨7000, 5⟩))).schedule,
        later 200000 x.due ⟨6999, 180000⟩ = true ∧ earlier 200000 ⟨6999, 180000⟩ x.due = true) ∧
      (scheduled .locked (List.replicate 32 (entry ⟨7000, 5⟩))).schedule.length = 32 ∧
      Acting (scheduled .locked (List.replicate 32 (entry ⟨7000, 5⟩))) ∧
      ∀ state ∈ [AgreementState.alone, .gathering, .locked, .adrift, .listening, .unset],
        (scheduled state [entry ⟨7000, 5⟩]).agreement.state = state ∧
          (entry ⟨6999, 180000⟩).due = (scheduled state [entry ⟨7000, 5⟩]).now ∧
          (scheduled state [entry ⟨7000, 5⟩]).schedule.length < 32 := by
  refine ⟨by decide, by decide, .inr (.inr rfl), by decide⟩

theorem witness_CancelFrameRemovesByOrigin :
    (∀ state ∈ [AgreementState.alone, .gathering, .locked, .adrift, .unset, .listening],
      (handling (station state .zero) .cancel 3 [1, 0] .zero).agreement.state = state) ∧
      (∀ state, (handling (station state .zero) .cancel 3 [1, 0] .zero).framer.bufferA =
        .handling ⟨.cancel, 3, [1, 0], .zero, 0⟩) ∧
      ∀ state, ∃ after, HandlingEnds (handling (station state .zero) .cancel 3 [1, 0] .zero)
        ⟨.cancel, 3, [1, 0], .zero, 0⟩ after :=
  ⟨by decide, fun _ => rfl, fun _ => ⟨_, handlingEnds _ _ _ _ _ rfl⟩⟩

/-- A full list without the id, and a list with it, ACCEPTED or CANCELLED, between others. -/
theorem witness_HistoryEntryIsCancelled :
    (∀ e ∈ (List.range 8).map fun n => (⟨BitVec.ofNat 8 (200 + n), .placeholder⟩ : HistoryEntry), e.id ≠ 0) ∧
      8 ≤ ((List.range 8).map fun n => (⟨BitVec.ofNat 8 (200 + n), .placeholder⟩ : HistoryEntry)).length ∧
      ∀ status ∈ [HistoryStatus.accepted 17 ⟨5001, 120000⟩, .cancelled 17 ⟨5001, 120000⟩, .placeholder],
        ([⟨4, .placeholder⟩, ⟨0, status⟩, ⟨5, .placeholder⟩] : List HistoryEntry) =
          [⟨4, .placeholder⟩] ++ ⟨0, status⟩ :: [⟨5, .placeholder⟩] ∧
        ∀ x ∈ ([⟨4, .placeholder⟩] ++ [⟨5, .placeholder⟩] : List HistoryEntry), x.id ≠ 0 := by decide

/-- 3.11: the body of the ARM frame of arm 0: tag 17, action time 5001:120000. -/
def armBytes : List Byte := [1, 0, 17, 0x89, 0x13, 0x00, 0xC0, 0xD4, 0x01]

/-- 3.11 at station 8: the frame of station 3 is handled, with 0 or 8 entries in that station's history. -/
def taking (entries : Nat) : State :=
  let s := handling (withPeer (station .locked ⟨5000, 30000⟩) 2 (livePeer 0)) .arm 3 armBytes .zero
  { s with
    arms := { s.arms with
      history := s.arms.history.set 2
        ((List.range entries).map fun n => ⟨BitVec.ofNat 8 (200 + n), .placeholder⟩) } }

theorem witness_NewArmIsEnteredAndBound :
    (∀ s ∈ [taking 0, taking 8],
      s.resetHeld = false ∧ s.framer.ripe = true ∧
        armEntries s.config.roundLength armBytes = [⟨0, 17, ⟨5001, 120000⟩⟩] ∧ s.agreement.state = .locked ∧
        (s.peerOf 3).state = .live ∧ s.agreement.founder = some 3 ∧ (s.peerOf 3).founder = some 3 ∧
        (∀ h ∈ s.historyOf 3, h.id ≠ 0) ∧ earlier s.len ⟨5001, 120000⟩ s.clock.now = false ∧
        later s.len ⟨5001, 120000⟩ (timeAddRounds s.clock.now 250) = false ∧
        s.config.bindings = [⟨17, 1, .fire, -2000⟩] ∧ s.schedule = [] ∧
        earlier s.len s.clock.now (timeAdd s.len ⟨5001, 120000⟩ (-2000)) = true ∧
        earlier s.len (timeAdd s.len ⟨5001, 120000⟩ (-2000)) s.clock.now = false) ∧
      earlier 200000 ⟨4999, 199999⟩ (taking 0).clock.now = true := by decide

/-- 3.11 at station 8 at a line time, with one entry of arm 0 in the sender's list, and two bindings of tag 17 about one of
another. -/
def takingOver (now : LineTime) (sender : Peer) (status : HistoryStatus) : State :=
  let s := handling (withPeer (station .locked now) 2 sender) .arm 3 armBytes .zero
  { s with
    config := { s.config with bindings := [⟨17, 1, .fire, -2000⟩, ⟨18, 3, .set, 0⟩, ⟨17, 3, .clear, 5⟩] }
    arms := { s.arms with history := s.arms.history.set 2 [⟨4, .placeholder⟩, ⟨0, status⟩] } }

/-- A foreign sender, a repeat, a late copy, a blocked arm, and a new arm that is late, far or within reach. -/
theorem witness_ArmFrameOutcomes :
    (∀ now ∈ [(⟨5000, 30000⟩ : LineTime), ⟨5001, 120001⟩, ⟨4751, 119999⟩],
      ∀ p ∈ [livePeer 0, Peer.none, { livePeer 0 with founder := some 2 }],
      ∀ status ∈ [HistoryStatus.accepted 17 ⟨5001, 120000⟩, .cancelled 17 ⟨5001, 120000⟩, .placeholder,
          .accepted 16 ⟨5001, 120000⟩],
        (takingOver now p status).resetHeld = false ∧ (takingOver now p status).framer.ripe = true ∧
          armEntries (takingOver now p status).config.roundLength armBytes = [⟨0, 17, ⟨5001, 120000⟩⟩] ∧
          (takingOver now p status).agreement.state = .locked ∧
          (takingOver now p status).historyOf 3 = [⟨4, .placeholder⟩] ++ ⟨0, status⟩ :: [] ∧
          ([⟨4, .placeholder⟩] ++ [] : List HistoryEntry).length < 8) ∧
      (∀ s ∈ [taking 8, takingOver ⟨5000, 30000⟩ (livePeer 0) (.accepted 16 ⟨5001, 120000⟩)], ArmIdsDistinct s) ∧
      earlier 200000 ⟨5001, 120000⟩ ⟨5001, 120001⟩ = true ∧
      earlier 200000 ⟨5001, 120000⟩ ⟨4751, 119999⟩ = false ∧
      later 200000 ⟨5001, 120000⟩ (timeAddRounds ⟨4751, 119999⟩ 250) = true ∧
      later 200000 ⟨5001, 120000⟩ (timeAddRounds ⟨4751, 120000⟩ 250) = false := by
  unfold ArmIdsDistinct
  decide

/-- An ARM frame of two arms in an acting state and out of them, an id that no entry of a full list holds, and one that an entry
between others holds. -/
theorem witness_ArmFramesAndEntries :
    (∃ after, HandlingEnds (handling (station .gathering .zero) .arm 3 (2 :: armBytes.drop 1 ++ armBytes.drop 1) .zero)
      ⟨.arm, 3, 2 :: armBytes.drop 1 ++ armBytes.drop 1, .zero, 0⟩ after) ∧
      Acting (handling (station .gathering .zero) .arm 3 armBytes .zero) ∧
      ¬Acting (handling (station .adrift .zero) .arm 3 armBytes .zero) ∧
      (armEntries 200000 (2 :: armBytes.drop 1 ++ armBytes.drop 1)).length = 2 ∧
      (∃ own, (taking 0).agreement.founder = some own ∧ ((taking 0).peerOf 3).founder = some own) ∧
      (∀ b ∈ ([] : List Binding), b.tag ≠ 17) ∧
      (∀ e ∈ (List.range 8).map fun n => (⟨BitVec.ofNat 8 (200 + n), .placeholder⟩ : HistoryEntry), e.id ≠ 0) ∧
      ([⟨4, .placeholder⟩, ⟨0, .accepted 16 .zero⟩, ⟨5, .placeholder⟩] : List HistoryEntry) =
        [⟨4, .placeholder⟩] ++ ⟨0, .accepted 16 .zero⟩ :: [⟨5, .placeholder⟩] ∧
      ∀ x ∈ ([⟨4, .placeholder⟩] ++ [⟨5, .placeholder⟩] : List HistoryEntry), x.id ≠ 0 :=
  ⟨⟨_, handlingEnds _ _ _ _ _ rfl⟩, .inr (.inl rfl), by unfold Acting; decide, by decide, ⟨3, rfl, rfl⟩, by decide,
    by decide, rfl, by decide⟩

theorem witness_HistoryAndScheduleStayInStep :
    1 ≤ (24 : StationId).toNat ∧ (24 : StationId).toNat ≤ 24 ∧ ScheduleSendersValid (scheduled .locked [entry ⟨7000, 5⟩]) ∧
      HistoryInStep (scheduled .locked [entry ⟨7000, 5⟩]) := by
  unfold ScheduleSendersValid HistoryInStep
  refine ⟨by decide, by decide, by decide, ?_⟩
  intro e he h hh
  obtain rfl : e = entry ⟨7000, 5⟩ := by simpa [scheduled, station] using he
  have none_held : (scheduled .locked [entry ⟨7000, 5⟩]).historyOf (entry ⟨7000, 5⟩).sender = [] := by decide
  rw [none_held] at hh
  cases hh

/-- A step of a station with an entry whose arm is ACCEPTED, a frame in buffer A and an id of its own. -/
theorem witness_StepKeepsTheHistory :
    HistoryKept { handling (scheduled .locked [entry ⟨7000, 5⟩]) .cancel 3 [1, 0] .zero with
        arms := { Arms.reset with history := Arms.reset.history.set 1 [⟨7, .accepted 40 ⟨6999, 0⟩⟩] }
        pending := [.frameHandlingEnd] } ∧
      ∃ t, step { handling (scheduled .locked [entry ⟨7000, 5⟩]) .cancel 3 [1, 0] .zero with
        arms := { Arms.reset with history := Arms.reset.history.set 1 [⟨7, .accepted 40 ⟨6999, 0⟩⟩] }
        pending := [.frameHandlingEnd] } = .next t := by
  refine ⟨⟨?_, by decide, ?_, by decide⟩, _, rfl⟩
  · intro e he h hh _
    obtain rfl : e = entry ⟨7000, 5⟩ := by simpa [handling, scheduled, station] using he
    obtain rfl : h = ⟨7, .accepted 40 ⟨6999, 0⟩⟩ := List.mem_singleton.1 hh
    exact ⟨_, _, rfl⟩
  · rintro f (h | h | h | h)
    · cases h
    · obtain rfl : (⟨.cancel, 3, [1, 0], .zero, 0⟩ : ReceivedFrame) = f := Buffer.handling.inj h
      decide
    · cases h
    · cases h

theorem witness_DueEntryIsExecutedOrMissed :
    (∀ state ∈ [AgreementState.alone, .gathering, .locked, .adrift],
      (scheduled state [entry ⟨6999, 180000⟩, entry ⟨6999, 180001⟩]).agreement.state = state) ∧
      (scheduled .alone [entry ⟨6999, 180000⟩, entry ⟨6999, 180001⟩]).resetHeld = false ∧
      earlier 200000 ⟨6999, 180000⟩ (entry ⟨6999, 180000⟩).due = false ∧
      (∀ x ∈ [entry ⟨6999, 180001⟩].head?, earlier 200000 ⟨6999, 180000⟩ x.due = true) ∧
      ((scheduled .alone []).outputs[(3 : Fin 8)]).condition ≠ .undriven ∧
      (config.outputs[(3 : Fin 8)]).log = true ∧ (config.outputs[(1 : Fin 8)]).log = false ∧
      ((config.outputs[(3 : Fin 8)]).mode, (config.outputs[(1 : Fin 8)]).mode, (config.outputs[(6 : Fin 8)]).mode) =
        (.level, .pulse, .round) := by decide

/-- OUT1 in a pulse that ends now. -/
def pulsing : State :=
  { station .locked ⟨6999, 4000⟩ with
    outputs := (station .locked .zero).outputs.set 1 ⟨.acting, true, some ⟨6999, 4000⟩, none⟩ }

theorem witness_PulseEndTurnsTheOutputOff :
    pulsing.resetHeld = false ∧ (pulsing.outputs[(1 : Fin 8)]).pulseEnd = some ⟨6999, 4000⟩ ∧
      earlier pulsing.len pulsing.clock.now ⟨6999, 4000⟩ = false ∧
      earlier pulsing.len ⟨6999, 3999⟩ ⟨6999, 4000⟩ = true := by decide

/-- A station with one arm of IN2 whose action time is passed. -/
def passedArm (effective : Bool) : State :=
  let s := withArms (station .locked ⟨5001, 120001⟩) [⟨0, 17, ⟨5001, 120000⟩, .input 2, 0, effective, none⟩]
  { s with capture := { s.capture with filters := s.capture.filters.set 2 ⟨some false, .stable, some 0⟩ } }

theorem witness_PassedArmExpires :
    ∀ s ∈ [passedArm true, passedArm false],
      s.resetHeld = false ∧ (s.arms.outbox.map (·.id)).Nodup ∧ (s.arms.cancels.map (·.id)).Nodup ∧
        (∀ i : Fin 24, ((s.arms.history[i]).map (·.id)).Nodup) ∧ s.access.tx = .idle ∧
        s.arms.outbox.length = 1 ∧ later s.len s.clock.now ⟨5001, 120000⟩ = true ∧ s.arms.inFlight = .none ∧
        (s.capture.filters[(2 : Fin 8)]).outstanding = some 0 := by decide

/-- A passed arm while an ARM frame carries another one. -/
theorem witness_PassedArmOfAnotherFlight :
    ¬CarriesArm { passedArm false with
        arms := { (passedArm false).arms with inFlight := .arms 5000 [⟨9, 17, ⟨5001, 120000⟩, true⟩] } } 0 ∧
      ∃ r, (passedArm false).arms.outbox = [] ++ r :: [] ∧ r.id = 0 := by
  refine ⟨?_, _, rfl, rfl⟩
  rintro ⟨round, carried, h, a, ha, e⟩
  obtain ⟨rfl, rfl⟩ := InFlight.arms.inj h
  obtain rfl := List.mem_singleton.1 ha
  revert e
  decide

/-- An arm that line time has not passed, in the period of a step to a line time. -/
def steppedArm (effective : Bool) (new : LineTime) : State :=
  let s := withArms (station .gathering ⟨5001, 120000⟩) [⟨0, 17, ⟨5001, 120000⟩, .input 2, 0, effective, none⟩]
  { s with
    clock := { s.clock with handed := some new }
    capture := { s.capture with filters := s.capture.filters.set 2 ⟨some false, .stable, some 0⟩ } }

/-- A step that passes the arm by one tick, and one that just reaches it. -/
theorem witness_SteppedArmExpires :
    (∀ s ∈ [steppedArm true ⟨5001, 120001⟩, steppedArm false ⟨5001, 120001⟩, steppedArm false ⟨5001, 120000⟩],
      s.resetHeld = false ∧ (s.arms.outbox.map (·.id)).Nodup ∧ (s.arms.cancels.map (·.id)).Nodup ∧
        (∀ i : Fin 24, ((s.arms.history[i]).map (·.id)).Nodup) ∧ s.arms.inFlight = .none ∧
        later s.len s.clock.now ⟨5001, 120000⟩ = false) ∧
      earlier 200000 ⟨5001, 120000⟩ ⟨5001, 120001⟩ = true ∧ earlier 200000 ⟨5001, 120000⟩ ⟨5001, 120000⟩ = false ∧
      (steppedArm false ⟨5001, 120001⟩).clock.handed = some ⟨5001, 120001⟩ := by decide

/-! ### Witnesses: the Event Store and the inputs -/

/-- A record. -/
def record (stamp : LineTime) : EventRecord := ⟨.edge 1 .rise, 5, true, 0, stamp, false, false, false⟩

/-- 6.10: the settling list of station 5 and its release mark. -/
def storing (now : LineTime) (lane : Nat) (mark : Option LineTime) : State :=
  { station .locked now with
    store :=
      ⟨[record ⟨1998, 50000⟩, record ⟨1998, 120000⟩, record ⟨1999, 10000⟩],
        List.replicate lane (record ⟨1997, 190000⟩), mark, .clear⟩ }

theorem witness_SettlingReleasesRecordsAtTheHorizon :
    (storing ⟨2000, 50000⟩ 123 (some ⟨1997, 190000⟩)).resetHeld = false ∧
      timeDiff 200000 ⟨2000, 50000⟩ ⟨1998, 50000⟩ ≤ -((2 * 200000 : Nat) : Int) ∧
      -((2 * 200000 : Nat) : Int) < timeDiff 200000 ⟨2000, 50000⟩ ⟨1998, 120000⟩ := by decide

/-- The release mark at the record, one tick later and one tick earlier; a settling list that is empty and a record at the
horizon; a store that goes by the new line time of a step handed over. -/
theorem witness_StoreComparesWithTheMark :
    (∀ mark ∈ [(⟨1998, 119999⟩ : LineTime), ⟨1998, 120000⟩],
      timeDiff 200000 ⟨1999, 10000⟩ mark ≤ timeDiff 200000 ⟨1999, 10000⟩ (record ⟨1998, 120000⟩).stamp ∧
        -(8388607 * (200000 : Int)) < timeDiff 200000 ⟨1999, 10000⟩ mark) ∧
      timeDiff 200000 ⟨1999, 10000⟩ (record ⟨1998, 120000⟩).stamp < timeDiff 200000 ⟨1999, 10000⟩ ⟨1998, 120001⟩ ∧
      (station .locked ⟨1999, 10000⟩).store.settling = [] ∧
      timeDiff 200000 ⟨1999, 10000⟩ ⟨1997, 10000⟩ ≤ -((2 * 200000 : Nat) : Int) ∧
      stepping.clock.handed.getD stepping.clock.now = ⟨3071, 2110⟩ ∧
      joining.clock.handed.getD joining.clock.now = ⟨2, 4150⟩ := by decide

theorem witness_StoreTakesARecordByThreeTests :
    State.reset.agreement.state = .unset ∧ (storing ⟨1999, 10000⟩ 125 none).agreement.state ≠ .unset ∧
      (storing ⟨1999, 10000⟩ 125 none).store.settling.length +
        (storing ⟨1999, 10000⟩ 125 none).store.lane.length = 128 ∧
      (storing ⟨1999, 10000⟩ 124 none).store.settling.length +
        (storing ⟨1999, 10000⟩ 124 none).store.lane.length = 127 ∧
      timeDiff 200000 ⟨1999, 10000⟩ ⟨1998, 119999⟩ < timeDiff 200000 ⟨1999, 10000⟩ ⟨1998, 120000⟩ ∧
      ∀ x ∈ record ⟨1997, 10001⟩ :: (storing ⟨1999, 10000⟩ 124 none).store.settling,
        -((2 * 200000 : Nat) : Int) < timeDiff 200000 ⟨1999, 10000⟩ x.stamp :=
  ⟨rfl, by decide, by simp [storing], by simp [storing], by decide, by decide⟩

/-- An EVENT frame of a sender on the own timeline, of one that is not, and one in UNSET. -/
theorem witness_EventFrames :
    (∀ state, ∃ after, HandlingEnds (handling (withPeer (station state .zero) 8 (livePeer 0)) .event 9 [1, 0, 0] .zero)
      ⟨.event, 9, [1, 0, 0], .zero, 0⟩ after) ∧
      (∀ s ∈ [withPeer (station .adrift .zero) 8 (livePeer 0)], (s.peerOf 9).state = .live ∧
        (s.peerOf 9).founder = some 3 ∧ s.agreement.founder = some 3 ∧ s.agreement.state ≠ .unset) ∧
      ((station .locked .zero).peerOf 9).state ≠ .live ∧ (station .unset .zero).agreement.state = .unset :=
  ⟨fun _ => ⟨_, handlingEnds _ _ _ _ _ rfl⟩, by decide, by decide, rfl⟩

/-- A station with a stable or pending filter at IN5, at LOW. -/
def filtering (c : FilterCondition) : State :=
  let s := station .locked ⟨412, 100000⟩
  { s with capture := { s.capture with filters := s.capture.filters.set 5 ⟨some false, c, none⟩ } }

theorem witness_InputSampleMovesTheFilter :
    ∀ s ∈ [filtering .stable, filtering (.pending .rise ⟨412, 99000⟩ 998 true)],
      s.resetHeld = false ∧ s.clock.running = true ∧ (s.config.inputs[(5 : Fin 8)]).selection ≠ .off ∧
        s.sampled.getLsbD 5 = false ∧ (s.capture.filters[(5 : Fin 8)]).stable = some false := by decide

/-- A station whose edge at IN5 has been held for its hold time. -/
def held (state : AgreementState) (events : Nat) : State :=
  let s := station state ⟨412, 101000⟩
  { s with
    sampled := 0xFF
    capture :=
      ⟨s.capture.filters.set 5 ⟨some false, .pending .rise ⟨412, 100000⟩ 1000 false, none⟩,
        List.replicate events ⟨0, .rise, true, 0, ⟨412, 96000⟩⟩, 0⟩ }

theorem witness_HeldEdgeIsAccepted :
    ∀ s ∈ [held .locked 15, held .listening 0, held .adrift 16],
      s.resetHeld = false ∧ s.clock.running = true ∧ s.sampled = 0xFF ∧
        (s.capture.filters[(5 : Fin 8)]).condition = .pending .rise ⟨412, 100000⟩ 1000 false ∧
        (s.config.inputs[(5 : Fin 8)]).hold = 1000 ∧ (s.config.inputs[(5 : Fin 8)]).selection = .both ∧
        (s.config.inputs[(5 : Fin 8)]).tag = 0 ∧
        (∀ j : Fin 8, j ≠ 5 → (s.capture.filters[j]).condition = .stable) ∧ s.access.tx = .idle ∧
        s.agreement.state ≠ .unset ∧ s.store = ⟨[], [], none, .clear⟩ ∧
        -((s.config.horizon * s.len : Nat) : Int) < timeDiff s.len s.clock.now ⟨412, 100000⟩ := by decide

/-- A station whose edge at the trigger input IN2 (lead 300,000) has been held, with an arm
outstanding or not, and a number of arms in the outbox. -/
def heldTrigger (state : AgreementState) (now : LineTime) (outstanding : Option Byte) (arms : Nat) : State :=
  let s := station state now
  { s with
    sampled := 0xFF
    config := { s.config with inputs := s.config.inputs.set 2 ⟨.both, 400, false, 17, .both, 300000⟩ }
    arms := { s.arms with outbox := (List.range arms).map fun n => tapArm (BitVec.ofNat 8 n) ⟨3002, 0⟩ false }
    capture :=
      { s.capture with
        filters := s.capture.filters.set 2 ⟨some false, .pending .rise ⟨3000, 50300⟩ 400 true, outstanding⟩ } }

/-- `s` with a step handed over. -/
def stepHanded (s : State) (new : LineTime) : State := { s with clock := { s.clock with handed := some new } }

/-- A request out of the acting states, one too early, one too far, one with an arm outstanding, one with a full outbox, one
that is granted, and one too early by the adopted time alone. -/
theorem witness_HeldTriggerEdge :
    (∀ s ∈ [stepHanded (heldTrigger .gathering ⟨3000, 50700⟩ none 0) ⟨3001, 142301⟩, heldTrigger .listening ⟨3000, 50700⟩ none 0, heldTrigger .adrift ⟨3000, 50700⟩ none 0,
        heldTrigger .locked ⟨3001, 142301⟩ none 0, heldTrigger .locked ⟨2751, 150299⟩ none 0,
        heldTrigger .alone ⟨3000, 50700⟩ (some 9) 0, heldTrigger .gathering ⟨3000, 50700⟩ none 8,
        heldTrigger .locked ⟨3001, 142300⟩ none 7],
      s.resetHeld = false ∧ s.clock.running = true ∧ s.sampled = 0xFF ∧
        (s.capture.filters[(2 : Fin 8)]).condition = .pending .rise ⟨3000, 50300⟩ 400 true ∧
        (s.config.inputs[(2 : Fin 8)]) = ⟨.both, 400, false, 17, .both, 300000⟩ ∧
        (∀ j : Fin 8, j ≠ 2 → (s.capture.filters[j]).condition = .stable) ∧ s.access.tx = .idle ∧
        s.agreement.state ≠ .unset ∧
        (⟨3001, 150300⟩ : LineTime) = timeAdd s.len ⟨3000, 50300⟩ (s.config.inputs[(2 : Fin 8)]).lead) ∧
      earlier 200000 ⟨3001, 150300⟩ (timeAdd 200000 ⟨3001, 142301⟩ 8000) = true ∧
      (⟨3001, 142301⟩ : LineTime) = (stepHanded (heldTrigger .gathering ⟨3000, 50700⟩ none 0) ⟨3001, 142301⟩).clock.handed.getD
        (heldTrigger .gathering ⟨3000, 50700⟩ none 0).clock.now ∧
      earlier 200000 ⟨3001, 150300⟩ (timeAdd 200000 ⟨3001, 142300⟩ 8000) = false ∧
      later 200000 ⟨3001, 150300⟩ (timeAddRounds ⟨3001, 142300⟩ 250) = false ∧
      later 200000 ⟨3001, 150300⟩ (timeAddRounds ⟨2751, 150299⟩ 250) = true ∧
      later 200000 ⟨3001, 150300⟩ (timeAddRounds ⟨2751, 150300⟩ 250) = false := by decide

/-- The edge at IN2 is held to its acceptance while the arm that IN2 made before it is in the outbox, in the period of a step. -/
def heldBusy (new : LineTime) : State :=
  let s := stepHanded (heldTrigger .gathering ⟨3000, 50700⟩ (some 9) 0) new
  { s with arms := { s.arms with outbox := [⟨9, 17, ⟨3000, 60000⟩, .input 2, 0, false, none⟩], nextId := 10 } }

/-- A step that passes the arm of the input, and one that does not. -/
theorem witness_HeldTriggerEdgeOfAStep :
    (∀ s ∈ [heldBusy ⟨3000, 60001⟩, heldBusy ⟨3000, 60000⟩],
      s.resetHeld = false ∧ s.clock.running = true ∧ s.sampled = 0xFF ∧
        (s.capture.filters[(2 : Fin 8)]).condition = .pending .rise ⟨3000, 50300⟩ 400 true ∧
        (∀ j : Fin 8, j ≠ 2 → (s.capture.filters[j]).condition = .stable) ∧
        s.clock.handed.getD s.clock.now ≠ s.clock.now ∧ ArmIdsDistinct s) ∧
      passedBy (heldBusy ⟨3000, 60001⟩) ⟨3000, 60001⟩ ⟨9, 17, ⟨3000, 60000⟩, .input 2, 0, false, none⟩ = true ∧
      passedBy (heldBusy ⟨3000, 60000⟩) ⟨3000, 60000⟩ ⟨9, 17, ⟨3000, 60000⟩, .input 2, 0, false, none⟩ = false := by
  unfold ArmIdsDistinct
  decide

/-! ### Witnesses: the line -/

/-- A station with a symbol on LRX. -/
def lined (y : LineSymbol) (r : Receiver) (silence : Nat) (m : Monitor) : State :=
  let s := still .locked ⟨1204, 7⟩
  { s with
    framer := { s.framer with symbol := y, receiver := r, silence := silence }
    access := { s.access with monitor := m, gapCount := 120 } }

theorem witness_StartBitDecidesTheSymbol :
    (lined .none .waitOpen 0 .busy).framer.symbol = .none ∧ (lined .none .waitOpen 0 .busy).framer.receiver ≠ .off ∧
      (lined (.begun ⟨1204, 5⟩ 3 2) .waitOpen 0 .gap).framer.symbol = .begun ⟨1204, 5⟩ 3 2 ∧
      (lined .none .waitOpen 0 .busy).resetHeld = false ∧ (lined .none .waitOpen 0 .busy).clock.handed = none ∧
      stepping.resetHeld = false ∧ stepping.framer.receiver ≠ .off ∧ stepping.framer.symbol = .none ∧
      stepping.clock.handed ≠ none ∧
      (lined (.begun ⟨1204, 5⟩ 3 2) .waitOpen 0 .gap).resetHeld = false := by decide

/-- A frame being taken. -/
def takingFrame (bytes : List Byte) : Taking := ⟨⟨1203, 9⟩, 2, bytes, checkOf bytes⟩

theorem witness_SilenceLeadsToTheWindow :
    (lined (.recognised 40) .waitOpen 0 .busy).access.monitor = .busy ∧
      (∀ r ∈ [Receiver.waitOpen, .skipping, .taking (takingFrame [1])],
        (lined .none r 40 .gap).framer.silence = 40 ∧ (lined .none r 40 .gap).framer.quietFound = false ∧
          (lined .none r 40 .gap).framer.symbol = .none ∧ (lined .none r 40 .gap).framer.receiver = r ∧
          (lined .none r 40 .gap).access.gapCount = 120 ∧ (lined .none r 40 .gap).access.monitor = .gap ∧
          (lined .none r 40 .gap).resetHeld = false) ∧
      NotTransmitting (lined .none .waitOpen 40 .gap) := by
  unfold NotTransmitting
  decide

/-- The stations of the receive tests come to a recognition while they do not send. -/
theorem recognising_meets (r : Receiver) (h : r ≠ .off) :
    Recognising (recognising (station .locked ⟨1204, 700⟩) r) ∧
      NotTransmitting (recognising (station .locked ⟨1204, 700⟩) r) :=
  ⟨⟨rfl, h, rfl⟩, nofun, nofun⟩

/-- The same while the station sends or quashes. -/
theorem witness_SymbolsWhileSending :
    ∀ tx ∈ [Transmitter.sending, .quashing], ∀ r ∈ [Receiver.waitOpen, .taking (takingFrame [1])],
      let s := recognising { station .locked ⟨1204, 700⟩ with
        access := { Access.reset with tx := tx } } r
      Recognising s ∧ s.framer.receiver = r ∧ s.clock.startBit = some ⟨1204, 0⟩ ∧ s.framer.startCount = some 0 ∧
        ¬NotTransmitting s := by
  unfold Recognising NotTransmitting
  decide

theorem witness_WaitOpenAndSkippingTakeEachSymbol :
    Recognising (recognising (station .locked ⟨1204, 700⟩) .waitOpen) ∧
      NotTransmitting (recognising (station .locked ⟨1204, 700⟩) .waitOpen) ∧
      Recognising (recognising (station .locked ⟨1204, 700⟩) .skipping) ∧
      (recognising (station .locked ⟨1204, 700⟩) .waitOpen).clock.startBit = some ⟨1204, 0⟩ ∧
      (recognising (station .locked ⟨1204, 700⟩) .waitOpen).framer.startCount = some 0 ∧
      (0 : Byte) ≠ 0x96 ∧ (0 : Byte) ≠ 0xA5 ∧ (0 : Byte) ≠ 0xC3 ∧
      (lined .none .skipping 40 .gap).resetHeld = false ∧ (lined .none .skipping 40 .gap).framer.receiver = .skipping ∧
      (lined .none .skipping 40 .gap).framer.silence = 40 ∧ (lined .none .skipping 40 .gap).framer.quietFound = false ∧
      (lined .none .skipping 40 .gap).framer.symbol = .none :=
  ⟨(recognising_meets _ (by decide)).1, (recognising_meets _ (by decide)).2, (recognising_meets _ (by decide)).1, rfl, rfl,
    by decide, by decide, by decide, rfl, rfl, rfl, rfl, rfl⟩

theorem witness_TakingTakesEachSymbol :
    (∀ n ∈ [52, 53], Recognising (recognising (station .locked ⟨1204, 700⟩) (.taking (takingFrame (List.replicate n 0)))) ∧
      NotTransmitting (recognising (station .locked ⟨1204, 700⟩) (.taking (takingFrame (List.replicate n 0)))) ∧
      (takingFrame (List.replicate n 0)).bytes.length = n) := by
  intro n _
  exact ⟨(recognising_meets _ (by simp)).1, (recognising_meets _ (by simp)).2, by simp [takingFrame]⟩

/-- A frame for each of the four tests of R126, at its boundary: 4 bytes; 6 bytes with a length of 0; a spoilt check; and the
sender ids 0 and 25. -/
theorem witness_ShutTestsTheFrameInOrder :
    Recognising (recognising (station .locked ⟨1204, 700⟩) (.taking (takingFrame [1, 2, 3, 4]))) ∧
      NotTransmitting (recognising (station .locked ⟨1204, 700⟩) (.taking (takingFrame [1, 2, 3, 4]))) ∧
      ([1, 2, 3, 4] : List Byte).length < 5 ∧
      ([1, 2, 0, 4, 5, 6] : List Byte).length ≠ (byteAt [1, 2, 0, 4, 5, 6] 2).toNat + 5 ∧
      ([1, 2, 0, 0, 0] : List Byte).length = (byteAt [1, 2, 0, 0, 0] 2).toNat + 5 ∧
      checkBytes (checkOf [1, 2, 0]) ≠ [0, 0] ∧
      (∀ id ∈ [(0 : Byte), 25],
        (frameBytes .time id []).length = (byteAt (frameBytes .time id []) 2).toNat + 5 ∧
        checkBytes (checkOf ((frameBytes .time id []).take ((frameBytes .time id []).length - 2))) =
          (frameBytes .time id []).drop ((frameBytes .time id []).length - 2) ∧
        ((byteAt (frameBytes .time id []) 1).toNat = 0 ∨ 24 < (byteAt (frameBytes .time id []) 1).toNat)) :=
  ⟨(recognising_meets _ (by decide)).1, (recognising_meets _ (by decide)).2, by decide, by decide, by decide,
    by decide +kernel, by decide +kernel⟩

/-- A station that has taken all but the SHUT of a frame, with its receive buffers. -/
def ending (tx : Transmitter) (kindByte : Byte) (sender : StationId) (body : List Byte) (a b : Buffer) : State :=
  let bytes := (kindByte :: sender :: BitVec.ofNat 8 body.length :: body) ++
    checkBytes (checkOf (kindByte :: sender :: BitVec.ofNat 8 body.length :: body))
  let s := recognising (station .locked ⟨1204, 700⟩) (.taking (takingFrame bytes))
  { s with
    access := { s.access with tx := tx }
    framer := { s.framer with bufferA := a, bufferB := b } }

/-- A frame that waits or is handled. -/
def otherFrame : ReceivedFrame := ⟨.event, 9, [1, 0, 0], .zero, 0⟩

/-- Every frame so ended has the form of R120, and comes to its SHUT's recognition, sending or not. -/
theorem witness_FramesAtTheirShut (tx : Transmitter) (kindByte : Byte) (sender : StationId) (body : List Byte)
    (a b : Buffer) :
    Recognising (ending tx kindByte sender body a b) ∧
      ∃ f, (ending tx kindByte sender body a b).framer.receiver = .taking f ∧ FrameOf f.bytes kindByte sender body :=
  ⟨⟨rfl, nofun, rfl⟩, _, rfl, rfl⟩

/-- The own id; kinds 0 and 5; a body that is not well formed; a good frame, and what its receive buffers may be. -/
theorem witness_GoodFrameReachesTheHandler :
    NotTransmitting (ending .idle 3 3 armBytes .free .free) ∧ ¬NotTransmitting (ending .sending 3 3 armBytes .free .free) ∧
      (5 : StationId) = (ending .idle 3 5 armBytes .free .free).config.id ∧
      (3 : StationId) ≠ (ending .idle 3 3 armBytes .free .free).config.id ∧ ((0 : Byte).toNat = 0 ∧ 4 < (5 : Byte).toNat) ∧
      (3 : Byte) = FrameKind.arm.code ∧ bodyWellFormed .arm [0] = false ∧ bodyWellFormed .arm armBytes = true ∧
      armBytes.length ≤ 48 ∧ (1 ≤ (3 : StationId).toNat ∧ (3 : StationId).toNat ≤ 24) ∧
      (ending .idle 3 3 armBytes (.handling otherFrame) .free).framer.bufferA = .handling otherFrame ∧
      (ending .idle 3 3 armBytes .free (.handling otherFrame)).framer.bufferB = .handling otherFrame ∧
      (ending .idle 3 3 armBytes (.handling otherFrame) (.full otherFrame)).framer.bufferA ≠ .free ∧
      (ending .idle 3 3 armBytes (.handling otherFrame) (.full otherFrame)).framer.bufferB ≠ .free := by
  unfold NotTransmitting
  decide +kernel

/-! ### Witnesses: sending -/

/-- A station at the start of a slot, its class A content reported as it stands. -/
def slotted (s : State) (rotation : StationId) (slot : Nat) (yield : Bool) (time : TimeFrame) : State :=
  { s with
    agreement := { s.agreement with timeFrame := time }
    access :=
      { Access.reset with
        monitor := .window, slotIndex := slot, rotation := rotation, tx := .waiting, yield := yield
        reportA := s.classA } }

/-- With an arm that may be sent, with a cancel that may be sent, with a TIME frame pending, with an edge to share. -/
def armReady : State := withArms (station .locked ⟨5000, 20600⟩) [tapArm 0 ⟨5001, 120000⟩ false]
def cancelReady : State :=
  { station .adrift ⟨5000, 20600⟩ with arms := { Arms.reset with cancels := [⟨0, 0, none⟩] } }
def eventReady : State :=
  { station .locked ⟨5000, 20600⟩ with
    capture := { Capture.reset with outbox := [⟨0, .rise, true, 0, ⟨412, 96000⟩⟩] } }

/-- `s` with another report of class A content than its content gives. -/
def reporting (s : State) (report : Bool) : State := { s with access := { s.access with reportA := report } }

/-- Class A in its slot with arms and with cancels; class B in its slot with a TIME frame and with an event; a late slot. -/
theorem witness_SlotStartBeginsTheFrame :
    (∀ s ∈ [slotted armReady 5 23 false .idle, slotted cancelReady 4 0 false .pending,
        slotted (station .locked .zero) 0 28 false .pending, slotted eventReady 0 28 false .idle,
        slotted eventReady 0 52 true .idle, slotted armReady 5 52 true .pending],
      s.resetHeld = false ∧ s.access.monitor = .window ∧ s.access.slotCount = 0 ∧ s.access.slotTaken = false ∧
        s.access.tx = .waiting ∧ s.framer.engine = none) ∧
      (∀ s ∈ [slotted armReady 5 23 false .idle, slotted cancelReady 4 0 false .pending],
        s.access.yield = false ∧ s.access.reportA = true ∧ s.classA = true ∧
          (s.access.slotIndex : Int) = ((s.config.id.toNat : Int) - s.access.rotation.toNat - 1) % 24) ∧
      (∀ s ∈ [slotted (station .locked .zero) 0 28 false .pending, slotted eventReady 0 28 false .idle],
        s.access.yield = false ∧ s.access.slotIndex = 24 + 4 ∧
          (4 : Int) = ((s.config.id.toNat : Int) - s.access.rotation.toNat - 1) % 24 ∧ s.access.reportA = false ∧
          s.classB = true) ∧
      (∀ s ∈ [slotted eventReady 0 52 true .idle, slotted armReady 5 52 true .pending],
        s.access.yield = true ∧ s.access.slotIndex = 48 + (s.config.id.toNat - 1) ∧
          (s.access.reportA = true ∨ s.classB = true)) ∧
      (slotted armReady 5 23 false .idle).eligibleCancels = [] ∧ (slotted armReady 5 23 false .idle).eligibleArms ≠ [] ∧
      (slotted cancelReady 4 0 false .pending).eligibleCancels ≠ [] := by decide

/-- An arm reported that has passed, alone and with a TIME frame; and a slot start that begins nothing: no report, a class B slot
with class A reported, another slot, yield in another slot than the late one, no content, another transmitter;
and a period in which no slot starts. -/
theorem witness_SlotStartBeginsNoFrame :
    (∀ time ∈ [TimeFrame.idle, .pending],
      (reporting (slotted (station .locked ⟨5000, 20600⟩) 5 23 false time) true).access.reportA = true ∧
        (reporting (slotted (station .locked ⟨5000, 20600⟩) 5 23 false time) true).classA = false ∧
        (reporting (slotted (station .locked ⟨5000, 20600⟩) 5 23 false time) true).classB = (time == .pending)) ∧
      (∀ s ∈ [reporting (slotted armReady 5 23 false .idle) false, slotted armReady 5 47 false .pending,
          slotted armReady 5 24 false .pending, slotted armReady 5 52 false .pending, slotted armReady 5 23 true .pending,
          slotted (station .locked .zero) 0 52 true .idle],
        s.resetHeld = false ∧ s.access.monitor = .window ∧ s.access.slotCount = 0 ∧ s.access.slotTaken = false) ∧
      (reporting (slotted armReady 5 23 false .idle) false).access.reportA = false ∧
      (slotted armReady 5 47 false .pending).access.reportA = true ∧
      (23 : Int) = (((slotted armReady 5 24 false .pending).config.id.toNat : Int) - 5 - 1) % 24 ∧
      (slotted armReady 5 23 true .pending).access.slotIndex ≠ 48 + (5 - 1) ∧
      (slotted (station .locked .zero) 0 52 true .idle).classB = false ∧
      (mutedAtSlot 52 false).access.tx ≠ .waiting ∧ (lined .none .waitOpen 0 .busy).access.monitor ≠ .window := by decide

/-- An engine at a symbol's readback. -/
def atReadback : Engine := ⟨.time, frameBytes .time 5 (timeBytes3071 4), ⟨1204, 0⟩, 1, 38, false, .frame, false⟩

theorem witness_ReadbackDecidesTheSymbol :
    (sending (station .locked .zero) atReadback).framer.engine = some atReadback ∧
      (sending (station .locked .zero) atReadback).access.tx = .sending ∧
      (sending (station .locked .zero) atReadback).resetHeld = false ∧ atReadback.course = .frame ∧
      atReadback.age = 38 ∧ atReadback.readWell = false ∧ atReadback.orphan = false ∧
      atReadback.symbol.bits = 0b1000000010#10 ∧ (0b1000000000#10 : BitVec 10) ≠ atReadback.symbol.bits := by
  decide +kernel

/-- An engine at the end of its frame's SHUT. -/
def atEnd (kind : FrameKind) : Engine := ⟨kind, [1, 2, 3], ⟨1204, 0⟩, 4, 40, true, .frame, false⟩

/-- A station whose own TIME frame is in flight. -/
def timeInFlight (x : TimeFrame) : State :=
  { station .locked ⟨1204, 700⟩ with agreement := { Agreement.reset with state := .locked, timeFrame := x } }

theorem witness_GoodEndReportsToTheOwner :
    (∀ k ∈ [FrameKind.time, .event, .arm, .cancel],
      (sending (timeInFlight .inFlight) (atEnd k)).framer.engine = some (atEnd k) ∧ (atEnd k).course = .frame ∧
        (atEnd k).index = (atEnd k).bytes.length + 1 ∧ (atEnd k).age = 40 ∧ (atEnd k).readWell = true ∧
        (atEnd k).orphan = false ∧ (atEnd k).kind = k) ∧
      (sending (timeInFlight .inFlight) (atEnd .time)).resetHeld = false ∧
      (sending (timeInFlight .inFlightPending) (atEnd .time)).agreement.timeFrame = .inFlightPending := by decide

/-- 3.11: station 3's first send, with a send count of 2 or 1. -/
def firstSend (sendCount : Nat) : State :=
  let s := sending (withArms (station .locked ⟨5000, 33400⟩) [⟨0, 18, ⟨5001, 120000⟩, .tap, 0, false, none⟩]) (atEnd .arm)
  { s with
    config := { config with sendCount := sendCount }
    arms := { s.arms with inFlight := .arms 5000 [⟨0, 18, ⟨5001, 120000⟩, true⟩] } }

/-- A first send of the one cancel record, with a send count of 2 or 1. -/
def firstCancel (sendCount : Nat) : State :=
  let s := sending (station .adrift ⟨5000, 33400⟩) (atEnd .cancel)
  { s with
    config := { config with sendCount := sendCount }
    schedule := [⟨⟨5001, 118000⟩, 1, .fire, 5, 0, 17, 0⟩, entry ⟨7000, 5⟩]
    arms := { s.arms with
      cancels := [⟨0, 0, none⟩], inFlight := .cancels 5000 [⟨0, true⟩]
      history := s.arms.history.set 4 [⟨0, .accepted 17 ⟨5001, 120000⟩⟩] } }

/-- A station with two bindings of tag 17, the record of IN2's arm 0 between two others in its outbox, and that input holding it. -/
def carrying (now : LineTime) (sendCount sends : Nat) (effective : Bool) : State :=
  let s := withArms (station .locked now) [tapArm 4 ⟨5002, 0⟩ false,
    ⟨0, 17, ⟨5001, 120000⟩, .input 2, sends, effective, if effective then some 4999 else none⟩, tapArm 5 ⟨5002, 0⟩ true]
  { s with
    config := { config with sendCount := sendCount, bindings := [⟨17, 3, .set, 0⟩, ⟨18, 3, .clear, 0⟩, ⟨17, 1, .fire, -2000⟩] }
    capture := { s.capture with filters := s.capture.filters.set 2 ⟨some false, .stable, some 0⟩ } }

theorem witness_FirstGoodSendMakesTheArmEffective :
    ∀ n ∈ [1, 2],
      (firstSend n).resetHeld = false ∧ (firstSend n).framer.engine = some (atEnd .arm) ∧
        (firstSend n).arms.inFlight = .arms 5000 [⟨0, 18, ⟨5001, 120000⟩, true⟩] ∧
        (firstCancel n).resetHeld = false ∧ (firstCancel n).framer.engine = some (atEnd .cancel) ∧
        (firstCancel n).arms.inFlight = .cancels 5000 [⟨0, true⟩] ∧ (atEnd .arm).kind = .arm ∧
        (atEnd .cancel).kind = .cancel ∧ (atEnd .arm).course = .frame ∧
        (atEnd .arm).index = (atEnd .arm).bytes.length + 1 ∧ (atEnd .arm).age = 40 ∧ (atEnd .arm).readWell = true ∧
        (atEnd .arm).orphan = false := by decide

/-- An arm with bindings, made by an input: a first send, a repeat that ends the sends, an action time passed in the flight; and
an arm that no record is of. -/
theorem witness_OneArmSentWell :
    (∀ s ∈ [carrying ⟨5001, 100000⟩ 2 0 false, carrying ⟨5001, 100000⟩ 2 1 true, carrying ⟨5001, 120001⟩ 3 1 true],
      ArmIdsDistinct s ∧ (∃ r, s.arms.outbox = [tapArm 4 ⟨5002, 0⟩ false] ++ r :: [tapArm 5 ⟨5002, 0⟩ true] ∧ r.id = 0 ∧
        r.source = .input 2 ∧ r.action = ⟨5001, 120000⟩) ∧
        (s.capture.filters[(2 : Fin 8)]).outstanding = some 0 ∧ ∀ r ∈ s.arms.outbox, r.id ≠ 9) ∧
      0 + 1 < (carrying ⟨5001, 100000⟩ 2 0 false).config.sendCount ∧
      (carrying ⟨5001, 100000⟩ 2 1 true).config.sendCount ≤ 1 + 1 ∧
      later 200000 ⟨5001, 100000⟩ ⟨5001, 120000⟩ = false ∧ later 200000 ⟨5001, 120001⟩ ⟨5001, 120000⟩ = true ∧
      (requestsOf (carrying ⟨5001, 100000⟩ 2 0 false) 5 0 17 ⟨5001, 120000⟩).length = 2 := by
  refine ⟨?_, by decide⟩
  simp only [List.forall_mem_cons]
  unfold ArmIdsDistinct
  exact ⟨⟨by decide, ⟨_, rfl, by decide⟩, by decide⟩, ⟨by decide, ⟨_, rfl, by decide⟩, by decide⟩,
    ⟨by decide, ⟨_, rfl, by decide⟩, by decide⟩, fun _ h => absurd h List.not_mem_nil⟩

/-- A cancel's first send and a repeat, the record there or gone, its sends complete or not. -/
theorem witness_OneCancelSentWell :
    (∀ n ∈ [1, 2], ArmIdsDistinct (firstCancel n) ∧
      (firstCancel n).arms.cancels = [] ++ (⟨0, 0, none⟩ : CancelRecord) :: [] ∧ (firstCancel n).config.sendCount = n ∧
      ∀ r ∈ (firstCancel n).arms.cancels, r.id ≠ 9) ∧ (1 ≤ 0 + 1 ∧ 0 + 1 < 2) := by
  unfold ArmIdsDistinct
  decide

/-- A station at the end of its QUASH after a number of collisions. -/
def quashed (kind : FrameKind) (collisions : Nat) : State :=
  let s := sending (timeInFlight .inFlight) ⟨kind, [1, 2, 3], ⟨1204, 0⟩, 1, 40, false, .quash, false⟩
  { s with access := { s.access with tx := .quashing, collisions := collisions } }

/-- A collided ARM frame whose first arm, of IN2, has passed in the flight and whose second has not. -/
def armsQuashed (collisions : Nat) (effective : Bool) : State :=
  let s := quashed .arm collisions
  { s with
    clock := { s.clock with now := ⟨5001, 120001⟩ }
    capture := { s.capture with filters := s.capture.filters.set 2 ⟨some false, .stable, some 0⟩ }
    arms := { s.arms with
      inFlight := .arms 5000 [⟨0, 17, ⟨5001, 120000⟩, !effective⟩, ⟨1, 17, ⟨5002, 0⟩, true⟩]
      outbox := [⟨0, 17, ⟨5001, 120000⟩, .input 2, if effective then 1 else 0, effective, none⟩, tapArm 1 ⟨5002, 0⟩ false] } }

/-- Collided frames of every kind, below the eighth collision and at it, with an arm that expires and without. -/
theorem witness_QuashEndCountsTheCollision :
    (∀ s ∈ [quashed .time 6, quashed .event 7, quashed .cancel 6, armsQuashed 6 false, armsQuashed 7 true],
      s.resetHeld = false ∧ (s.framer.engine.map fun e => (e.course, e.age, e.orphan)) = some (.quash, 40, false) ∧
        s.agreement.timeFrame = .inFlight ∧ (s.access.collisions = 6 ∨ s.access.collisions = 7) ∧ ArmIdsDistinct s) ∧
      (∀ effective, [(⟨0, 17, ⟨5001, 120000⟩, .input 2, if effective then 1 else 0, effective, none⟩ : ArmRecord)] =
        (armsQuashed 6 effective).arms.outbox.filter fun r =>
          later (armsQuashed 6 effective).len (armsQuashed 6 effective).clock.now r.action &&
            ([⟨0, 17, ⟨5001, 120000⟩, !effective⟩, ⟨1, 17, ⟨5002, 0⟩, true⟩] : List CarriedArm).any fun a =>
              a.id == r.id) ∧
      (quashed .cancel 6).arms.inFlight = .none := by
  unfold ArmIdsDistinct
  exact ⟨by decide +kernel, by decide +kernel, by decide⟩

/-! ### Witnesses: the tap port -/

theorem witness_ScsFramesTheTransaction :
    State.reset.tap.state = .idle ∧ State.reset.resetHeld = false ∧
      (tapping State.reset .response (some .readEvent) []).tap.state ≠ .idle ∧
      (tapping State.reset .response (some .readEvent) []).tap.restartTaken = false := by decide

theorem witness_CommandByteIsTheTakePoint :
    (∀ s ∈ [tapping State.reset .command none [], tapping (station .locked .zero) .command none []],
      s.resetHeld = false ∧ s.tap.state = .command) ∧
      (tapping (station .locked .zero) .command none []).access.tx = .idle ∧
      (tapping (station .locked .zero) .command none []).agreement.state ≠ .unset ∧
      State.reset.loader.state ≠ .fault ∧
      (tapping { State.reset with loader := ⟨.fault, .noMemory, 0, .none, []⟩ } .command none []).loader.state = .fault ∧
      (0x08 : Byte) ∉ ([0x01, 0x02, 0x03, 0x04, 0x05, 0x06, 0x07, 0x10, 0x11, 0x20] : List Byte) := by decide

theorem witness_ReadsTakeOnePosition :
    (∀ cmd ∈ [TapCommand.readPeer, .readSchedule, .readOutbox],
      (tapping (station .locked .zero) .parameters (some cmd) []).resetHeld = false ∧
        (tapping (station .locked .zero) .parameters (some cmd) []).tap.params = [] ∧
        (tapping (station .locked .zero) .parameters (some cmd) []).tap.command = some cmd ∧
        (tapping (station .locked .zero) .parameters (some cmd) []).agreement.state ≠ .unset ∧
        (tapping (station .locked .zero) .parameters (some cmd) []).access.tx = .idle) ∧
      (1 ≤ (24 : Byte).toNat ∧ (24 : Byte).toNat ≤ 24) ∧ 24 < (25 : Byte).toNat ∧ (31 : Byte).toNat ≤ 31 ∧
      31 < (32 : Byte).toNat ∧ (7 : Byte).toNat ≤ 7 ∧ 7 < (8 : Byte).toNat ∧
      (List.replicate 32 (entry ⟨7000, 5⟩))[31]? = some (entry ⟨7000, 5⟩) := by decide

/-- The reads of one position, and COUNT EVENTS and READ EVENT with the Loader in FAULT, in UNSET. -/
theorem witness_ReadsInUnset :
    (∀ cmd ∈ [TapCommand.readPeer, .readSchedule, .readOutbox],
      (tapping State.reset .parameters (some cmd) []).agreement.state = .unset ∧
        (tapping State.reset .parameters (some cmd) []).tap.command = some cmd ∧
        (tapping State.reset .parameters (some cmd) []).tap.params = [] ∧
        (tapping State.reset .parameters (some cmd) []).resetHeld = false) ∧
      (tapping { State.reset with loader := ⟨.fault, .noMemory, 0, .none, []⟩ } .command none []).agreement.state = .unset := by
  decide

theorem witness_ReadCountersMayClear :
    (tapping State.reset .parameters (some .readCounters) []).resetHeld = false ∧
      (tapping State.reset .parameters (some .readCounters) []).tap.state = .parameters ∧
      (tapping State.reset .parameters (some .readCounters) []).tap.command = some .readCounters ∧
      (2 : Byte) ≠ 0 ∧ (2 : Byte) ≠ 1 := by
  decide

/-- A POST TRIGGER of a tag and a form that has come to its eighth byte, with a lead or a phase of 0. -/
def posting (s : State) (tag form : Byte) : State := tapping s .parameters (some .postTrigger) [tag, form, 0x1F, 0, 0, 0, 0]

/-- A station in UNSET, a bad form, an absolute phase of L, an absolute one below it, a refused state, and each answer of the
checks. -/
theorem witness_PostTriggerCreatesOneArm :
    (∀ s ∈ [posting (station .unset .zero) 17 1, posting (station .locked .zero) 17 2, posting (station .locked .zero) 17 0,
        posting (station .listening .zero) 17 1, posting (station .adrift .zero) 17 1, posting (station .alone .zero) 0 1,
        posting fullOutboxes 17 1],
      s.resetHeld = false ∧ s.tap.state = .parameters ∧ s.tap.command = some .postTrigger ∧
        s.tap.params.length = 7 ∧ s.access.tx = .idle) ∧
      (posting (station .unset .zero) 17 1).agreement.state = .unset ∧ ((2 : Byte) ≠ 0 ∧ (2 : Byte) ≠ 1) ∧
      200000 ≤ leValue [0x40, 0x0D, 0x03] ∧ leValue [0x3F, 0x0D, 0x03] < 200000 ∧
      Acting (posting (station .alone .zero) 0 1) ∧
      earlier 200000 (timeAdd 200000 .zero 7999) (timeAdd 200000 .zero config.margin) = true ∧
      earlier 200000 (timeAdd 200000 .zero 8000) (timeAdd 200000 .zero config.margin) = false ∧
      later 200000 (timeAdd 200000 .zero 50000000) (timeAddRounds .zero 250) = false ∧
      later 200000 (timeAdd 200000 .zero 50000001) (timeAddRounds .zero 250) = true ∧
      ((posting (station .locked .zero) 17 1).arms.outbox.length = 0 ∧ fullOutboxes.arms.outbox.length = 8) := by
  unfold Acting
  decide

/-- A station with a tap arm and a number of cancels queued, at the arm id byte of a CANCEL TRIGGER. -/
def cancelling (effective : Bool) (cancels : Nat) : State :=
  let s := tapping (withArms (station .locked ⟨5000, 90000⟩) [tapArm 0 ⟨5001, 120000⟩ effective]) .parameters
    (some .cancelTrigger) []
  { s with arms := { s.arms with cancels := (List.range cancels).map fun n => ⟨BitVec.ofNat 8 (8 + n), 0, none⟩ } }

theorem witness_CancelTriggerWithdrawsTheArm :
    (∀ s ∈ [cancelling false 0, cancelling true 7, cancelling true 8],
      s.resetHeld = false ∧ s.tap.state = .parameters ∧ s.tap.command = some .cancelTrigger ∧ s.tap.params = [] ∧
        s.access.tx = .idle ∧ s.agreement.state ≠ .unset ∧ s.arms.inFlight = .none ∧ ArmIdsDistinct s ∧
        (∀ c ∈ s.arms.cancels, c.id ≠ 0) ∧ (∀ r ∈ s.arms.outbox, r.id ≠ 1) ∧
        (∀ h ∈ s.historyOf s.config.id, h.id ≠ 1)) ∧
      (cancelling true 7).arms.cancels.length < 8 ∧ 8 ≤ (cancelling true 8).arms.cancels.length ∧
      (cancelling true 8).arms.outbox = [] ++ tapArm 0 ⟨5001, 120000⟩ true :: [] := by
  unfold ArmIdsDistinct
  decide

/-- A CANCEL TRIGGER at a station with the record of an input's arm, frames in flight, a cancel outbox and an own history. -/
def withdrawing (rs : List ArmRecord) (flight : InFlight) (cancels : List CancelRecord) (own : List HistoryEntry) : State :=
  let s := tapping (withArms (station .locked ⟨5000, 90000⟩) rs) .parameters (some .cancelTrigger) []
  { s with
    capture := { s.capture with filters := s.capture.filters.set 2 ⟨some false, .stable, some 0⟩ }
    arms := { s.arms with inFlight := flight, cancels := cancels, history := s.arms.history.set 4 own } }

/-- A record made by an input, not effective. -/
def inputArm : ArmRecord := ⟨0, 17, ⟨5001, 120000⟩, .input 2, 0, false, none⟩

/-- A record carried; an id carried without a record; one ACCEPTED without a record; the same with a cancel queued, with a cancel in
flight and with a full cancel outbox; an input's record that is not carried; an id CANCELLED; and UNSET. -/
theorem witness_RowsOfACancel :
    (∀ s ∈ [withdrawing [inputArm] (.arms 5000 [⟨0, 17, ⟨5001, 120000⟩, true⟩]) [] [],
        withdrawing [] (.arms 5000 [⟨0, 17, ⟨5001, 120000⟩, true⟩]) [] [],
        withdrawing [] .none [] [⟨0, .accepted 17 ⟨5001, 120000⟩⟩],
        withdrawing [] .none [⟨0, 1, none⟩] [⟨0, .accepted 17 ⟨5001, 120000⟩⟩],
        withdrawing [] (.cancels 5000 [⟨0, true⟩]) [] [⟨0, .accepted 17 ⟨5001, 120000⟩⟩],
        withdrawing [] .none ((List.range 8).map fun n => ⟨BitVec.ofNat 8 (8 + n), 0, none⟩)
          [⟨0, .accepted 17 ⟨5001, 120000⟩⟩],
        withdrawing [inputArm] .none [] [], withdrawing [] .none [] [⟨0, .cancelled 17 ⟨5001, 120000⟩⟩]],
      s.resetHeld = false ∧ s.tap.state = .parameters ∧ s.tap.command = some .cancelTrigger ∧ s.tap.params = [] ∧
        s.agreement.state ≠ .unset ∧ ArmIdsDistinct s) ∧
      CarriesArm (withdrawing [] (.arms 5000 [⟨0, 17, ⟨5001, 120000⟩, true⟩]) [] []) 0 ∧
      CarriesCancel (withdrawing [] (.cancels 5000 [⟨0, true⟩]) [] [⟨0, .accepted 17 ⟨5001, 120000⟩⟩]) 0 ∧
      ¬CarriesArm (withdrawing [inputArm] .none [] []) 0 ∧ ¬CarriesCancel (withdrawing [inputArm] .none [] []) 0 ∧
      (∃ h ∈ (withdrawing [] .none [] [⟨0, .accepted 17 ⟨5001, 120000⟩⟩]).historyOf 5, h.id = 0 ∧
        ∃ tag action, h.status = .accepted tag action) ∧
      (∀ h ∈ (withdrawing [] .none [] [⟨0, .cancelled 17 ⟨5001, 120000⟩⟩]).historyOf 5, h.id = 0 →
        ∀ tag action, h.status ≠ .accepted tag action) ∧
      (tapping State.reset .parameters (some .cancelTrigger) []).agreement.state = .unset := by
  refine ⟨?_, ⟨_, _, rfl, _, List.mem_singleton.2 rfl, rfl⟩, ⟨_, _, rfl, _, List.mem_singleton.2 rfl, rfl⟩, ?_, ?_,
    ⟨_, List.mem_singleton.2 rfl, rfl, _, _, rfl⟩, ?_, rfl⟩
  · unfold ArmIdsDistinct
    decide +kernel
  · rintro ⟨_, _, h, _⟩
    cases h
  · rintro ⟨_, _, h, _⟩
    cases h
  · intro h m _ tag action e
    obtain rfl : h = ⟨0, .cancelled 17 ⟨5001, 120000⟩⟩ := List.mem_singleton.1 m
    cases e

/-- A READ EVENT awaiting its response. -/
def readingEvent (s : State) : State := { s with tap := { Tap.reset with state := .turnaround, eventRead := .awaited } }

theorem witness_ReadEventGivesTheHeadOfTheLane :
    (readingEvent (storing ⟨2000, 0⟩ 1 none)).resetHeld = false ∧
      (readingEvent (storing ⟨2000, 0⟩ 1 none)).tap.state = .turnaround ∧
      (readingEvent (storing ⟨2000, 0⟩ 1 none)).tap.eventRead = .awaited ∧
      (readingEvent (storing ⟨2000, 0⟩ 1 none)).store.lane = record ⟨1997, 190000⟩ :: [] ∧
      (readingEvent (station .locked .zero)).store.lane = [] := by decide

/-- A transaction at its last response byte. -/
def lastByte (cmd : TapCommand) (x : EventRead) : State :=
  { station .locked .zero with
    tap := { Tap.reset with state := .response, command := some cmd, response := [2], eventRead := x } }

theorem witness_CompleteTransactionHasItsEffect :
    ∀ s ∈ [lastByte .readStatus .none, lastByte .readEvent .head, lastByte .readEvent .empty],
      s.resetHeld = false ∧ s.tap.state = .response ∧ s.tap.response = [2] := by decide

theorem witness_TapBytesMoveTheTransaction :
    (∀ x ∈ [TapState.idle, .command, .parameters, .turnaround, .response, .done],
      (tapping State.reset x (some .postTrigger) (List.replicate 6 0)).resetHeld = false ∧
        (tapping State.reset x (some .postTrigger) (List.replicate 6 0)).tap.state = x ∧
        (tapping State.reset x (some .postTrigger) (List.replicate 6 0)).tap.params.length < 7 ∧
        (tapping State.reset x (some .postTrigger) (List.replicate 6 0)).tap.eventRead ≠ .awaited) ∧
      (0x11 : Byte) ∈ ([0x02, 0x03, 0x04, 0x05, 0x10, 0x11] : List Byte) := by decide

/-! ### Witnesses: loading -/

/-- A station that loads, at a retry count and with a read in progress. -/
def loading (retry : Nat) (x : LoaderRead) : State := { State.reset with loader := ⟨.loading, .none, retry, x, []⟩ }

theorem witness_HeadReadIsRetriedAndTested :
    (loading 2 .head).resetHeld = false ∧ (loading 2 .head).loader.read = .head ∧ (loading 2 .head).loader.retry < 3 ∧
      (loading 3 (.body [0x15, 0xA6, 0xAB, 0x01])).loader.read = .body [0x15, 0xA6, 0xAB, 0x01] ∧
      3 ≤ (loading 3 .head).loader.retry ∧ (loading 3 .head).loader.read = .head ∧
      (0x15 : Byte).toNat + 256 * (0xA6 : Byte).toNat = 42517 ∧ (0x14 : Byte).toNat + 256 * (0xA6 : Byte).toNat ≠ 42517 ∧
      (∃ k : Nat, k ≤ 48 ∧ (0xAB : Byte).toNat + 256 * (0x01 : Byte).toNat = 139 + 6 * k) ∧
      ∀ k : Nat, k ≤ 48 → (0xB1 : Byte).toNat + 256 * (0x01 : Byte).toNat ≠ 139 + 6 * k := by
  refine ⟨by decide, by decide, by decide, by decide, by decide, by decide, by decide, by decide, ⟨48, by decide, by decide⟩, ?_⟩
  intro k hk h
  have : (0xB1 : Byte).toNat + 256 * (0x01 : Byte).toNat = 433 := by decide
  omega

/-- The head of an image of 139 bytes. -/
def imageHead : List Byte := [0x15, 0xA6, 0x8B, 0x00]

/-- The station-wide values of a shortest image: id 5, L = 200,000, S = 40, line delay 60, M = 8,000, send count 2, H = 2, no
attention-on-release. -/
def imageValues : List Byte := [5, 0x40, 0x0D, 0x03, 40, 0, 60, 0x40, 0x1F, 0x00, 2, 2, 0]

/-- Thirty zeros. -/
def zeros : List Byte := List.replicate 30 0

/-- The image from offset 4 up to its check: no input and no output is used. -/
def imageFields : List Byte := imageValues ++ (zeros ++ (zeros ++ (zeros ++ zeros)))

theorem check_of_values : checkOf (imageHead ++ imageValues) = 34054#16 := by decide +kernel
theorem check_of_zeros1 : zeros.foldl checkByte 34054#16 = 39704#16 := by decide +kernel
theorem check_of_zeros2 : zeros.foldl checkByte 39704#16 = 49474#16 := by decide +kernel
theorem check_of_zeros3 : zeros.foldl checkByte 49474#16 = 50881#16 := by decide +kernel
theorem check_of_zeros4 : zeros.foldl checkByte 50881#16 = 53320#16 := by decide +kernel

theorem check_of_image : checkOf (imageHead ++ imageFields) = 53320#16 := by
  have h := check_of_values
  unfold checkOf at h ⊢
  rw [imageFields, ← List.append_assoc, List.foldl_append, List.foldl_append, List.foldl_append, List.foldl_append, h,
    check_of_zeros1, check_of_zeros2, check_of_zeros3, check_of_zeros4]

/-- The bytes of the image from offset 4, with a check. -/
def imageBody (low high : Byte) : List Byte := imageFields ++ [low, high]

/-- A sound image, and the same image with another check. -/
theorem witness_BodyReadEndsTheLoad :
    (loading 0 (.body imageHead)).resetHeld = false ∧ (loading 0 (.body imageHead)).loader.read = .body imageHead ∧
      (imageBody 0x48 0xD0).length + 4 = numAt imageHead 2 2 ∧ (loading 0 (.body imageHead)).access.tx = .off ∧
      imageFault (imageHead ++ imageBody 0x48 0xD0) = .none ∧ imageFault (imageHead ++ imageBody 0 0) = .badCheck := by
  have taken : ∀ low high, (imageHead ++ imageBody low high).take ((imageHead ++ imageBody low high).length - 2) =
      imageHead ++ imageFields := by
    intro low high
    unfold imageBody
    rw [← List.append_assoc]
    exact List.take_left' (by simp; omega)
  have left : ∀ low high, (imageHead ++ imageBody low high).drop ((imageHead ++ imageBody low high).length - 2) =
      [low, high] := by
    intro low high
    unfold imageBody
    rw [← List.append_assoc]
    exact List.drop_left' (by simp; omega)
  refine ⟨rfl, rfl, by decide +kernel, rfl, ?_, ?_⟩
  · unfold imageFault
    simp only [taken, left, check_of_image]
    decide +kernel
  · unfold imageFault
    simp only [taken, left, check_of_image]
    decide +kernel

theorem witness_FrameBodiesGiveBackTheirRecords :
    0 < 2097152 ∧ (2097152 : Nat) ≤ 2097152 ∧ ([tapArm 0 ⟨5001, 2097151⟩ true] : List ArmRecord).length ≤ 4 ∧
      (∀ r ∈ [tapArm 0 ⟨5001, 2097151⟩ true], r.action.phase < 2097152) ∧
      ([⟨7, .fall, false, 9, ⟨5001, 2097151⟩⟩] : List SharedEdge).length ≤ 5 ∧
      (∀ e ∈ ([⟨7, .fall, false, 9, ⟨5001, 2097151⟩⟩] : List SharedEdge), e.stamp.phase < 2097152) ∧
      ([⟨255, 0, none⟩] : List CancelRecord).length ≤ 8 := by decide

theorem witness_SentFramesPassTheReceiversChecks :
    1 ≤ (24 : StationId).toNat ∧ (24 : StationId).toNat ≤ 24 ∧ (List.replicate 48 (0 : Byte)).length ≤ 48 ∧
      (∀ r ∈ List.replicate 4 (tapArm 0 ⟨5001, 120000⟩ true), r.tag ≠ 0) ∧
      (List.replicate 4 (tapArm 0 ⟨5001, 120000⟩ true)).length ≤ 4 := by decide

/-! ### Witnesses: the invariants -/

/-- A full station: it meets the capacities at their ends. -/
theorem witness_EveryStepKeepsTheCapacities :
    WithinCapacity { fullOutboxes with schedule := List.replicate 32 (entry ⟨7000, 5⟩), pending := [.settle] } ∧
      ∃ t, step { fullOutboxes with schedule := List.replicate 32 (entry ⟨7000, 5⟩), pending := [.settle] } = .next t := by
  refine ⟨?_, _, rfl⟩
  unfold WithinCapacity
  refine ⟨by decide, by decide, by decide, by decide, by decide, by decide, ?_⟩
  intro f h
  cases h

theorem witness_EveryStepKeepsTheClockInRange :
    ClockInRange { pacing 200 999999 199999 with pending := [.referencePeriod] } ∧
      ∃ t, step { pacing 200 999999 199999 with pending := [.referencePeriod] } = .next t := by
  refine ⟨?_, _, rfl⟩
  unfold ClockInRange
  decide

theorem witness_OutputsActOnlyInActingStates :
    OutputsLegal { pulsing with pending := [.pulseEnd 1] } ∧
      (∃ t, step { pulsing with pending := [.pulseEnd 1] } = .next t) ∧
      pulsing.outPin 1 = .driven true ∧ pulsing.outPin 1 ≠ safePin (pulsing.config.outputs[(1 : Fin 8)]) := by
  refine ⟨?_, ⟨_, rfl⟩, ?_⟩
  · unfold OutputsLegal
    decide
  · decide

/-- An input that holds an arm, whose record is in the outbox. -/
theorem witness_EveryStepKeepsTheArmsInStep :
    WithinCapacity { passedArm false with pending := [.armExpired 0] } ∧
      ArmIdsDistinct { passedArm false with pending := [.armExpired 0] } ∧
      InputsInStep { passedArm false with pending := [.armExpired 0] } ∧
      ∃ t, step { passedArm false with pending := [.armExpired 0] } = .next t := by
  refine ⟨?_, ?_, ?_, _, rfl⟩
  · unfold WithinCapacity
    refine ⟨by decide, by decide, by decide, by decide, by decide, by decide, ?_⟩
    intro f h
    cases h
  · unfold ArmIdsDistinct
    decide
  · unfold InputsInStep
    intro i id
    have one : ({ passedArm false with pending := [.armExpired 0] } : State).arms.outbox =
        [⟨0, 17, ⟨5001, 120000⟩, .input 2, 0, false, none⟩] := rfl
    rw [one]
    simp only [List.mem_singleton, exists_eq_left, ArmSource.input.injEq]
    revert i
    intro i
    fin_cases i <;> simp [passedArm, withArms, station, State.reset, Capture.reset, InputFilter.reset]

/-! ### Commands at work: the spec's worked examples -/

/-- 1.3: the close with c = +25 at a trim of +10: the boundary into 1205 at phase 25, trim +72. -/
theorem test_close_jumps_forward :
    gives (exec .roundClose
      { withPeer (closing .locked) 6 (livePeer 50) with clock := { (closing .locked).clock with trim := 10 } })
      (fun t => t.clock.now = ⟨1205, 25⟩ ∧ t.clock.trim = 72 ∧ t.clock.overtime = 0 ∧
        t.agreement.lastAdjust = .correction 25) = true := by decide +kernel

/-- 1.3: the close with c = -30 at a trim of +72: 30 ticks of overtime, trim -3. -/
theorem test_close_begins_overtime :
    gives (exec .roundClose
      { withPeer (closing .locked) 6 (livePeer (-60)) with clock := { (closing .locked).clock with trim := 72 } })
      (fun t => t.clock.now = ⟨1204, 199999⟩ ∧ t.clock.trim = -3 ∧ t.clock.overtime = 30) = true := by decide +kernel

/-- 1.3: the boundary at the end of an overtime, and R85 at a ROUND output. -/
theorem test_overtime_ends_at_phase_zero :
    gives (exec .overtimeEnd (overtime .muted)) (fun t => t.clock.now = ⟨1206, 0⟩ ∧ t.clock.overtime = 0 ∧
      t.outputs[(6 : Fin 8)] = ⟨.acting, false, none, none⟩) = true := by decide +kernel

/-- R2: a pace count that reaches 1,000,000 with a positive trim makes two single advances. -/
theorem test_period_of_two_advances :
    gives (exec .referencePeriod (pacing 200 999800 199997)) (fun t => t.clock.now = ⟨1204, 199999⟩ ∧ t.clock.pace = 0) =
      true := by decide +kernel

/-- R151: the mute ends at the boundary. -/
theorem test_mute_ends : gives (exec .muteEnd (overtime .muted)) (fun t => t.access.tx = .idle ∧ t.access.mute = 0) = true := by
  decide +kernel

/-- 2.8: the close of round 1206 at station 5, at a trim of +29. -/
theorem test_third_strike :
    gives (exec (.peerBarred 12) { striking with clock := { striking.clock with trim := 29 } })
      (fun t => (t.peerOf 12).state = .barred ∧ (t.peerOf 12).barred = 16 ∧ (t.peerOf 12).strikes = 3 ∧
        (t.peerOf 3).strikes = 0 ∧ t.clock.trim = 31 ∧ t.clock.now = ⟨1205, 1⟩ ∧
        t.store.settling.map (fun r => (r.body, r.origin)) = [(.note .peerBarred 3, 12)]) = true := by decide +kernel

/-- 2.9: station 14 adopts the time of station 3 (its id here is 5): the step is handed over, and now is the old line time to
the end of the period (R9). -/
theorem test_adoption :
    gives (exec .frameHandlingEnd joining) (fun t => t.clock.now = ⟨2, 4150⟩ ∧ t.clock.handed = some ⟨3071, 2110⟩ ∧
      t.agreement.state = .gathering ∧
      (t.peerOf 3).offset = some 613797960 ∧ (t.peerOf 3).fresh = false ∧ t.agreement.adjustCount = 1 ∧
      t.store.settling.map (·.body) = [.note .step 3, .note .agreement 3]) = true := by decide +kernel

/-- A station of founder 9 about to close while it handles the frame of founder 3. -/
def closedWhileHandling : State :=
  let s := handling (closing .alone) .time 3 (timeBytes3071 4) ⟨1204, 3900⟩
  { s with agreement := { s.agreement with founder := some 9 } }

/-- R9, R25: after a close in whose period the handling could have ended the mark stands; where the handling did end in that period
the step is made at once, over the overtime that the close began. -/
theorem test_close_then_step (h : Config.stepInClosedPeriod 0 = true) :
    gives (exec .roundClose (handling (closing .locked) .time 3 (timeBytes3071 4) ⟨1204, 3900⟩))
        (fun t => t.lateHandling = true ∧ t.clock.now = ⟨1205, 0⟩) = true ∧
      (inOvertime stepping 30).adoptLate.clock =
        { stepping.clock with now := ⟨3071, 2110⟩, overtime := 0, handed := none } ∧
      (inOvertime stepping 30).adoptLate.freeIndex = 1 := by
  refine ⟨by decide +kernel, ?_⟩
  have made : (inOvertime stepping 30).adoptLate = (inOvertime stepping 30).makeStep.setFreeIndex 1 := by
    unfold State.adoptLate
    rw [show (inOvertime stepping 30).freeIndex = 0 from rfl, h]
    rfl
  rw [made]
  decide +kernel

/-- R1, R9: any other command after a close clears the mark: a handling that ends after it hands its step over to the end of its own
period, and that period has one reading. -/
theorem test_one_reading_in_a_period :
    gives (exec .roundClose closedWhileHandling) (fun u => u.lateHandling = true ∧ u.clock.now = ⟨1205, 0⟩ ∧
      gives (exec (.inputChange 2 true) u) (fun v => v.lateHandling = false ∧
        gives (exec .frameHandlingEnd v) (fun w => w.clock.now = ⟨1205, 0⟩ ∧ w.clock.handed.isSome = true ∧
          w.freeIndex = v.freeIndex ∧
          gives (exec (.inputChange 5 true) w) (fun t => t.clock.now = ⟨1205, 0⟩) = true) = true) = true) = true := by
  decide +kernel

/-- R95, R46: an edge accepted after the step has been handed over has its request judged by the adopted time, by which it
comes one tick too late; accepted before it, by the old line time, and the arm is made. -/
theorem test_request_judged_by_the_adopted_time :
    gives (exec .edgeAccepted (stepHanded (heldTrigger .gathering ⟨3000, 50700⟩ none 0) ⟨3001, 142301⟩)) (fun t =>
        t.arms.outbox = [] ∧ t.store.settling.map (fun r => (r.body, r.stamp)) =
          [(.edge 2 .rise, ⟨3000, 50300⟩), (.note .triggerLead 2, ⟨3000, 50700⟩)]) = true ∧
      gives (exec .edgeAccepted (heldTrigger .gathering ⟨3000, 50700⟩ none 0)) (fun t =>
        t.arms.outbox.map (·.action) = [⟨3001, 150300⟩]) = true := by decide +kernel

/-- R100, R54: the step that has come first removes the arm that it passes, and the input arms again; before the hand-over, or where
the step does not pass the arm, the request is TRIGGER-BUSY. ARM_EXPIRED takes the removal by itself. -/
theorem test_release_by_a_step_before_the_acceptance :
    gives (exec .edgeAccepted (heldBusy ⟨3000, 60001⟩)) (fun t =>
        t.arms.outbox = [⟨10, 17, ⟨3001, 150300⟩, .input 2, 0, false, none⟩] ∧
          (t.capture.filters[(2 : Fin 8)]).outstanding = some 10 ∧
          t.store.settling.map (fun r => (r.body, r.stamp)) =
            [(.edge 2 .rise, ⟨3000, 50300⟩), (.note .armExpired 9, ⟨3000, 60001⟩)]) = true ∧
      gives (exec .edgeAccepted (heldBusy ⟨3000, 60000⟩)) (fun t => t.arms.outbox.map (·.id) = [9] ∧
        t.store.settling.map (·.body) = [.edge 2 .rise, .note .triggerBusy 2]) = true ∧
      gives (exec .edgeAccepted { heldBusy ⟨3000, 60001⟩ with
          clock := { (heldBusy ⟨3000, 60001⟩).clock with handed := none } }) (fun t =>
        t.arms.outbox.map (·.id) = [9] ∧ t.store.settling.map (·.body) = [.edge 2 .rise, .note .triggerBusy 2]) = true ∧
      gives (exec (.armExpired 0) (steppedArm false ⟨5001, 120001⟩)) (fun t => t.arms.outbox = [] ∧
        (t.capture.filters[(2 : Fin 8)]).outstanding = none ∧ t.clock = (steppedArm false ⟨5001, 120001⟩).clock ∧
        t.store.settling.map (fun r => (r.body, r.stamp)) = [(.note .armExpired 0, ⟨5001, 120001⟩)]) = true := by
  decide +kernel

/-- A close with c = +25, in whose period an edge at IN5 is accepted whose stamp comes to the horizon with the close, as does that of the
settling list's head. -/
def closingWithAnEdge : State :=
  let s := withPeer (closing .locked) 6 (livePeer 50)
  { s with
    sampled := 0xFF
    store := ⟨[record ⟨1203, 10⟩], [], none, .clear⟩
    capture := { s.capture with
      filters := s.capture.filters.set 5 ⟨some false, .pending .rise ⟨1203, 5⟩ 1000 false, none⟩ } }

/-- R1, R105: every block reads the line time of the period, so the Event Store takes the edge before it looks at the reading after the
close: the two records are released in key order, and neither is LATE, whichever command ends the period. -/
theorem test_store_reads_the_line_time_of_the_period :
    ∀ command ∈ [Instr.roundClose, .referencePeriod],
      gives (exec command closingWithAnEdge) (fun t => t.clock.now = ⟨1205, 25⟩ ∧ t.store.settling = [] ∧
        t.store.lane.map (fun r => (r.stamp, r.late)) = [(⟨1203, 5⟩, false), (⟨1203, 10⟩, false)] ∧
        t.store.mark = some ⟨1203, 10⟩) = true := by decide +kernel

/-- R26, R30, R31: a first strike and its clearing, a silent round, a barred round, and no entry fresh or heard after a close. -/
theorem test_entries_after_a_close :
    ((List.map (fun p => gives (exec .roundClose (withPeer (closing .locked) 6 p.1)) fun t =>
        t.agreement.peers[(6 : Fin 24)] = p.2) [
      (livePeer 322, { livePeer 322 with strikes := 1, fresh := false, heard := false }),
      ({ livePeer 320 with strikes := 2 }, { livePeer 320 with fresh := false, heard := false }),
      ({ livePeer 9 with fresh := false, heard := false, silent := 6 },
        { livePeer 9 with fresh := false, heard := false, silent := 7 }),
      ({ livePeer 9 with state := .barred, barred := 2 },
        { livePeer 9 with state := .barred, barred := 1, fresh := false, heard := false })]).all id) = true := by
  decide +kernel

/-- R18, R29, R33 to R35: the counts of closes that reach no limit, as listen, clamp, progress, lonely and drift count. -/
theorem test_counts_of_closes :
    ((List.map (fun p => gives (exec .roundClose p.1) fun t =>
        [t.agreement.listenCount, t.agreement.clampCount, t.agreement.progress, t.agreement.lonelyCount,
          t.agreement.driftCount] = p.2) [
      (listeningOn 2, [1, 0, 0, 0, 0]), (counting .alone 1 0 0 0 (livePeer 82), [0, 2, 0, 0, 0]),
      (counting .gathering 2 1 2 0 Peer.none, [0, 0, 1, 3, 0]), (counting .gathering 1 1 3 0 (livePeer 82), [0, 2, 0, 0, 0]),
      (counting .gathering 2 0 3 0 (livePeer 80), [0, 0, 1, 0, 0]), (counting .locked 1 0 7 0 (livePeer 82), [0, 2, 0, 0, 0]),
      (counting .adrift 0 0 0 14 Peer.none, [0, 0, 0, 0, 15])]).all id) = true := by decide +kernel

/-- R38, R39: the own TIME frame after a close: idle, in flight, and in a flight that ends in the same period; R151: the mute
count falls at a boundary, and the station stays MUTED. -/
theorem test_time_frame_and_mute_at_a_close :
    ((List.map (fun p => gives (exec .roundClose p.1) fun t => t.agreement.timeFrame = p.2) [
      (marking .locked .idle none, .pending),
      (marking .gathering .inFlight (some (engineAt 1 39 true .frame)), .inFlightPending),
      (marking .locked .inFlight (some (engineAt 4 40 true .frame)), .pending),
      (marking .listening .idle none, .idle)]).all id) = true ∧
      gives (exec .overtimeEnd (mutedFor (overtime .muted) 2)) (fun t => t.access.tx = .muted ∧ t.access.mute = 1) = true ∧
      gives (exec .roundClose (mutedFor (mutedAtClose (-4)) 2)) (fun t => t.access.tx = .muted ∧ t.access.mute = 2) = true := by
  decide +kernel

/-- R76: an entry due at the reading of the close that enters ADRIFT is executed where it is taken first, its output then going SAFE,
and leaves as MISSED where ADRIFT is entered first. -/
theorem test_entry_and_adrift_in_either_order :
    gives (exec .roundClose (turning .locked 2 0 82)) (fun t => t.agreement.state = .adrift ∧ t.schedule.length = 1 ∧
        t.store.settling.map (·.body) = [.note .acted 3, .note .agreement 5] ∧
        t.outputs[(3 : Fin 8)] = ⟨.safe, true, none, none⟩) = true ∧
      gives (exec .clampLimitAdrift (turning .locked 2 0 82)) (fun t => t.agreement.state = .adrift ∧ t.schedule.length = 1 ∧
        t.store.settling.map (fun r => (r.body, r.origin)) = [(.note .missed 3, 2), (.note .agreement 5, 5)]) = true := by
  decide +kernel

/-- R117, R122, R138: LDE is released as the SHUT ends; a QUASH follows the symbol in progress of an abandoned frame. R139: the window
begins again at slot 0 after slot 71. -/
theorem test_counts_in_reference_periods :
    gives (exec .referencePeriod (onLine .none 0 (some (engineAt 4 39 true .frame)))) (fun t => t.lde = false) = true ∧
      gives (exec .referencePeriod (onLine .none 0 (some (engineAt 2 39 false .abandon)))) (fun t =>
        (t.framer.engine.map fun e => (e.course, e.age)) = some (.quash, 0) ∧ t.lde = true) = true ∧
      gives (exec .referencePeriod (monitoring .window 0 71 39)) (fun t =>
        t.access.slotIndex = 0 ∧ t.access.slotCount = 0) = true := by decide +kernel

/-- R119, R128: a symbol begun and confirmed in the fortieth period of a silence leaves quiet unfound (log 35); and what noise does to
a receiver while its station sends is not counted. -/
theorem test_quiet_and_noise :
    gives (exec .symbolBegins (lined .none (.taking (takingFrame [1])) 40 .gap)) (fun u =>
        gives (exec .quiet u) (fun t => t = u)) = true ∧
      gives (exec (.receiveDataSymbol 0) (recognising (sending (station .locked ⟨1204, 700⟩) atReadback) .waitOpen)) (fun t =>
        t.framer.receiver = .skipping ∧ t.counter .stray = 0) = true := by decide +kernel

/-- R56, R57, R45, R156: an arm in flight is withdrawn with its input released; in UNSET a read answers NOT-READY whatever its
parameter. -/
theorem test_cancel_in_flight :
    gives (exec (.cancelTrigger 0) (withdrawing [inputArm] (.arms 5000 [⟨0, 17, ⟨5001, 120000⟩, true⟩]) [] [])) (fun t =>
        t.arms.outbox = [] ∧ t.arms.cancels = [⟨0, 0, none⟩] ∧ (t.capture.filters[(2 : Fin 8)]).outstanding = none ∧
          t.tap.response = [0]) = true ∧
      gives (exec (.readPeer 25) (tapping State.reset .parameters (some .readPeer) [])) (fun t => t.tap.response = [7]) = true := by
  decide +kernel

/-- R9, R75, R54, R87, R95: the step that was handed over is made: the entry and the arm behind it leave with their notes, the
pulse and the latch end, the held edge is marked and the shared copy is UNSURE. -/
theorem test_step_is_made :
    let t := stepping.makeStep
    t.clock = { stepping.clock with now := ⟨3071, 2110⟩, overtime := 0, handed := none } ∧
      t.schedule.map (·.due) = [⟨3071, 2111⟩] ∧ t.arms.outbox.map (·.id) = [1] ∧
      t.store.settling.map (·.body) = [.note .missed 3, .note .armExpired 0] ∧
      (t.outputs[(1 : Fin 8)]).level = false ∧ (t.outputs[(6 : Fin 8)]).latchRound = none ∧
      (t.capture.filters[(2 : Fin 8)]).condition = .pending .rise ⟨1204, 300⟩ 200 true ∧
      t.capture.outbox = [⟨2, .rise, false, 17, ⟨1203, 5⟩⟩] := by decide +kernel

/-- R1, R10, R12: a slot start and an input sample that follow the hand-over in its period read the old line time. -/
theorem test_old_reading_to_the_end_of_the_period :
    gives (exec (.inputChange 5 true) { filtering .stable with
        clock := { (filtering .stable).clock with handed := some ⟨3071, 2110⟩ } })
        (fun t => (t.capture.filters[(5 : Fin 8)]).condition = .pending .rise ⟨412, 100000⟩ 0 false) = true ∧
      gives (exec .slotStart (slotted { station .locked ⟨1204, 700⟩ with
        clock := { (station .locked ⟨1204, 700⟩).clock with handed := some ⟨3071, 2110⟩ } } 0 28 false .pending))
        (fun t => (t.framer.engine.map (·.stamp)) = some ⟨1204, 700⟩) = true := by decide +kernel

/-- R95: an edge first sampled at the end of the period of a step has the old line time and is marked. -/
theorem test_sample_in_the_step_period :
    ((({ filtering .stable with
        inPins := 0x20
        clock := { (filtering .stable).clock with handed := some ⟨3071, 2110⟩ } } : State).sampleInputs.makeStep).capture.filters[
          (5 : Fin 8)]).condition = .pending .rise ⟨412, 100000⟩ 0 true := by decide +kernel

/-- R144, R151: in the period of a slot start MUTE_END first ends the mute, and the late slot then begins the frame at the line
time of that period; where the slot start was taken before, it begins none. -/
theorem test_mute_end_before_the_slot_start :
    gives (exec .muteEnd (mutedAtSlot 52 false)) (fun t => t.access.tx = .sending ∧
        (t.framer.engine.map fun e => (e.kind, e.stamp)) = some (.time, ⟨1205, 199999⟩)) = true ∧
      gives (exec .muteEnd (mutedAtSlot 52 true)) (fun t => t.access.tx = .waiting ∧ t.framer.engine = none) = true := by
  decide +kernel

/-- R144: a slot start sees the report as it stands. An arm that has passed unlooked at is reported, gives no record, and no frame
is begun; after ARM_EXPIRED it is no longer reported. -/
theorem test_slot_start_sees_the_old_report :
    let s := reporting (slotted (withArms (station .locked ⟨5001, 120001⟩) [tapArm 0 ⟨5001, 120000⟩ true]) 5 23 false .idle)
      true
    gives (exec .slotStart s) (fun t => t.framer.engine = none ∧ t.access.tx = .idle ∧ t.access.reportA = false) = true ∧
      gives (exec (.armExpired 0) s) (fun t => t.access.reportA = false ∧ t.access.tx = .idle ∧ t.arms.outbox = []) = true := by
  decide +kernel

/-- R144, R49: in a new round a record sent in the last one is eligible, and is seen at a slot start that follows the look. -/
theorem test_new_round_is_seen_after_the_look :
    let s := reporting (slotted (withArms (station .locked ⟨5001, 7⟩) [tapArm 0 ⟨5003, 0⟩ true]) 5 23 false .pending) false
    gives (exec .slotStart s) (fun t => t.framer.engine = none ∧ t.access.tx = .waiting) = true ∧
      gives (exec (.armExpired 9) s) (fun u => gives (exec .slotStart u)
        (fun t => (t.framer.engine.map (·.kind)) = some .arm)) = true := by decide +kernel

/-- R84, R85: an own arm made effective in the period of a close, with a SET due at the last phase of the round that ends, leaves
its ROUND output INACTIVE in the next. -/
theorem test_round_output_at_a_close :
    gives (exec .roundClose { sending (closing .locked) (atEnd .arm) with
      config := { config with bindings := [⟨17, 6, .set, 0⟩] }
      arms := { Arms.reset with
        outbox := [⟨0, 17, ⟨1204, 199999⟩, .tap, 0, false, none⟩], inFlight := .arms 1204 [⟨0, 17, ⟨1204, 199999⟩, true⟩] } })
      (fun t => t.clock.now = ⟨1205, 0⟩ ∧ t.outputs[(6 : Fin 8)] = ⟨.acting, false, none, none⟩) = true := by decide +kernel

/-- R138: a restart within the SHUT, read back badly or not, sends no QUASH after it. -/
theorem test_restart_within_the_shut :
    ∀ course ∈ [EngineCourse.frame, .abandon],
      gives (exec .scsRise (restarting 2 course 0 .loaded))
        (fun t => (t.framer.engine.map fun e => (e.course, e.orphan)) = some (.frame, true)) = true := by decide +kernel

/-- R92: at one sample edges are accepted in rising order of input, whichever of them the period's commands named. -/
theorem test_edges_of_one_sample :
    gives (exec .edgeAccepted { held .locked 0 with
      inPins := 0x22
      sampled := 0x20
      config := { config with inputs := config.inputs.set 1 ⟨.both, 0, true, 0, .rise, 0⟩ }
      capture := { (held .locked 0).capture with
        filters := (held .locked 0).capture.filters.set 1 ⟨some false, .stable, none⟩ } })
      (fun t => t.capture.outbox.map (·.channel) = [1, 5]) = true := by decide +kernel

/-- R18: a quiet listen period ends in ALONE near 6:0. -/
theorem test_listening_ends_in_alone :
    gives (exec .listenPeriodEnd lastListening) (fun t => t.clock.now = ⟨6, 0⟩ ∧ t.agreement.state = .alone ∧
      t.agreement.founder = some 5 ∧ t.access.tx = .waiting) = true := by decide +kernel

/-- R36, R79: a third clamped close makes the station ADRIFT and its outputs SAFE. -/
theorem test_third_clamp_is_adrift :
    gives (exec .clampLimitAdrift (counting .alone 2 0 0 0 (livePeer 82))) (fun t => t.agreement.state = .adrift ∧
      t.agreement.clampCount = 0 ∧ t.outputs[(3 : Fin 8)] = ⟨.safe, true, none, none⟩) = true := by decide +kernel

/-- A named close whose outcome this period's end does not have changes nothing (log 4). -/
theorem test_no_close_no_effect :
    gives (exec .gatheringProgressLocked (counting .gathering 0 0 0 0 (livePeer 6)))
      (fun t => t = counting .gathering 0 0 0 0 (livePeer 6)) = true := by decide +kernel

/-- 3.11: the post at 5000:20000 with a relative lead of 300,000 (0x0493E0). -/
theorem test_post_trigger :
    gives (exec (.postTrigger 0) (tapping (station .locked ⟨5000, 20000⟩) .parameters (some .postTrigger)
      [17, 1, 0xE0, 0x93, 0x04, 0, 0]))
      (fun t => t.arms.outbox = [⟨0, 17, ⟨5001, 120000⟩, .tap, 0, false, none⟩] ∧ t.arms.nextId = 1 ∧
        t.tap.response = [0, 0]) = true := by decide +kernel

/-- 3.11 at station 8: the arm of station 3 is accepted, and its binding of offset -2,000 is scheduled. -/
theorem test_arm_frame :
    gives (exec .frameHandlingEnd (taking 0)) (fun t =>
      t.historyOf 3 = [⟨0, .accepted 17 ⟨5001, 120000⟩⟩] ∧
        t.schedule = [⟨⟨5001, 118000⟩, 1, .fire, 3, 0, 17, 0⟩]) = true := by decide +kernel

/-- 3.11 at station 11: the cancel that overtook its arm leaves a placeholder. -/
theorem test_cancel_leaves_a_placeholder :
    gives (exec .frameHandlingEnd (handling (station .locked ⟨5001, 0⟩) .cancel 3 [1, 0] .zero))
      (fun t => t.historyOf 3 = [⟨0, .placeholder⟩]) = true := by decide +kernel

/-- 3.11 at station 3: CANCEL TRIGGER of an effective arm. -/
theorem test_cancel_trigger :
    gives (exec (.cancelTrigger 0) (cancelling true 0)) (fun t => t.arms.outbox = [] ∧
      t.arms.cancels = [⟨0, 0, none⟩] ∧ t.tap.response = [0]) = true := by decide +kernel

/-- 3.11 at station 3: the ARM frame of slot start round 5000 ends good. -/
theorem test_first_send :
    gives (exec .frameGoodEnd (firstSend 2)) (fun t =>
      t.arms.outbox = [⟨0, 18, ⟨5001, 120000⟩, .tap, 1, true, some 5000⟩] ∧
        t.historyOf 5 = [⟨0, .accepted 18 ⟨5001, 120000⟩⟩] ∧ t.access.tx = .idle ∧ t.access.rotation = 5) = true := by
  decide +kernel

/-- 4.11: the second request finds 32 entries and evicts the last. -/
theorem test_full_schedule_evicts :
    (((scheduled .locked (List.replicate 31 (entry ⟨7000, 60000⟩) ++ [entry ⟨7003, 0⟩])).insertRequest
      (entry ⟨7000, 70000⟩)).schedule.map (·.due)).drop 30 = [⟨7000, 60000⟩, ⟨7000, 70000⟩] := by decide +kernel

/-- 4.11: the FIRE at OUT1 (width 4,000), due and reached at 7000:60000. -/
theorem test_fire :
    gives (exec .scheduleEntryDue { station .locked ⟨7000, 60000⟩ with
      schedule := [⟨⟨7000, 60000⟩, 1, .fire, 5, 12, 40, 2⟩, entry ⟨7000, 70000⟩] })
      (fun t => t.outputs[(1 : Fin 8)] = ⟨.acting, true, some ⟨7000, 64000⟩, none⟩ ∧ t.schedule = [entry ⟨7000, 70000⟩]) =
      true := by decide +kernel

/-- 4.11: the pulse end is reached. -/
theorem test_pulse_end :
    gives (exec (.pulseEnd 1) pulsing) (fun t => t.outputs[(1 : Fin 8)] = ⟨.acting, false, none, none⟩) = true := by
  decide +kernel

/-- R53: a record that is not effective leaves with an ARM-EXPIRED note, and its input is released. -/
theorem test_arm_expires :
    gives (exec (.armExpired 0) (passedArm false)) (fun t => t.arms.outbox = [] ∧
      (t.capture.filters[(2 : Fin 8)]).outstanding = none ∧
      t.store.settling.map (·.body) = [.note .armExpired 0]) = true := by decide +kernel

/-- 5.7: the first high sample of IN2 at 3000:50300. -/
theorem test_first_high_sample :
    gives (exec (.inputChange 2 true) { station .locked ⟨3000, 50300⟩ with
      capture := { Capture.reset with filters := Vector.replicate 8 ⟨some false, .stable, none⟩ } })
      (fun t => (t.capture.filters[(2 : Fin 8)]).condition = .pending .rise ⟨3000, 50300⟩ 0 false) = true := by
  decide +kernel

/-- 5.7: at 3000:50700 the count reaches 400: the edge is shared and recorded, and the arm of id 9 is made. -/
theorem test_trigger_edge :
    gives (exec .edgeAccepted { station .locked ⟨3000, 50700⟩ with
      inPins := 4
      arms := { Arms.reset with nextId := 9 }
      capture := { Capture.reset with
        filters := (Vector.replicate 8 ⟨some false, .stable, none⟩).set 2
          ⟨some false, .pending .rise ⟨3000, 50300⟩ 399 false, none⟩ } })
      (fun t => t.capture.outbox = [⟨2, .rise, true, 17, ⟨3000, 50300⟩⟩] ∧
        t.arms.outbox = [⟨9, 17, ⟨3001, 150300⟩, .input 2, 0, false, none⟩] ∧
        (t.capture.filters[(2 : Fin 8)]).outstanding = some 9 ∧
        t.store.settling = [⟨.edge 2 .rise, 5, true, 17, ⟨3000, 50300⟩, false, false, false⟩]) = true := by
  decide +kernel

/-- 6.10: at 2000:50000 record A settles. -/
theorem test_settle :
    gives (exec .settle (storing ⟨2000, 50000⟩ 2 (some ⟨1997, 190000⟩))) (fun t =>
      t.store.settling.map (·.stamp) = [⟨1998, 120000⟩, ⟨1999, 10000⟩] ∧ t.store.lane.length = 3 ∧
        t.store.mark = some ⟨1998, 50000⟩) = true := by decide +kernel

/-- 6.10: at 2000:130000 entry D of station 9 is late, and entry E settles after C. -/
theorem test_late_event :
    gives (exec .frameHandlingEnd (handling
      { station .locked ⟨2000, 130000⟩ with
        store := ⟨[record ⟨1999, 10000⟩], [record ⟨1998, 120000⟩], some ⟨1998, 120000⟩, .clear⟩ } .event 9
      [2, 0x04, 0, 0xCE, 0x07, 0, 0xA0, 0x86, 0x01, 0x0C, 0, 0xCF, 0x07, 0, 0x60, 0xEA, 0] .zero))
      (fun t => t.store.settling.map (·.stamp) = [⟨1999, 10000⟩, ⟨1999, 60000⟩] ∧
        t.store.lane.map (fun r => (r.stamp, r.late)) = [(⟨1998, 120000⟩, false), (⟨1998, 100000⟩, true)]) = true := by
  decide +kernel

/-- R118, R11: a confirmed symbol keeps what it noted when it began. -/
theorem test_confirmed_symbol :
    gives (exec .symbolConfirmed (lined (.begun ⟨1204, 5⟩ 3 2) .waitOpen 0 .gap)) (fun t =>
      t.clock.startBit = some ⟨1204, 5⟩ ∧ t.framer.startCount = some 3 ∧ t.access.monitor = .busy) = true := by
  decide +kernel

/-- 7.8: a data symbol from noise in WAIT-OPEN. -/
theorem test_stray_data :
    gives (exec (.receiveDataSymbol 0) (recognising (station .locked ⟨1204, 700⟩) .waitOpen)) (fun t =>
      t.framer.receiver = .skipping ∧ t.counter .stray = 1) = true := by decide +kernel

/-- 7.8: a frame that bears the station's own id: counted, noted with its kind, and the rotation follows it. -/
theorem test_own_id :
    gives (exec .receiveShut (recognising (station .locked ⟨1204, 700⟩)
      (.taking (takingFrame (frameBytes .time 5 (timeBytes3071 4)))))) (fun t =>
      t.counter .idClash = 1 ∧ t.access.rotation = 5 ∧ t.framer.bufferA = .free ∧
        t.store.settling.map (fun r => (r.body, r.origin)) = [(.note .idClash 1, 5)]) = true := by decide +kernel

/-- 8.9: the slots of stations 7, 10 and 12 in the first window. -/
theorem test_slots :
    ([((7 : StationId), (2 : StationId)), (10, 5), (12, 5)].map fun p =>
      let s := slotted { station .locked .zero with config := { config with id := p.1 } } p.2 0 false .idle
      (s.slotA, s.slotB, s.slotLate)) = [(4, 28, 54), (4, 28, 57), (6, 30, 59)] := by decide +kernel

/-- 8.9: station 12 begins its TIME frame in slot 30. -/
theorem test_time_frame_begins :
    gives (exec .slotStart (slotted { station .locked ⟨1204, 700⟩ with config := { config with id := 12 } } 5 30 false
      .pending)) (fun t => t.access.tx = .sending ∧ t.agreement.timeFrame = .inFlight ∧
        (t.framer.engine.map fun e => (e.kind, e.bytes.length)) = some (.time, 13)) = true := by decide +kernel

/-- 8.9: the readback of the kind symbol (3, an ARM frame) disagrees. -/
theorem test_collision :
    gives (exec (.symbolReadback 0b1000000000#10) (sending (station .locked .zero) { atReadback with
      kind := .arm, bytes := frameBytes .arm 5 armBytes })) (fun t => t.access.tx = .quashing ∧
        t.counter .collision = 1 ∧ (t.framer.engine.map (·.course)) = some .abandon) = true := by decide +kernel

/-- 8.9: the end of a QUASH: the count is 1, the yield flag is set and the content waits. -/
theorem test_quash_end :
    gives (exec .quashEnd (quashed .time 0)) (fun t => t.access.collisions = 1 ∧ t.access.yield = true ∧
      t.access.tx = .waiting ∧ t.agreement.timeFrame = .pending) = true := by decide +kernel

/-- 9.8: a READ STATUS completes after the latch was set again: it is not cleared; without that it is. -/
theorem test_latch_outlives_the_read :
    gives (exec .transactionDone { lastByte .readStatus .none with
        tap := { (lastByte .readStatus .none).tap with latch := true, setSinceTake := true } })
        (fun t => t.tap.latch = true ∧ t.tap.state = .done) = true ∧
      gives (exec .transactionDone { lastByte .readStatus .none with
        tap := { (lastByte .readStatus .none).tap with latch := true, setSinceTake := false } })
        (fun t => t.tap.latch = false) = true := by decide +kernel

/-- R156: POST TRIGGER in UNSET answers NOT-READY with an arm id of 0. -/
theorem test_post_trigger_in_unset :
    gives (exec (.postTrigger 0) (posting State.reset 17 1)) (fun t => t.tap.response = [7, 0] ∧ t.arms.outbox = []) =
      true := by decide +kernel

/-- 11.5: an empty record with GAP. -/
theorem test_empty_record_with_gap :
    gives (exec .readEventResponseBegin (readingEvent { station .locked .zero with
      store := { EventStore.reset with gap := .pending } })) (fun t =>
        t.tap.response = [0, 0, 0, 0, 0, 0, 0, 0, 0, 0, 0, 0, 0, 2] ∧ t.store.gap = .offered) = true := by decide +kernel

/-- 10.7: SCS rises after RESTART: UNSET, LOADING, the settling list in the lane as STEPPED, and the RESTART note. -/
theorem test_restart :
    gives (exec .scsRise { storing ⟨2000, 0⟩ 1 none with tap := { Tap.reset with state := .done, restartTaken := true, latch := false } })
      (fun t => t.agreement.state = .unset ∧ t.loader = ⟨.loading, .none, 0, .head, []⟩ ∧ t.tap.latch = false ∧
        t.atn = false ∧ t.store.lane.map (·.stepped) = [false, true, true, true, false] ∧
        t.store.lane.getLast? = some ⟨.note .restart 0, 5, false, 0, .zero, false, false, false⟩) = true := by
  decide +kernel

/-- R169: the fourth unanswered try ends the load in FAULT with NO-MEMORY. -/
theorem test_no_memory :
    gives (exec .readUnanswered (loading 3 .head)) (fun t => t.loader.state = .fault ∧ t.loader.fault = .noMemory) = true := by
  decide +kernel

/-- R170: the marker's bytes, least significant first. -/
theorem test_head_read :
    gives (exec (.headReadDone 0x15 0xA6 0x97 0x00) (loading 1 .head)) (fun t =>
      t.loader.state = .loading ∧ t.loader.retry = 0 ∧ t.loader.read = .body [0x15, 0xA6, 0x97, 0x00]) = true := by
  decide +kernel

/-- R169, R177: the head read on the bus after two recovery clocks; a body read whose low offset byte finds no acknowledgement; and
a CSDA that stays low. -/
theorem test_reads_on_the_bus :
    (LoaderRead.head.bus.map fun r => r.answered 2 [0x15, 0xA6, 0x97, 0x00]) = some [.clock, .clock, .stop, .start,
      .address 0x50 false true, .offset 0 true, .offset 0 true, .start, .address 0x50 true true, .data 0x15 true,
      .data 0xA6 true, .data 0x97 true, .data 0x00 false, .stop] ∧
      ((LoaderRead.body [0x15, 0xA6, 0x97, 0x00]).bus.map fun r => r.unanswered (.unacknowledged 0 .offsetLow)) =
        some [.stop, .start, .address 0x50 false true, .offset 0 true, .offset 4 false] ∧
      (LoaderRead.head.bus.map fun r => r.unanswered .heldLow) = some (List.replicate 9 .clock) := by decide +kernel

/-- R176: a held station waits; its release begins the load. -/
theorem test_release :
    gives (exec .settle State.reset.fullReset) (fun t => t = State.reset.fullReset) = true ∧
      gives (exec .resetReleased State.reset.fullReset) (fun t => t.loader.read = .head ∧ t.resetHeld = false) = true := by
  decide +kernel

end Sys2Proof.Tests
end

/-! Line time arithmetic (1.4): what R7's addition gives of a whole number of rounds and a phase, the sign of R6's difference
read off the round difference and the phases, and the two obligations of the line time family. -/

namespace Sys2Proof.Machine

/-! ### Ticks made of whole rounds and a change of phase -/

/-- R7: where the phase comes to lie at `p` below L, all the rest of the ticks are whole rounds. -/
theorem timeAdd_rounds_phase {len p : Nat} (hp : p < len) (t : LineTime) (d : Int) :
    timeAdd len t (d * len + ((p : Int) - t.phase)) = ⟨t.round + BitVec.ofInt 24 d, p⟩ := by
  have hsum : (t.phase : Int) + (d * len + ((p : Int) - t.phase)) = p + d * len := by ring
  have hquot : ((p : Int) + d * len) / len = d := by
    rw [Int.add_mul_ediv_right _ _ (by omega), Int.ediv_eq_zero_of_lt (by omega) (by omega), Int.zero_add]
  have hrem : ((p : Int) + d * len) % len = p := by
    rw [Int.add_mul_emod_self_right, Int.emod_eq_of_lt (by omega) (by omega)]
  simp [timeAdd, hsum, hquot, hrem]

theorem timeAdd_phase {len : Nat} (hlen : 0 < len) (t : LineTime) (n : Int) :
    ((timeAdd len t n).phase : Int) = (t.phase + n) % len :=
  Int.toNat_of_nonneg (Int.emod_nonneg _ (by omega))

theorem timeAdd_round (len : Nat) (t : LineTime) (n : Int) :
    ((timeAdd len t n).round.toNat : Int) = (t.round.toNat + (t.phase + n) / len) % 16777216 := by
  simp only [timeAdd, BitVec.toNat_add, BitVec.toNat_ofInt]
  omega

theorem timeAdd_whole_rounds {len : Nat} (t : LineTime) (k : Nat) (ht : t.phase < len) :
    timeAdd len t (k * len) = timeAddRounds t k := by
  simpa [timeAddRounds] using timeAdd_rounds_phase ht t k

/-- R7's addition undoes R6's difference, at the half distance too: the round number wraps in both directions. -/
theorem timeAdd_timeDiff {len : Nat} (a b : LineTime) (hb : b.phase < len) :
    timeAdd len a (timeDiff len a b) = b := by
  rw [timeDiff, timeAdd_rounds_phase hb, BitVec.ofInt_toInt, add_sub_cancel]

/-! ### The round difference -/

/-- The round difference of R6, in the range of 24 signed bits. -/
def roundDiff (a b : Round) : Int := (b - a).toInt

theorem timeDiff_eq (len : Nat) (a b : LineTime) :
    timeDiff len a b = roundDiff a.round b.round * len + ((b.phase : Int) - a.phase) := rfl

theorem roundDiff_range (a b : Round) : -8388608 ≤ roundDiff a b ∧ roundDiff a b ≤ 8388607 := by
  have hlow := BitVec.le_toInt (b - a)
  have hhigh := BitVec.toInt_lt (x := b - a)
  simp only [roundDiff]
  omega

theorem roundDiff_congr (a b : Round) : (roundDiff a b - ((b.toNat : Int) - a.toNat)) % 16777216 = 0 := by
  have ha := a.isLt
  have hb := b.isLt
  simp only [roundDiff, BitVec.toInt_eq_toNat_cond, BitVec.toNat_sub]
  omega

theorem roundDiff_eq_zero_iff (a b : Round) : roundDiff a b = 0 ↔ a = b := by
  have ha := a.isLt
  have hb := b.isLt
  have hcongr := roundDiff_congr a b
  have hrange := roundDiff_range a b
  refine ⟨fun h => BitVec.eq_of_toNat_eq (by omega), ?_⟩
  rintro rfl
  omega

/-- At the half distance the round difference is the lower end of its range, whichever round is named first. -/
theorem roundDiff_of_half {a b : Round} (h : b - a = 8388608) : roundDiff a b = -8388608 := by
  rw [roundDiff, h]
  decide

theorem half_symm {a b : Round} (h : b - a = 8388608) : a - b = 8388608 := by bv_omega

/-- Short of the half distance, naming the two rounds the other way round changes the sign alone. -/
theorem roundDiff_swap {a b : Round} (h : b - a ≠ 8388608) : roundDiff b a = -roundDiff a b := by
  have hmin : b - a ≠ BitVec.intMin 24 := h
  rw [roundDiff, roundDiff, ← neg_sub b a, BitVec.toInt_neg_of_ne_intMin hmin]

/-! ### The sign of the difference (R6) -/

section Sign
variable {len : Nat} {a b : LineTime}

/-- A round counts more than any difference of phases, which does not reach L. -/
theorem timeDiff_neg_of_round (hb : b.phase < len) (hd : roundDiff a.round b.round < 0) : timeDiff len a b < 0 := by
  have hrounds : roundDiff a.round b.round * len ≤ -1 * len :=
    Int.mul_le_mul_of_nonneg_right (by omega) (by omega)
  rw [timeDiff_eq]
  omega

theorem timeDiff_pos_of_round (ha : a.phase < len) (hd : 0 < roundDiff a.round b.round) : 0 < timeDiff len a b := by
  have hrounds : 1 * (len : Int) ≤ roundDiff a.round b.round * len :=
    Int.mul_le_mul_of_nonneg_right (by omega) (by omega)
  rw [timeDiff_eq]
  omega

theorem timeDiff_of_same_round (h : a.round = b.round) : timeDiff len a b = (b.phase : Int) - a.phase := by
  rw [timeDiff_eq, (roundDiff_eq_zero_iff _ _).2 h, Int.zero_mul, Int.zero_add]

/-- The sign of the difference: the round difference settles it where it is not 0, and the phases where it is. -/
theorem timeDiff_cases (ha : a.phase < len) (hb : b.phase < len) :
    (roundDiff a.round b.round < 0 ∧ timeDiff len a b < 0) ∨
      (roundDiff a.round b.round = 0 ∧ timeDiff len a b = (b.phase : Int) - a.phase) ∨
      (0 < roundDiff a.round b.round ∧ 0 < timeDiff len a b) := by
  rcases lt_trichotomy (roundDiff a.round b.round) 0 with hneg | hzero | hpos
  · exact .inl ⟨hneg, timeDiff_neg_of_round hb hneg⟩
  · exact .inr (.inl ⟨hzero, timeDiff_of_same_round ((roundDiff_eq_zero_iff _ _).1 hzero)⟩)
  · exact .inr (.inr ⟨hpos, timeDiff_pos_of_round ha hpos⟩)

theorem timeDiff_self (len : Nat) (a : LineTime) : timeDiff len a a = 0 := by
  rw [timeDiff_of_same_round rfl, Int.sub_self]

theorem timeDiff_eq_zero_iff (ha : a.phase < len) (hb : b.phase < len) : timeDiff len a b = 0 ↔ a = b := by
  refine ⟨fun h => ?_, fun h => h ▸ timeDiff_self len a⟩
  have hcases := timeDiff_cases ha hb
  have hround : a.round = b.round := (roundDiff_eq_zero_iff _ _).1 (by omega)
  have hphase : a.phase = b.phase := by omega
  exact congrArg₂ LineTime.mk hround hphase

end Sign

/-! ### The order the difference gives (R6) -/

section Order
variable {len : Nat} {a b : LineTime}

theorem later_iff : later len b a = true ↔ 0 < timeDiff len a b := by simp [later]

theorem earlier_iff : earlier len b a = true ↔ timeDiff len a b < 0 := by simp [earlier]

theorem reached_iff : reached len b a = true ↔ earlier len b a = false := by simp [reached]

theorem passed_iff : passed len b a = true ↔ later len b a = true := Iff.rfl

theorem earlier_iff_phase_of_same_round (h : a.round = b.round) :
    earlier len a b = true ↔ a.phase < b.phase := by
  rw [earlier_iff, timeDiff_of_same_round h.symm]
  omega

/-- Short of the half distance "later" and "earlier" are each other's converse. -/
theorem later_iff_earlier (ha : a.phase < len) (hb : b.phase < len) (h : b.round - a.round ≠ 8388608) :
    later len b a = true ↔ earlier len a b = true := by
  have hab := timeDiff_cases ha hb
  have hba := timeDiff_cases hb ha
  have hswap := roundDiff_swap h
  rw [later_iff, earlier_iff]
  omega

theorem earlier_of_half (hb : b.phase < len) (h : b.round - a.round = 8388608) :
    earlier len b a = true :=
  earlier_iff.2 (timeDiff_neg_of_round hb (by rw [roundDiff_of_half h]; decide))

end Order

/-! ### The obligations -/

/-- Settles O7: each clause is an equation of R7's addition; the difference is `roundDiff` rounds and a change of phase, which
`timeAdd_rounds_phase` adds. -/
theorem timeAdditionFollowsTheFourSteps : Obligations.TimeAdditionFollowsTheFourSteps := by
  intro len hlen
  refine ⟨fun t n => ⟨timeAdd_phase hlen t n, timeAdd_round len t n⟩, fun t k ht => ⟨timeAdd_whole_rounds t k ht, rfl⟩, ?_⟩
  exact timeAdd_timeDiff

/-- Settles O8: the witness of the first clause is `roundDiff`, whose sign decides all the others wherever it is not 0. -/
theorem timeDifferenceOrdersLineTimes : Obligations.TimeDifferenceOrdersLineTimes := by
  intro len a b ha hb
  obtain ⟨hlow, hhigh⟩ := roundDiff_range a.round b.round
  refine ⟨⟨roundDiff a.round b.round, hlow, hhigh, roundDiff_congr _ _, timeDiff_eq len a b,
      timeDiff_neg_of_round hb, timeDiff_pos_of_round ha, (roundDiff_eq_zero_iff _ _).not.2, roundDiff_of_half⟩,
    later_iff, earlier_iff, reached_iff, passed_iff, timeDiff_eq_zero_iff ha hb,
    earlier_iff_phase_of_same_round, later_iff_earlier ha hb, ?_⟩
  intro hhalf
  exact ⟨earlier_of_half hb hhalf, earlier_of_half ha (half_symm hhalf)⟩

end Sys2Proof.Machine

namespace Sys2Proof.Machine

/-! ### The unclamped correction (R28): the sorted offsets and what the discarding keeps of them -/

/-- The model's insertion is the library's, so the library's facts about a sorted list serve here. -/
theorem insertOffset_eq_orderedInsert (x : Int) (l : List Int) :
    insertOffset x l = l.orderedInsert (· ≤ ·) x := by
  induction l with
  | nil => rfl
  | cons y ys ih => rw [insertOffset, List.orderedInsert_cons, ih]

theorem sortOffsets_eq_insertionSort (l : List Int) : sortOffsets l = l.insertionSort (· ≤ ·) := by
  induction l with
  | nil => rfl
  | cons x xs ih => rw [sortOffsets, insertOffset_eq_orderedInsert, ih, List.insertionSort_cons]

theorem sortOffsets_perm (l : List Int) : (sortOffsets l).Perm l :=
  sortOffsets_eq_insertionSort l ▸ List.perm_insertionSort (· ≤ ·) l

theorem sortOffsets_pairwise (l : List Int) : (sortOffsets l).Pairwise (· ≤ ·) :=
  sortOffsets_eq_insertionSort l ▸ List.pairwise_insertionSort (· ≤ ·) l

theorem discards_of_le_two {n : Nat} (h : n ≤ 2) : discards n = 0 := if_pos h

theorem discards_of_three_to_six {n : Nat} (hlow : 3 ≤ n) (hhigh : n ≤ 6) : discards n = 1 := by
  rw [discards, if_neg (by omega), if_pos hhigh]

theorem discards_of_seven_le {n : Nat} (h : 7 ≤ n) : discards n = 2 := by
  rw [discards, if_neg (by omega), if_neg (by omega)]

/-- The discarding never uses up the list: at least one value is kept. -/
theorem two_mul_discards_lt {n : Nat} (h : 0 < n) : 2 * discards n < n := by
  unfold discards
  split_ifs <;> omega

section Kept
variable {l : List Int} {d : Nat}

/-- The lowest value kept stands at place `d` of the sorted list. -/
theorem headD_kept (h : 2 * d < l.length) :
    ((l.drop d).take (l.length - 2 * d)).headD 0 = l.getD d 0 := by
  have hkept : l.length - 2 * d ≠ 0 := by omega
  simp [List.headD_eq_head?_getD, List.head?_take, hkept]

/-- The highest value kept stands `d` places before the last of the sorted list. -/
theorem getLastD_kept (h : 2 * d < l.length) :
    ((l.drop d).take (l.length - 2 * d)).getLastD 0 = l.getD (l.length - 1 - d) 0 := by
  have hlength : ((l.drop d).take (l.length - 2 * d)).length = l.length - 2 * d := by
    rw [List.length_take, List.length_drop]
    omega
  have hlast : l.length - 2 * d - 1 < l.length - 2 * d := by omega
  have hplace : d + (l.length - 2 * d - 1) = l.length - 1 - d := by omega
  rw [List.getLastD_eq_getLast?, List.getLast?_eq_getElem?, hlength, List.getElem?_take_of_lt hlast,
    List.getElem?_drop, hplace, List.getD_eq_getElem?_getD]

end Kept

/-- Step 3 of R28, in places of the sorted list. -/
theorem rawCorrection_eq_places (offsets : List Int) {sorted : List Int} {d : Nat}
    (hsorted : sortOffsets (0 :: offsets) = sorted) (hd : discards sorted.length = d) :
    rawCorrection offsets = (sorted.getD d 0 + sorted.getD (sorted.length - 1 - d) 0).tdiv 2 := by
  have hlength : sorted.length = offsets.length + 1 := hsorted ▸ (sortOffsets_perm (0 :: offsets)).length_eq
  have hkept : 2 * d < sorted.length := hd ▸ two_mul_discards_lt (by omega)
  rw [← headD_kept hkept, ← getLastD_kept hkept, ← hd, ← hsorted]
  rfl

/-- Without a contributor the station's own 0 is the only value. -/
theorem rawCorrection_nil : rawCorrection [] = 0 := rfl

/-- Settles O12: the sorted list is the model's `sortOffsets`, the number discarded its `discards`. -/
theorem correctionIsTheMidpointOfTheKeptOffsets : Obligations.CorrectionIsTheMidpointOfTheKeptOffsets := by
  intro offsets _
  refine ⟨sortOffsets (0 :: offsets), sortOffsets_perm _, sortOffsets_pairwise _, discards _,
    discards_of_le_two, discards_of_three_to_six, discards_of_seven_le, rawCorrection_eq_places offsets rfl rfl, ?_⟩
  rintro rfl
  exact rawCorrection_nil

end Sys2Proof.Machine

/-! The writes of a command: every command is a chain of writes of a few kinds, each with the fact about it that the invariants of the
station turn on. The chain is found once for each operation; an invariant then has one case for each kind of write. -/

namespace Sys2Proof.Machine

-- One theorem at a time: many theorems elaborated side by side each take a thread with a stack of its own.
set_option Elab.async false

open Safety

/-! ### The kinds of write -/

/-- The parts of the station that no invariant of its collections, outputs and arms speaks of. -/
def freeParts : List Part :=
  [.clock, .timeFrame, .nextId, .eventsInFlight, .startCount, .symbol, .silence, .ripe, .counters, .engine, .monitor, .rotation,
    .tx, .collisions, .transaction, .latch, .loader, .inPins, .sampled, .resetHeld, .lateHandling, .freeIndex]

/-- A receive buffer holds the frame. -/
def Buffered (f : Framer) (g : ReceivedFrame) : Prop :=
  f.bufferA = .full g ∨ f.bufferA = .handling g ∨ f.bufferB = .full g ∨ f.bufferB = .handling g

/-- An id under which arms are entered and cancelled: that of a buffered frame's sender, or the own id with a frame in flight. -/
def KnownSender (s : State) (sender : StationId) : Prop :=
  (sender = s.config.id ∧ s.arms.inFlight ≠ .none) ∨ ∃ g, Buffered s.framer g ∧ g.sender = sender

/-- The history says nothing against an entry of the Schedule: its arm is ACCEPTED wherever the sender's list has it (R61). -/
def EntryAllowed (s : State) (e : ScheduleEntry) : Prop :=
  KnownSender s e.sender ∧
    ∀ h ∈ s.historyOf e.sender, h.id = e.armId → ∃ tag action, h.status = .accepted tag action

/-- What an operation makes of one output: its safe level, its own condition kept, or ACTING in an acting state (R78, R79). -/
def OutputMoves (acting : Bool) (c : OutputConfig) (old new : Output) : Prop :=
  new = Output.safe c ∨ (new.condition = old.condition ∧ (old = Output.safe c → new = Output.safe c)) ∨
    (new.condition = .acting ∧ acting = true)

/-- One write. `ok` says whether the bound of the Event Store is followed. -/
inductive Write (ok : Prop) : State → State → Prop
  | other {s t : State} (h : Frame freeParts s t) : Write ok s t
  | store (s : State) (st : EventStore) (h : ok → s.store.total ≤ 128 → st.total ≤ 128) : Write ok s (s.setStore st)
  | agreement (s : State) (a : Agreement) (h : a.state = s.agreement.state) : Write ok s (s.setAgreement a)
  | enter (s : State) (a : Agreement) (hnew : a.state ≠ .unset)
      (hid : s.agreement.state ≠ .unset ∨ validStationId s.config.id = true)
      (hout : (s.setAgreement a).acting = true ∨ ∀ i : Fin 8, (s.outputs[i]).condition ≠ .acting) :
      Write ok s (s.setAgreement a)
  | outputs (s : State) (os : Vector Output 8)
      (h : ∀ i : Fin 8, OutputMoves s.acting s.config.outputs[i] s.outputs[i] os[i]) : Write ok s (s.setOutputs os)
  | configured (s : State) (c : StationConfig) (h : validStationId c.id = true) :
      Write ok s (s.setConfig c).safeOutputs
  | schedule (s : State) (es : List ScheduleEntry) (hlen : s.schedule.length ≤ 32 → es.length ≤ 32)
      (hes : ∀ e ∈ es, e ∈ s.schedule ∨ EntryAllowed s e) : Write ok s (s.setSchedule es)
  | enterHistory (s : State) (sender : StationId) (id tag : Byte) (action : LineTime) (h : KnownSender s sender) :
      Write ok s (s.setHistory sender (enterHistory id tag action (s.historyOf sender)))
  | cancelArm (s : State) (sender : StationId) (id : Byte) (h : KnownSender s sender) : Write ok s (s.cancelArm sender id)
  | removeArms (s : State) (p : ArmRecord → Bool) : Write ok s (s.removeArms p)
  | updateArm (s : State) (id : Byte) (f : ArmRecord → ArmRecord) (h : ∀ r, (f r).id = r.id ∧ (f r).source = r.source) :
      Write ok s (s.updateArm id f)
  | createArm (s : State) (tag : Byte) (action : LineTime) (source : ArmSource) (hroom : s.arms.outbox.length < 8)
      (hsource : ∀ i, source = .input i → (s.capture.filters[i]).outstanding = none) :
      Write ok s (s.createArm tag action source)
  | cancels (s : State) (cs : List CancelRecord) (hlen : s.arms.cancels.length ≤ 8 → cs.length ≤ 8)
      (hids : (s.arms.cancels.map (·.id)).Nodup → (cs.map (·.id)).Nodup) :
      Write ok s (s.setArms { s.arms with cancels := cs })
  | inFlight (s : State) (x : InFlight) (h : x = .none ∨ s.agreement.state ≠ .unset) :
      Write ok s (s.setArms { s.arms with inFlight := x })
  | filters (s : State) (fs : Vector InputFilter 8)
      (h : ∀ i : Fin 8, (fs[i]).outstanding = (s.capture.filters[i]).outstanding) :
      Write ok s (s.setCapture { s.capture with filters := fs })
  | events (s : State) (es : List SharedEdge) (n : Nat) (h : s.capture.outbox.length ≤ 16 → es.length ≤ 16) :
      Write ok s (s.setCapture { s.capture with outbox := es, inFlight := n })
  | framer (s : State) (f : Framer)
      (hreceiver : f.receiver = s.framer.receiver ∨ ∀ g, f.receiver = .taking g → g.bytes.length ≤ 53)
      (hbuffers : ∀ g, Buffered f g → Buffered s.framer g ∨ validStationId g.sender = true) : Write ok s (s.setFramer f)
  | restart (s : State) : Write ok s s.restart
  | fullReset (s : State) : Write ok s s.fullReset

theorem Frame.agreement_state {ps : List Part} {s t : State} (h : Frame ps s t) (hp : Part.agreement ∉ ps := by decide) :
    t.agreement.state = s.agreement.state := by
  have hsame : { t.agreement with timeFrame := .idle } = { s.agreement with timeFrame := .idle } := h.same .agreement hp
  simpa using congrArg Agreement.state hsame

/-- A chain of writes. -/
abbrev Writes (ok : Prop) : State → State → Prop := Relation.ReflTransGen (Write ok)

/-- Whether the bound of the Event Store holds, where it is followed. -/
def StoreFits (ok : Prop) (s : State) : Prop := ok → s.store.total ≤ 128

namespace Writes

variable {ok : Prop}

theorem refl {s : State} : Writes ok s s := Relation.ReflTransGen.refl

theorem trans {s t u : State} (h : Writes ok s t) (h' : Writes ok t u) : Writes ok s u := Relation.ReflTransGen.trans h h'

theorem of_write {s t : State} (h : Write ok s t) : Writes ok s t := Relation.ReflTransGen.single h

theorem of_frame {s t : State} {ps : List Part} (h : Frame ps s t) (hps : ∀ p ∈ ps, p ∈ freeParts := by decide) :
    Writes ok s t := .of_write (.other (h.mono hps))

/-- A list of operations, where what allows each of them outlasts the others. -/
theorem foldl_of {α : Type} {f : State → α → State} (Q : State → Prop) (hQ : ∀ s a, Q s → Q (f s a))
    (h : ∀ s a, Q s → Writes ok s (f s a)) : ∀ (l : List α) (s : State), Q s → Writes ok s (l.foldl f s)
  | [], _, _ => refl
  | a :: l, s, hs => (h s a hs).trans (foldl_of Q hQ h l _ (hQ s a hs))

theorem foldl {α : Type} {f : State → α → State} (h : ∀ s a, Writes ok s (f s a)) (l : List α) (s : State) :
    Writes ok s (l.foldl f s) :=
  foldl_of (fun _ => True) (fun _ _ _ => trivial) (fun s a _ => h s a) l s trivial

end Writes

namespace State

variable {ok : Prop}

/-! ### The Event Store: its operations keep it within its capacity -/

theorem look_total (len horizon : Nat) (now : LineTime) (st : EventStore) :
    (st.look len horizon now).total = st.total := by
  have hsplit := congrArg List.length (List.takeWhile_append_dropWhile (p := settled len horizon now) (l := st.settling))
  simp only [List.length_append] at hsplit
  simp only [EventStore.look, EventStore.total, List.length_append]
  omega

theorem length_insertByKey (len : Nat) (now : LineTime) (r : EventRecord) (l : List EventRecord) :
    (insertByKey len now r l).length = l.length + 1 := by
  induction l with
  | nil => rfl
  | cons x xs ih =>
    unfold insertByKey
    split <;> simp [ih]

theorem take_total_le (len horizon : Nat) (now : LineTime) (r : EventRecord) (st : EventStore) (h : st.total ≤ 128) :
    (st.take len horizon now r).total ≤ 128 := by
  unfold EventStore.take
  split
  next => exact h
  next hroom =>
    split
    · simp only [EventStore.total, Config.storeCapacity, List.length_append, List.length_singleton] at *
      omega
    · rw [look_total]
      simp only [EventStore.total, Config.storeCapacity, length_insertByKey] at *
      omega

theorem flush_total (st : EventStore) : st.flush.total = st.total := by
  simp [EventStore.flush, EventStore.total, Nat.add_comm]

theorem takeRecord_writes (s : State) (r : EventRecord) : Writes ok s (s.takeRecord r) := by
  unfold takeRecord
  split
  · exact .refl
  · exact .of_write (.store s _ fun _ => take_total_le _ _ _ _ _)

theorem note_writes (s : State) (code : NoteCode) (origin : StationId) (detail tag : Byte) :
    Writes ok s (s.note code origin detail tag) := takeRecord_writes s _

theorem ownNote_writes (s : State) (code : NoteCode) (detail tag : Byte) : Writes ok s (s.ownNote code detail tag) :=
  takeRecord_writes s _

theorem entryNote_writes (s : State) (code : NoteCode) (e : ScheduleEntry) : Writes ok s (s.entryNote code e) :=
  takeRecord_writes s _

theorem lookStore_writes (s : State) : Writes ok s s.lookStore :=
  .of_write (.store s _ fun _ h => (look_total _ _ _ _).trans_le h)

theorem flushStore_writes (s : State) : Writes ok s s.flushStore :=
  .of_write (.store s _ fun _ h => (flush_total _).trans_le h)

/-! ### Outputs and Schedule -/

theorem mapOutputs_writes (s : State) (f : OutputConfig → Output → Output)
    (h : ∀ c o, OutputMoves s.acting c o (f c o)) : Writes ok s (s.mapOutputs f) :=
  .of_write (.outputs s _ fun i => by simpa using h _ _)

theorem endPulse_moves (acting : Bool) (c : OutputConfig) (len : Nat) (now : LineTime) (o : Output) :
    OutputMoves acting c o (o.endPulse len now) := by
  refine .inr (.inl ⟨?_, ?_⟩)
  · unfold Output.endPulse
    split
    · rfl
    · split <;> rfl
  · rintro rfl
    rfl

theorem boundary_moves (acting : Bool) (c : OutputConfig) (round : Round) (o : Output) :
    OutputMoves acting c o (o.boundary c round) := by
  unfold Output.boundary
  split
  next h => exact .inr (.inl ⟨rfl, fun hsafe => by simp [hsafe, Output.safe] at h⟩)
  next => exact .inr (.inl ⟨rfl, id⟩)

theorem step_moves (acting : Bool) (c : OutputConfig) (len : Nat) (old new : LineTime) (o : Output) :
    OutputMoves acting c o (o.step c len old new) := by
  unfold Output.step
  split
  · split
    · exact endPulse_moves acting c len new o
    · split
      next h _ _ _ => exact .inr (.inl ⟨rfl, fun hsafe => by simp [hsafe, Output.safe] at h⟩)
      next => exact .inr (.inl ⟨rfl, id⟩)
    · exact .inr (.inl ⟨rfl, id⟩)
  · exact .inr (.inl ⟨rfl, id⟩)

theorem begin_condition (o : Output) :
    o.begin.condition = .acting ∨ o.begin = o ∧ o.condition ≠ .safe := by
  unfold Output.begin
  split
  · exact .inl rfl
  next h => exact .inr ⟨rfl, h⟩

/-- An action handed over in an acting state leaves the output acting, or as undriven as it was. -/
theorem act_moves (c : OutputConfig) (len : Nat) (now due : LineTime) (a : Action) (o : Output) :
    OutputMoves true c o (o.act c len now due a) := by
  have same : ∀ o' : Output, o'.condition = o.begin.condition → OutputMoves true c o o' := by
    intro o' hcond
    rcases begin_condition o with h | ⟨h, hsafe⟩
    · exact .inr (.inr ⟨hcond.trans h, rfl⟩)
    · exact .inr (.inl ⟨by rw [hcond, h], fun hs => absurd (by rw [hs]; rfl) hsafe⟩)
  unfold Output.act
  split
  iterate 5 exact same _ rfl
  exact .inr (.inl ⟨rfl, id⟩)

theorem endPulses_writes (s : State) : Writes ok s s.endPulses :=
  mapOutputs_writes s _ fun c o => endPulse_moves _ c _ _ o

theorem setOutput_writes (s : State) (i : Fin 8) (o : Output)
    (h : OutputMoves s.acting s.config.outputs[i] s.outputs[i] o) :
    Writes ok s (s.setOutputs (s.outputs.set i.val o)) := by
  refine .of_write (.outputs s _ fun j => ?_)
  by_cases hij : i = j
  · subst hij
    simpa using h
  · have hne : i.val ≠ j.val := fun h' => hij (Fin.ext h')
    simp only [Fin.getElem_fin, Vector.getElem_set_ne _ _ hne]
    exact .inr (.inl ⟨rfl, id⟩)

theorem endPulse_writes (s : State) (i : Fin 8) : Writes ok s (s.endPulse i) :=
  setOutput_writes s i _ (endPulse_moves _ _ _ _ _)

theorem execute_writes (s : State) (e : ScheduleEntry) (h : s.acting = true) : Writes ok s (s.execute e) := by
  have acted : Writes ok s (s.setOutputs (s.outputs.set e.output.val
      ((s.outputs[e.output]).act (s.config.outputs[e.output]) s.len s.now e.due e.action))) :=
    setOutput_writes s _ _ (by rw [h]; exact act_moves _ _ _ _ _ _)
  unfold execute
  simp only
  split
  · exact acted.trans (entryNote_writes _ _ _)
  · exact acted

theorem takeEntry_writes (s : State) (e : ScheduleEntry) : Writes ok s (s.takeEntry e) := by
  unfold takeEntry
  split
  next h => exact execute_writes s e h
  next => exact entryNote_writes s _ e

/-- Entries leave the Schedule. -/
theorem schedule_sublist_writes (s : State) (es : List ScheduleEntry) (h : es.Sublist s.schedule) :
    Writes ok s (s.setSchedule es) :=
  .of_write (.schedule s es (fun hlen => h.length_le.trans hlen) fun _ he => .inl (h.subset he))

theorem lookSchedule_writes (s : State) : Writes ok s s.lookSchedule := by
  unfold lookSchedule
  split
  · exact (schedule_sublist_writes s _ (List.dropWhile_sublist _)).trans (Writes.foldl takeEntry_writes _ _)
  · exact .refl

theorem length_insertEntry (len : Nat) (e : ScheduleEntry) (l : List ScheduleEntry) :
    (insertEntry len e l).length = l.length + 1 := by
  induction l with
  | nil => rfl
  | cons x xs ih =>
    unfold insertEntry
    split <;> simp [ih]

theorem mem_insertEntry (len : Nat) (e x : ScheduleEntry) (l : List ScheduleEntry) :
    x ∈ insertEntry len e l ↔ x = e ∨ x ∈ l := by
  induction l with
  | nil => simp [insertEntry]
  | cons y ys ih =>
    unfold insertEntry
    split
    · simp
    · simp only [List.mem_cons, ih]
      tauto

/-- A note commutes with a write of the Schedule. -/
theorem setSchedule_entryNote_setSchedule (s : State) (code : NoteCode) (e : ScheduleEntry) (es es' : List ScheduleEntry) :
    ((s.setSchedule es).entryNote code e).setSchedule es' = (s.entryNote code e).setSchedule es' := by
  by_cases h : s.agreement.state = .unset <;> simp only [entryNote, note, takeRecord, setSchedule_agreement, h] <;> rfl

theorem entryAllowed_of_frame {s t : State} {ps : List Part} (h : Frame ps s t) {e : ScheduleEntry} (he : EntryAllowed s e)
    (hps : ∀ p ∈ [Part.config, .armsInFlight, .buffers, .history], p ∉ ps := by decide) : EntryAllowed t e := by
  obtain ⟨hsender, hhistory⟩ := he
  have hconfig : t.config = s.config := h.same .config (hps _ (by decide))
  have hflight : t.arms.inFlight = s.arms.inFlight := h.same .armsInFlight (hps _ (by decide))
  obtain ⟨hA, hB, -⟩ := h.same .buffers (hps _ (by decide))
  have hlists : t.arms.history = s.arms.history := h.same .history (hps _ (by decide))
  refine ⟨?_, by simpa [historyOf, hlists] using hhistory⟩
  simpa [KnownSender, Buffered, hconfig, hflight, hA, hB] using hsender

@[simp] theorem entryNote_schedule (s : State) (code : NoteCode) (e : ScheduleEntry) :
    (s.entryNote code e).schedule = s.schedule := (entryNote_frame s code e).same .schedule

theorem insertAndLook_writes (s : State) (e : ScheduleEntry) (he : EntryAllowed s e) (hroom : s.schedule.length < 32) :
    Writes ok s (s.insertAndLook e) := by
  refine Writes.trans (.of_write (.schedule s _ (fun _ => ?_) fun x hx => ?_)) (lookSchedule_writes _)
  · rw [length_insertEntry]
    omega
  · rcases (mem_insertEntry _ _ _ _).1 hx with rfl | hx
    · exact .inr he
    · exact .inl hx

theorem insertFull_writes (s : State) (e : ScheduleEntry) (he : EntryAllowed s e) : Writes ok s (s.insertFull e) := by
  unfold insertFull
  split
  · exact .refl
  next last hlast =>
    split
    · have hdrop : s.schedule.dropLast.length + 1 = s.schedule.length := by
        have hpos : 0 < s.schedule.length := List.length_pos_of_mem (List.mem_of_getLast? hlast)
        rw [List.length_dropLast]
        omega
      refine Writes.trans (Writes.trans (entryNote_writes s .evicted last) ?_) (lookSchedule_writes _)
      rw [setSchedule_entryNote_setSchedule, entryNote_schedule, setSchedule_schedule]
      refine .of_write (.schedule _ _ (fun h => ?_) fun x hx => ?_)
      · rw [entryNote_schedule] at h
        rw [length_insertEntry]
        omega
      · rcases (mem_insertEntry _ _ _ _).1 hx with rfl | hx
        · exact .inr (entryAllowed_of_frame (entryNote_frame s .evicted last) he)
        · exact .inl (by simpa using List.mem_of_mem_dropLast hx)
    · exact entryNote_writes s _ e

theorem insertRequest_writes (s : State) (e : ScheduleEntry) (he : EntryAllowed s e) : Writes ok s (s.insertRequest e) := by
  unfold insertRequest
  split
  · exact entryNote_writes s _ e
  · split
    next hroom => exact insertAndLook_writes s e he hroom
    next => exact insertFull_writes s e he

theorem stepSchedule_writes (s : State) : Writes ok s s.stepSchedule :=
  (schedule_sublist_writes s _ List.filter_sublist).trans (Writes.foldl (fun s e => entryNote_writes s .missed e) _ _)

/-! ### Readings -/

theorem setClock_writes (s : State) (c : LineClock) : Writes ok s (s.setClock c) := .of_frame (setClock_frame s c)

theorem atReadings_writes {f : State → State} (s : State) (t store : LineTime)
    (h : ∀ c, Writes ok (s.setClock c) (f (s.setClock c))) : Writes ok s (s.atReadings t store f) :=
  ((setClock_writes s _).trans (h _)).trans (setClock_writes _ _)

theorem atReading_writes {f : State → State} (s : State) (t : LineTime)
    (h : ∀ c, Writes ok (s.setClock c) (f (s.setClock c))) : Writes ok s (s.atReading t f) := atReadings_writes s t _ h

/-! ### Arms -/

theorem applyBindings_writes (s : State) (sender : StationId) (armId tag : Byte) (action : LineTime)
    (h : ∀ e : ScheduleEntry, e.sender = sender → e.armId = armId → EntryAllowed s e) :
    Writes ok s (s.applyBindings sender armId tag action) := by
  have requests : ∀ (es : List ScheduleEntry) (u : State), (∀ e ∈ es, EntryAllowed u e) →
      Writes ok u (es.foldl insertRequest u) := by
    intro es
    induction es with
    | nil => intro u _; exact .refl
    | cons e es ih =>
      intro u hu
      refine (insertRequest_writes u e (hu e (by simp))).trans (ih _ fun x hx => ?_)
      exact entryAllowed_of_frame (insertRequest_frame u e) (hu x (by simp [hx]))
  refine requests _ s fun e he => ?_
  obtain ⟨b, -, rfl⟩ := List.mem_map.1 he
  exact h _ rfl rfl

theorem mem_makeRoom {es : List HistoryEntry} {h : HistoryEntry} (hm : h ∈ makeRoom es) : h ∈ es := by
  unfold makeRoom at hm
  split at hm
  · exact List.mem_of_mem_drop hm
  · exact hm

/-- After an arm is entered, the sender's list has its id ACCEPTED and nothing else. -/
theorem accepted_of_mem_enterHistory {id tag : Byte} {action : LineTime} {es : List HistoryEntry} {h : HistoryEntry}
    (hm : h ∈ enterHistory id tag action es) (hid : h.id = id) : h.status = .accepted tag action := by
  rcases List.mem_append.1 hm with hm | hm
  · have := List.mem_filter.1 (mem_makeRoom hm)
    simp [hid] at this
  · rw [List.mem_singleton.1 hm]

@[simp] theorem historyOf_setHistory (s : State) (sender : StationId) (es : List HistoryEntry) :
    (s.setHistory sender es).historyOf sender = es := by
  simp [historyOf, setHistory]

theorem acceptArm_writes (s : State) (sender : StationId) (armId tag : Byte) (action : LineTime)
    (h : KnownSender s sender) : Writes ok s (s.acceptArm sender armId tag action) := by
  refine (Writes.of_write (.enterHistory s sender armId tag action h)).trans (applyBindings_writes _ _ _ _ _ ?_)
  rintro e rfl rfl
  refine ⟨h, fun x hx hid => ⟨tag, action, ?_⟩⟩
  rw [historyOf_setHistory] at hx
  exact accepted_of_mem_enterHistory hx hid

theorem removeArms_writes (s : State) (p : ArmRecord → Bool) : Writes ok s (s.removeArms p) := .of_write (.removeArms s p)

theorem expireArm_writes (s : State) (r : ArmRecord) : Writes ok s (s.expireArm r) := by
  unfold expireArm
  split
  · exact removeArms_writes s _
  · exact (ownNote_writes s _ _ _).trans (removeArms_writes _ _)

theorem expireWhere_writes (s : State) (p : ArmRecord → Bool) : Writes ok s (s.expireWhere p) :=
  Writes.foldl expireArm_writes _ s

theorem expireArms_writes (s : State) : Writes ok s s.expireArms := expireWhere_writes s _

theorem stepArms_writes (s : State) : Writes ok s s.stepArms := expireWhere_writes s _

theorem expireArmOf_writes (s : State) (id : Byte) : Writes ok s (s.expireArmOf id) := by
  unfold expireArmOf
  split
  · exact expireWhere_writes s _
  · exact (expireWhere_writes s _).trans (atReading_writes _ _ fun c => expireWhere_writes _ _)

theorem stepArmsFirst_writes (s : State) (judged : LineTime) : Writes ok s (s.stepArmsFirst judged) := by
  unfold stepArmsFirst
  split
  · exact .refl
  · exact atReading_writes s _ fun c => stepArms_writes _

theorem checkRequest_writes (s : State) (i : Fin 8) (stamp judged : LineTime) :
    Writes ok s (s.checkRequest i stamp judged) := by
  unfold checkRequest
  simp only
  split; · exact ownNote_writes s _ _ _
  split; · exact ownNote_writes s _ _ _
  split; · exact ownNote_writes s _ _ _
  split; · exact ownNote_writes s _ _ _
  split; · exact ownNote_writes s _ _ _
  next hnone hroom =>
    refine .of_write (.createArm s _ _ _ (Nat.lt_of_not_le hroom) fun j hj => ?_)
    obtain rfl : i = j := by simpa using hj
    simpa using hnone

theorem requestFromInput_writes (s : State) (i : Fin 8) (stamp judged : LineTime) :
    Writes ok s (s.requestFromInput i stamp judged) := (stepArmsFirst_writes s judged).trans (checkRequest_writes _ _ _ _)

theorem clearInFlight_writes (s : State) : Writes ok s s.clearInFlight := .of_write (.inFlight s _ (.inl rfl))

/-- Where the records keep their ids, or leave, the cancel outbox stays within its capacity with its ids distinct. -/
theorem setCancels_writes (s : State) (cs : List CancelRecord)
    (h : (cs.map (·.id)).Sublist (s.arms.cancels.map (·.id))) : Writes ok s (s.setArms { s.arms with cancels := cs }) := by
  refine .of_write (.cancels s cs (fun hlen => ?_) fun hids => hids.sublist h)
  have := h.length_le
  simp only [List.length_map] at this
  omega

theorem knownSender_of_frame {s t : State} {ps : List Part} (h : Frame ps s t) {sender : StationId} (hk : KnownSender s sender)
    (hps : ∀ p ∈ [Part.config, .armsInFlight, .buffers], p ∉ ps := by decide) : KnownSender t sender := by
  have hconfig : t.config = s.config := h.same .config (hps _ (by decide))
  have hflight : t.arms.inFlight = s.arms.inFlight := h.same .armsInFlight (hps _ (by decide))
  obtain ⟨hA, hB, -⟩ := h.same .buffers (hps _ (by decide))
  simpa [KnownSender, Buffered, hconfig, hflight, hA, hB] using hk

theorem armSent_writes (round : Round) (s : State) (a : CarriedArm) (h : KnownSender s s.config.id) :
    Writes ok s (armSent round s a) := by
  have counted : Writes ok s (s.updateArm a.id fun r => { r with sends := r.sends + 1, lastRound := some round }) :=
    .of_write (.updateArm s _ _ fun _ => ⟨rfl, rfl⟩)
  have hframe := (updateArm_frame s a.id fun r => { r with sends := r.sends + 1, lastRound := some round }).trans
    (updateArm_frame _ a.id fun r => { r with effective := true })
  unfold armSent
  simp only
  refine Writes.trans ?_ (removeArms_writes _ _)
  split
  · refine (counted.trans (.of_write (.updateArm _ a.id (fun r => { r with effective := true }) ?_))).trans
      (acceptArm_writes _ _ _ _ _ (knownSender_of_frame hframe h))
    exact fun _ => ⟨rfl, rfl⟩
  · exact counted

theorem cancelSent_writes (round : Round) (s : State) (a : CarriedCancel) (h : KnownSender s s.config.id) :
    Writes ok s (cancelSent round s a) := by
  have hids : (s.arms.cancels.map fun r =>
      if r.id == a.id then { r with sends := r.sends + 1, lastRound := some round } else r).map (·.id) =
        s.arms.cancels.map (·.id) := by
    rw [List.map_map]
    refine List.map_congr_left fun r _ => ?_
    simp only [Function.comp]
    split <;> rfl
  have counted := setCancels_writes (ok := ok) s _ (by rw [hids])
  unfold cancelSent
  simp only
  refine Writes.trans ?_ (setCancels_writes _ _ (List.filter_sublist.map _))
  split
  · exact counted.trans (.of_write (.cancelArm _ _ _ (knownSender_of_frame (setCancels_frame s _) h)))
  · exact counted

theorem armsSentWell_writes (s : State) : Writes ok s s.armsSentWell := by
  unfold armsSentWell
  split
  · exact .refl
  next round carried hflight =>
    refine (Writes.foldl_of (fun u => KnownSender u u.config.id) (fun u a hu => ?_)
      (fun u a hu => armSent_writes round u a hu) carried s ?_).trans (clearInFlight_writes _)
    · have hf := armSent_frame round u a
      have hconfig : (armSent round u a).config = u.config := hf.same .config
      rw [hconfig]
      exact knownSender_of_frame hf hu
    · exact .inl ⟨rfl, by simp [hflight]⟩
  next round carried hflight =>
    refine (Writes.foldl_of (fun u => KnownSender u u.config.id) (fun u a hu => ?_)
      (fun u a hu => cancelSent_writes round u a hu) carried s ?_).trans (clearInFlight_writes _)
    · have hf := cancelSent_frame round u a
      have hconfig : (cancelSent round u a).config = u.config := hf.same .config
      rw [hconfig]
      exact knownSender_of_frame hf hu
    · exact .inl ⟨rfl, by simp [hflight]⟩

theorem armsCollided_writes (s : State) : Writes ok s s.armsCollided := by
  unfold armsCollided
  split
  · exact .refl
  · exact (clearInFlight_writes s).trans (expireWhere_writes _ _)
  · exact clearInFlight_writes s

theorem cancelEffect_writes (s : State) (id : Byte) : Writes ok s (s.cancelEffect id) := by
  unfold cancelEffect
  split
  · exact removeArms_writes s _
  · split
    next hqueue =>
      have hcancels : (s.removeArms fun r => r.id == id).arms.cancels = s.arms.cancels :=
        (removeArms_frame s _).same .cancels
      simp only [Bool.and_eq_true, decide_eq_true_eq, Bool.not_eq_true', cancelQueued, Bool.or_eq_false_iff] at hqueue
      obtain ⟨⟨-, hnone, -⟩, hroom⟩ := hqueue
      refine (removeArms_writes s _).trans (.of_write (.cancels _ _ (fun _ => ?_) fun hids => ?_))
      · rw [hcancels, List.length_append]
        exact hroom
      · rw [hcancels] at hids ⊢
        rw [List.map_append, List.nodup_append]
        refine ⟨hids, by simp, fun x hx y hy => ?_⟩
        obtain ⟨r, hr, rfl⟩ := List.mem_map.1 hx
        obtain rfl : y = id := by simpa using hy
        simpa using List.any_eq_false.1 hnone r hr
    next => exact .refl

theorem takeArmFrame_writes (s : State) (sender : StationId) (arms : List ReceivedArm) (h : KnownSender s sender) :
    Writes ok s (s.takeArmFrame sender arms) := by
  unfold takeArmFrame
  split
  · refine Writes.foldl_of (fun u => KnownSender u sender) (fun u a hu => ?_) (fun u a hu => ?_) arms s h
    · unfold takeArm
      split; · exact knownSender_of_frame (note_frame u _ _ _ _) hu
      split; · exact hu
      split; · exact knownSender_of_frame (note_frame u _ _ _ _) hu
      split; · exact knownSender_of_frame (note_frame u _ _ _ _) hu
      exact knownSender_of_frame (acceptArm_frame u _ _ _ _) hu
    · unfold takeArm
      split; · exact note_writes u _ _ _ _
      split; · exact .refl
      split; · exact note_writes u _ _ _ _
      split; · exact note_writes u _ _ _ _
      exact acceptArm_writes u _ _ _ _ hu
  · exact .refl

theorem takeCancelFrame_writes (s : State) (sender : StationId) (ids : List Byte) (h : KnownSender s sender) :
    Writes ok s (s.takeCancelFrame sender ids) := by
  unfold takeCancelFrame
  split
  · exact Writes.foldl_of (fun u => KnownSender u sender)
      (fun u id hu => knownSender_of_frame (cancelArm_frame u sender id) hu)
      (fun u id hu => .of_write (.cancelArm u sender id hu)) ids s h
  · exact .refl

theorem takeEventFrame_writes (s : State) (sender : StationId) (es : List SharedEdge) :
    Writes ok s (s.takeEventFrame sender es) := by
  unfold takeEventFrame
  split
  · exact .refl
  · exact Writes.foldl (fun s e => takeRecord_writes s _) es s

/-! ### Inputs -/

theorem setFilter_writes (s : State) (i : Fin 8) (f : InputFilter)
    (h : f.outstanding = (s.capture.filters[i]).outstanding) : Writes ok s (s.setFilter i f) := by
  refine .of_write (.filters s _ fun j => ?_)
  by_cases hij : i = j
  · subst hij
    simpa using h
  · have hne : i.val ≠ j.val := fun h' => hij (Fin.ext h')
    simp only [Fin.getElem_fin, Vector.getElem_set_ne _ _ hne]

theorem sample_outstanding (level : Bool) (now : LineTime) (f : InputFilter) :
    (f.sample level now).outstanding = f.outstanding := by
  unfold InputFilter.sample
  split
  · rfl
  · split <;> split <;> rfl

theorem sampleInput_writes (s : State) (i : Fin 8) : Writes ok s (s.sampleInput i) := by
  unfold sampleInput
  split
  · exact (setFilter_writes s i _ (sample_outstanding _ _ _)).trans (.of_frame (setSampled_frame _ _))
  · exact .refl

theorem sampleInputs_writes (s : State) : Writes ok s s.sampleInputs := Writes.foldl sampleInput_writes _ s

theorem handOn_writes (s : State) (i : Fin 8) (edge : Edge) (stamp : LineTime) (stepped : Bool) (judged : LineTime) :
    Writes ok s (s.handOn i edge stamp stepped judged) := by
  have shared : ∀ (b : Bool) (x : SharedEdge) (r : EventRecord), (b = true → s.capture.outbox.length < 16) →
      Writes ok s ((if b then s.setCapture { s.capture with outbox := s.capture.outbox ++ [x] } else s).takeRecord r) := by
    intro b x r hb
    refine Writes.trans ?_ (takeRecord_writes _ _)
    split
    next h =>
      refine .of_write (.events s _ s.capture.inFlight fun _ => ?_)
      rw [List.length_append]
      exact hb h
    next => exact .refl
  unfold handOn
  simp only
  split
  · exact (shared _ _ _ (by simp)).trans (requestFromInput_writes _ _ _ _)
  · exact shared _ _ _ (by simp)

theorem acceptEdge_writes (judged : LineTime) (s : State) (i : Fin 8) : Writes ok s (acceptEdge judged s i) := by
  unfold acceptEdge
  split
  · exact .refl
  · simp only
    split
    · refine Writes.trans (setFilter_writes s i _ ?_) (handOn_writes _ _ _ _ _ _)
      rfl
    · exact setFilter_writes s i _ rfl

theorem acceptEdges_writes (judged : LineTime) (s : State) : Writes ok s (s.acceptEdges judged) := by
  refine Writes.foldl (fun s i => ?_) _ s
  split
  · exact acceptEdge_writes judged s i
  · exact .refl

/-! ### Sending -/

theorem reportAt_writes (s : State) (t : LineTime) : Writes ok s (s.reportAt t) := .of_frame (reportAt_frame s t)

theorem refreshTx_writes (s : State) : Writes ok s s.refreshTx := reportAt_writes s _

theorem setAccess_writes (s : State) (a : Access) : Writes ok s (s.setAccess a) :=
  .of_frame (ps := [.monitor, .rotation, .tx, .collisions]) fun p hp => by
    cases p <;> first | exact absurd (by decide) hp | rfl | simp [Part.same]

theorem beginFrame_writes (s : State) (kind : FrameKind) (body : List Byte) : Writes ok s (s.beginFrame kind body) :=
  .of_frame (beginFrame_frame s kind body)

/-- No record is eligible for a frame in UNSET (R49, R58). -/
theorem state_of_eligible (s : State) (h : s.eligibleArms ≠ [] ∨ s.eligibleCancels ≠ []) : s.agreement.state ≠ .unset := by
  intro hunset
  have hacting : s.acting = false := by simp [acting, hunset]
  rcases h with h | h
  · exact h (List.filter_eq_nil_iff.2 fun r _ => by simp [armEligible, hacting])
  · exact h (List.filter_eq_nil_iff.2 fun r _ => by simp [cancelEligible, hacting, hunset])

theorem assemble_writes (s : State) : Writes ok s s.assemble := by
  unfold assemble
  split
  next h => exact (Writes.of_write (.inFlight s _ (.inr (state_of_eligible s (.inr h.2))))).trans (beginFrame_writes _ _ _)
  split
  next h => exact (Writes.of_write (.inFlight s _ (.inr (state_of_eligible s (.inl h.2))))).trans (beginFrame_writes _ _ _)
  split
  · exact (Writes.of_frame (setTimeFrame_frame s _)).trans (beginFrame_writes _ _ _)
  split
  · exact (Writes.of_write (.events s s.capture.outbox _ id)).trans (beginFrame_writes _ _ _)
  · exact .refl

theorem takeSlot_writes (s : State) : Writes ok s s.takeSlot := by
  unfold takeSlot
  simp only
  split
  · split
    · exact ((setAccess_writes s _).trans (assemble_writes _)).trans (refreshTx_writes _)
    · exact setAccess_writes s _
  · exact .refl

theorem setEngine_writes (s : State) (e : Option Engine) : Writes ok s (s.setEngine e) := .of_frame (setEngine_frame s e)

theorem setTx_writes (s : State) (x : Transmitter) : Writes ok s (s.setTx x) := .of_frame (setTx_frame s x)

theorem countAlways_writes (s : State) (c : Counter) : Writes ok s (s.countAlways c) :=
  .of_frame (ps := [.counters]) fun p hp => by
    cases p <;> first | exact absurd (by decide) hp | rfl | simp [Part.same, countAlways]

theorem count_writes (s : State) (c : Counter) : Writes ok s (s.count c) := .of_frame (count_frame s c)

theorem readback_writes (s : State) (bits : BitVec 10) : Writes ok s (s.readback bits) := by
  unfold readback
  split
  · exact .refl
  · split
    · split
      · exact setEngine_writes s _
      · exact ((countAlways_writes s _).trans (setEngine_writes _ _)).trans (setTx_writes _ _)
    · exact .refl

theorem reportSent_writes (s : State) (kind : FrameKind) : Writes ok s (s.reportSent kind) := by
  cases kind
  case time => exact .of_frame (setTimeFrame_frame s _)
  case event =>
    exact .of_write (.events s _ 0 fun h => by
      rw [List.length_drop]
      omega)
  all_goals exact armsSentWell_writes s

theorem reportCollided_writes (s : State) (kind : FrameKind) : Writes ok s (s.reportCollided kind) := by
  cases kind
  case time => exact .of_frame (setTimeFrame_frame s _)
  case event => exact .of_write (.events s _ 0 id)
  all_goals exact armsCollided_writes s

theorem endFrame_writes (s : State) : Writes ok s s.endFrame := by
  unfold endFrame goodEnd
  repeat' split
  · exact .refl
  · exact setEngine_writes s _
  · exact ((((setEngine_writes s _).trans (setAccess_writes _ _)).trans (reportSent_writes _ _)).trans
      (setTx_writes _ _)).trans (refreshTx_writes _)
  · exact .refl
  · exact .refl

theorem collisionEnd_writes (s : State) (kind : FrameKind) : Writes ok s (s.collisionEnd kind) := by
  have reported : Writes ok s (((s.setEngine none).setAccess
      { s.access with collisions := s.access.collisions + 1, yield := true }).reportCollided kind) :=
    ((setEngine_writes s _).trans (setAccess_writes _ _)).trans (reportCollided_writes _ _)
  unfold collisionEnd
  simp only
  split
  · exact ((reported.trans (setAccess_writes _ _)).trans (ownNote_writes _ _ _ _)).trans (.of_frame (setLatch_frame _))
  · exact reported.trans (setTx_writes _ _)

theorem endQuash_writes (s : State) : Writes ok s s.endQuash := by
  unfold endQuash
  repeat' split
  · exact .refl
  · exact setEngine_writes s _
  · exact (collisionEnd_writes s _).trans (refreshTx_writes _)
  · exact .refl

/-! ### Reception -/

theorem setReceiver_writes (s : State) (r : Receiver) (h : ∀ g, r = .taking g → g.bytes.length ≤ 53) :
    Writes ok s (s.setReceiver r) := .of_write (.framer s _ (.inr h) fun _ => .inl)

theorem endSymbol_writes (s : State) : Writes ok s s.endSymbol := .of_frame (endSymbol_frame s)

theorem setSymbol_writes (s : State) (y : LineSymbol) : Writes ok s (s.setSymbol y) :=
  .of_frame (ps := [.symbol]) fun p hp => by
    cases p <;> first | exact absurd (by decide) hp | rfl | simp [Part.same, setSymbol]

theorem beginSymbol_writes (s : State) : Writes ok s s.beginSymbol := by
  unfold beginSymbol
  simp only
  split
  · exact .refl
  · split
    · exact (endSymbol_writes s).trans (setSymbol_writes _ _)
    · exact endSymbol_writes s

theorem confirmSymbol_writes (s : State) : Writes ok s s.confirmSymbol := by
  unfold confirmSymbol
  split
  next noted adjust _ =>
    refine Writes.trans (Writes.trans (.of_frame (ps := [.symbol, .startCount, .silence]) fun p hp => ?_) (setClock_writes _ _))
      (setAccess_writes _ _)
    cases p <;> first | exact absurd (by decide) hp | rfl | simp [Part.same]
  · exact .refl

theorem dropGlitch_writes (s : State) : Writes ok s s.dropGlitch := by
  unfold dropGlitch
  split
  · exact setSymbol_writes s _
  · exact .refl

theorem takeQuiet_writes (s : State) : Writes ok s s.takeQuiet := by
  have found : Writes ok s (s.setFramer { s.framer with quietFound := true }) :=
    .of_frame (ps := [.silence]) fun p hp => by
      cases p <;> first | exact absurd (by decide) hp | rfl | simp [Part.same]
  unfold takeQuiet
  simp only
  repeat' split
  · exact (found.trans (count_writes _ _)).trans (setReceiver_writes _ _ (by simp))
  · exact found.trans (setReceiver_writes _ _ (by simp))
  · exact found
  · exact .refl

theorem completeGap_writes (s : State) : Writes ok s s.completeGap := .of_frame (completeGap_frame s)

theorem recognise_writes (s : State) (take : State → State) (h : ∀ u, Writes ok u (take u)) :
    Writes ok s (s.recognise take) := by
  unfold recognise
  split
  · exact (setSymbol_writes s _).trans (h _)
  · exact .refl

theorem beginTaking_writes (s : State) : Writes ok s s.beginTaking :=
  setReceiver_writes s _ (by
    rintro g h
    obtain rfl := Receiver.taking.inj h
    simp)

theorem takeOpen_writes (s : State) : Writes ok s s.takeOpen := by
  unfold takeOpen
  split
  · exact beginTaking_writes s
  · exact (count_writes s _).trans (beginTaking_writes _)
  · exact .refl

theorem takeData_writes (b : Byte) (s : State) : Writes ok s (s.takeData b) := by
  unfold takeData
  split
  · exact (count_writes s _).trans (setReceiver_writes _ _ (by simp))
  · split
    next hroom =>
      refine setReceiver_writes _ _ fun g hg => ?_
      obtain rfl := Receiver.taking.inj hg
      simpa using hroom
    next => exact (count_writes s _).trans (setReceiver_writes _ _ (by simp))
  · exact .refl

theorem takeQuash_writes (s : State) : Writes ok s s.takeQuash := by
  unfold takeQuash
  split
  · exact count_writes s _
  · exact (count_writes s _).trans (setReceiver_writes _ _ (by simp))
  · exact .refl

theorem takeInvalid_writes (s : State) : Writes ok s s.takeInvalid := by
  unfold takeInvalid
  split
  iterate 2 exact (count_writes s _).trans (setReceiver_writes _ _ (by simp))
  exact .refl

/-- The buffers change hands; every frame in them was in one of them, or comes from a station. -/
theorem setFramer_writes (s : State) (f : Framer) (hreceiver : f.receiver = s.framer.receiver)
    (h : ∀ g, Buffered f g → Buffered s.framer g ∨ validStationId g.sender = true) : Writes ok s (s.setFramer f) :=
  .of_write (.framer s f (.inl hreceiver) h)

theorem takeBuffer_writes (s : State) : Writes ok s s.takeBuffer := by
  unfold takeBuffer
  split
  · exact .refl
  · exact .refl
  · split
    all_goals
      refine setFramer_writes s _ rfl fun g hg => .inl ?_
      simp_all [Buffered]
  iterate 2
    refine setFramer_writes s _ rfl fun g hg => .inl ?_
    simp_all [Buffered]
  exact .refl

theorem placeFrame_writes (s : State) (f : ReceivedFrame) (hf : validStationId f.sender = true) :
    Writes ok s (s.placeFrame f) := by
  have placed : ∀ fr : Framer, fr.receiver = s.framer.receiver →
      (∀ g, Buffered fr g → Buffered s.framer g ∨ g = f) → Writes ok s ((s.setFramer fr).takeBuffer) := by
    intro fr hreceiver h
    refine (setFramer_writes s fr hreceiver fun g hg => ?_).trans (takeBuffer_writes _)
    rcases h g hg with h | rfl
    · exact .inl h
    · exact .inr hf
  unfold placeFrame
  split
  iterate 4
    refine placed _ rfl fun g hg => ?_
    simp only [Buffered, Buffer.full.injEq] at hg ⊢
    tauto
  exact count_writes s _

theorem takeGoodFrame_writes (s : State) (kindByte sender : Byte) (body : List Byte) (f : Taking)
    (h : validStationId sender = true) : Writes ok s (s.takeGoodFrame kindByte sender body f) := by
  unfold takeGoodFrame
  simp only
  refine Writes.trans (setAccess_writes s { s.access with rotation := sender }) ?_
  split
  · exact (count_writes _ _).trans (ownNote_writes _ _ _ _)
  · split
    · exact count_writes _ _
    · split
      · exact placeFrame_writes _ _ h
      · exact count_writes _ _

/-- A frame that passes the tests of R126 is from a station. -/
theorem validStationId_of_frameFault {bs : List Byte} (h : frameFault bs = none) :
    validStationId (byteAt bs 1) = true := by
  unfold frameFault at h
  split at h; · simp at h
  split at h; · simp at h
  split at h; · simp at h
  split at h
  · simp at h
  next hvalid => simpa using hvalid

theorem takeShut_writes (s : State) : Writes ok s s.takeShut := by
  have waiting : Writes ok s (s.setReceiver .waitOpen) := setReceiver_writes _ _ (by simp)
  unfold takeShut
  simp only
  split
  · exact count_writes s _
  · split
    · exact waiting.trans (count_writes _ _)
    next hfault =>
      split
      · exact waiting
      · exact waiting.trans (takeGoodFrame_writes _ _ _ _ _ (validStationId_of_frameFault hfault))
  · exact .refl

/-! ### The Agreement Unit -/

theorem setAgreement_writes (s : State) (a : Agreement) (h : a.state = s.agreement.state) :
    Writes ok s (s.setAgreement a) := .of_write (.agreement s a h)

theorem safeOutputs_writes (s : State) : Writes ok s s.safeOutputs := mapOutputs_writes s _ fun _ _ => .inl rfl

/-- No output is ACTING once every output is SAFE (R79). -/
theorem safeOutputs_not_acting (s : State) (i : Fin 8) : (s.safeOutputs.outputs[i]).condition ≠ .acting := by
  simp [safeOutputs, mapOutputs, Output.safe]

/-- The notes of a change of state do not touch the outputs, so those are as well made SAFE before it. -/
theorem safeOutputs_ownNote_setLatch (s : State) (a : Agreement) (code : NoteCode) (detail : Byte) :
    (((s.setAgreement a).ownNote code detail 0).setLatch).safeOutputs =
      ((s.safeOutputs.setAgreement a).ownNote code detail 0).setLatch := by
  by_cases h : a.state = .unset <;> simp only [ownNote, note, takeRecord, setAgreement_agreement, h] <;> rfl

/-- A station that is not UNSET, or has its id, enters an acting state or ADRIFT, or with no output acting any state. -/
theorem enterAgreement_writes (s : State) (new : AgreementState) (hnew : new ≠ .unset)
    (hid : s.agreement.state ≠ .unset ∨ validStationId s.config.id = true)
    (hout : new = .alone ∨ new = .gathering ∨ new = .locked ∨ new = .adrift ∨
      ∀ i : Fin 8, (s.outputs[i]).condition ≠ .acting) : Writes ok s (s.enterAgreement new) := by
  have noted : ∀ (u : State) (a : Agreement), a.state ≠ .unset →
      (u.agreement.state ≠ .unset ∨ validStationId u.config.id = true) →
      ((u.setAgreement a).acting = true ∨ ∀ i : Fin 8, (u.outputs[i]).condition ≠ .acting) →
      Writes ok u (((u.setAgreement a).ownNote .agreement (BitVec.ofNat 8 new.code) 0).setLatch) :=
    fun u a ha hu ho => ((Writes.of_write (.enter u a ha hu ho)).trans (ownNote_writes _ _ _ _)).trans
      (.of_frame (setLatch_frame _))
  have idle : ∀ (c : Prop) [Decidable c] (t : State), Writes ok t (if c then t.setAccess { t.access with tx := .idle } else t) := by
    intro c _ t
    split
    · exact setAccess_writes t _
    · exact .refl
  unfold enterAgreement
  simp only
  refine Writes.trans ?_ (idle _ _)
  split
  · rw [safeOutputs_ownNote_setLatch]
    exact (safeOutputs_writes s).trans (noted _ _ hnew hid (.inr (safeOutputs_not_acting s)))
  next hadrift =>
    refine noted s _ hnew hid ?_
    rcases hout with rfl | rfl | rfl | rfl | hout
    · exact .inl rfl
    · exact .inl rfl
    · exact .inl rfl
    · exact absurd rfl hadrift
    · exact .inr hout

theorem closeTransition_writes (s : State) (k : CloseFigures) : Writes ok s (s.closeTransition k) := by
  have enter : ∀ (u : State) (new : AgreementState), new = .alone ∨ new = .locked ∨ new = .adrift →
      u.agreement.state ≠ .unset → Writes ok u (u.enterAgreement new) := by
    intro u new hnew hu
    refine enterAgreement_writes u new ?_ (.inl hu) (by tauto)
    rcases hnew with rfl | rfl | rfl <;> decide
  unfold closeTransition
  split
  next h =>
    refine enter s _ (by decide) fun hunset => ?_
    simp [acting, hunset] at h
  split
  next => exact .refl
  next h =>
    unfold closeListening
    simp only
    split
    · refine Writes.trans (Writes.trans (setAgreement_writes s { s.agreement with listenCount := s.agreement.listenCount - 1 } rfl)
        (setAgreement_writes _ _ ?_)) (enter _ _ (by decide) ?_)
      · rfl
      · simp [h]
    · exact setAgreement_writes s _ rfl
  next h =>
    unfold closeAlone
    split
    · exact enter s _ (by decide) (by simp [h])
    · exact .refl
  next h =>
    unfold closeGathering
    split
    · split
      · exact enter s _ (by decide) (by simp [h])
      · exact setAgreement_writes s _ rfl
    split
    · exact setAgreement_writes s _ rfl
    split
    · exact enter s _ (by decide) (by simp [h])
    · exact setAgreement_writes s _ rfl
  next h =>
    unfold closeLocked
    split
    · split
      · exact enter s _ (by decide) (by simp [h])
      · exact setAgreement_writes s _ rfl
    · exact setAgreement_writes s _ rfl
  next h =>
    unfold closeAdrift
    split
    · refine Writes.trans (Writes.trans (setAgreement_writes s { s.agreement with driftCount := 0 } rfl)
        (setAgreement_writes _ _ ?_)) (enter _ _ (by decide) ?_)
      · rfl
      · simp [h]
    · exact setAgreement_writes s _ rfl

theorem noteCorrection_state (a : Agreement) (c : Int) : (noteCorrection a c).state = a.state := by
  unfold noteCorrection
  split <;> rfl

theorem closeWork_writes (s : State) (k : CloseFigures) : Writes ok s (s.closeWork k) := by
  have barred : ∀ u : State, Writes ok u (u.noteBarred s.agreement k) := by
    intro u
    refine Writes.foldl (fun u i => ?_) _ u
    split
    · exact note_writes u _ _ _ _
    · exact .refl
  have marked : ∀ u : State, Writes ok u u.markTimeFrame := by
    intro u
    unfold markTimeFrame
    split
    · exact setAgreement_writes u _ rfl
    · exact .refl
  refine Writes.trans (Writes.trans (Writes.trans (setAgreement_writes s _ ?_) (barred _)) (closeTransition_writes _ k))
    (marked _)
  exact noteCorrection_state _ _

theorem takeLooks_writes (s : State) : Writes ok s s.takeLooks :=
  (((lookSchedule_writes s).trans (endPulses_writes _)).trans (expireArms_writes _)).trans (lookStore_writes _)

theorem stepCapture_writes (s : State) : Writes ok s s.stepCapture := by
  refine (Writes.of_write (.filters s (Vector.ofFn fun i => (s.capture.filters[i]).markStepped) fun i => ?_)).trans
    (.of_write (.events _ (s.capture.outbox.map fun e => { e with sure := false }) s.capture.inFlight fun h => ?_))
  · simp only [Fin.getElem_fin, Vector.getElem_ofFn, InputFilter.markStepped]
    split <;> rfl
  · simpa using h

theorem makeStep_writes (s : State) : Writes ok s s.makeStep := by
  unfold makeStep
  split
  · exact .refl
  next new _ =>
    have driven : Writes ok s ((s.setClock s.clock.stepped).mapOutputs fun c o => Output.step c s.len s.now new o) :=
      (setClock_writes s _).trans (mapOutputs_writes _ _ fun c o => step_moves _ c _ _ _ o)
    exact (((driven.trans (stepCapture_writes _)).trans (stepSchedule_writes _)).trans (stepArms_writes _)).trans
      (lookSchedule_writes _)

theorem handAdoption_writes (s : State) (founder : StationId) (offset : Int) (h : s.agreement.state ≠ .unset) :
    Writes ok s (s.handAdoption founder offset) := by
  unfold handAdoption
  simp only
  refine Writes.trans (Writes.trans ((takeLooks_writes s).trans ((flushStore_writes _).trans (setClock_writes _ _)))
    (setAgreement_writes _ _ ?_)) (atReading_writes _ _ fun c => ?_)
  · rfl
  split
  · exact takeRecord_writes _ _
  · refine (takeRecord_writes _ _).trans (enterAgreement_writes _ _ (by decide) (.inl ?_) (.inr (.inl rfl)))
    rw [(takeRecord_frame _ _).agreement_state]
    exact (takeLooks_frame s).agreement_state.trans_ne h

theorem adopt_writes (s : State) (founder : StationId) (offset : Int) (h : s.agreement.state ≠ .unset) :
    Writes ok s (s.adopt founder offset) := by
  unfold adopt adoptLate
  refine Writes.trans ?_ (reportAt_writes _ _)
  split
  · refine Writes.trans (handAdoption_writes s founder offset h) (Writes.trans ?_ (.of_frame (setFreeIndex_frame _ _)))
    split
    · exact makeStep_writes _
    · exact .refl
  · exact handAdoption_writes s _ _ h

theorem takeTimeFrame_writes (s : State) (sender : StationId) (state : AgreementState) (founder : StationId)
    (sent stamp : LineTime) (noted : Byte) : Writes ok s (s.takeTimeFrame sender state founder sent stamp noted) := by
  have peer : ∀ p, Writes ok s (s.setPeer sender p) := fun p => setAgreement_writes s _ rfl
  unfold takeTimeFrame
  simp only
  split
  next => exact .refl
  next h =>
    split
    · split
      · exact peer _
      · exact (peer _).trans (adopt_writes _ _ _ h)
    · exact peer _

theorem handOver_writes (s : State) (f : ReceivedFrame) (h : KnownSender s f.sender) : Writes ok s (s.handOver f) := by
  unfold handOver
  split
  · split
    · exact .refl
    · exact takeTimeFrame_writes s _ _ _ _ _ _
  · exact takeEventFrame_writes s _ _
  · exact takeArmFrame_writes s _ _ h
  · exact takeCancelFrame_writes s _ _ h

theorem endHandling_writes (s : State) : Writes ok s s.endHandling := by
  unfold endHandling
  simp only
  split
  · split
    next f hA =>
      refine ((handOver_writes s f (.inr ⟨f, .inr (.inl hA), rfl⟩)).trans ?_).trans (takeBuffer_writes _)
      refine setFramer_writes _ _ rfl fun g hg => .inl ?_
      simp only [Buffered, reduceCtorEq, false_or] at hg
      exact .inr (.inr hg)
    next f hB _ =>
      refine ((handOver_writes s f (.inr ⟨f, .inr (.inr (.inr hB)), rfl⟩)).trans ?_).trans (takeBuffer_writes _)
      refine setFramer_writes _ _ rfl fun g hg => .inl ?_
      simp only [Buffered, reduceCtorEq, or_false] at hg
      exact hg.elim .inl fun h => .inr (.inl h)
    · exact .refl
  · exact .refl

/-! ### The end of a reference period -/

theorem takeEnds_writes (s : State) : Writes ok s s.takeEnds :=
  (((takeQuiet_writes s).trans (endSymbol_writes _)).trans (completeGap_writes _)).trans (endFrame_writes _)

theorem takeStarts_writes (judged : LineTime) (s : State) : Writes ok s (s.takeStarts judged) :=
  (((endQuash_writes s).trans (refreshTx_writes _)).trans (takeSlot_writes _)).trans (acceptEdges_writes _ _)

theorem takeLine_writes (s : State) : Writes ok s s.takeLine := (takeEnds_writes s).trans (takeStarts_writes _ _)

theorem takeDue_writes (s : State) : Writes ok s s.takeDue :=
  ((sampleInputs_writes s).trans (takeLooks_writes _)).trans (takeLine_writes _)

theorem countPeriod_writes (s : State) : Writes ok s s.countPeriod := .of_frame (countPeriod_frame s)

theorem boundaryWork_writes (s : State) : Writes ok s s.boundaryWork := by
  have outputs : Writes ok s (s.mapOutputs fun c o => o.boundary c s.now.round) :=
    mapOutputs_writes s _ fun c o => boundary_moves _ c _ o
  exact ((((outputs.trans (.of_frame (muteBoundary_frame _))).trans (lookSchedule_writes _)).trans (endPulses_writes _)).trans
    (expireArms_writes _)).trans (lookStore_writes _)

theorem clockPeriod_writes (lookFirst : Bool) (s : State) : Writes ok s (s.clockPeriod lookFirst) := by
  have when : ∀ (b : Bool) (t u : State), Writes ok t u → Writes ok t (if b then u else t) := by
    intro b t u h
    cases b
    · exact .refl
    · exact h
  have advanced : Writes ok s (s.makeStep.setClock s.advances.clock) := (makeStep_writes s).trans (setClock_writes _ _)
  exact ((advanced.trans (when _ _ _ (lookSchedule_writes _))).trans (when _ _ _ (closeWork_writes _ _))).trans
    (when _ _ _ (boundaryWork_writes _))

theorem plainClockPeriod_writes (s : State) : Writes ok s s.plainClockPeriod := by
  unfold plainClockPeriod
  split
  · exact clockPeriod_writes false s
  · refine Writes.trans ?_ (.of_frame (setFreeIndex_frame _ _))
    split
    · exact ((setClock_writes s _).trans (takeLooks_writes _)).trans (makeStep_writes _)
    · exact clockPeriod_writes false s

theorem markLate_writes (t s : State) : Writes ok t (t.markLate s) := .of_frame (markLate_frame t s)

theorem endPeriod_writes (s : State) : Writes ok s s.endPeriod := by
  unfold endPeriod
  split
  · exact .refl
  · exact ((((takeDue_writes s).trans (countPeriod_writes _)).trans (plainClockPeriod_writes _)).trans
      (reportAt_writes _ _)).trans (markLate_writes _ _)

theorem endPeriodNamed_writes (s : State) : Writes ok s s.endPeriodNamed :=
  ((((takeDue_writes s).trans (countPeriod_writes _)).trans (clockPeriod_writes _ _)).trans
    (reportAt_writes _ _)).trans (markLate_writes _ _)

/-! ### The bound of the Event Store along a chain -/

theorem restartStore_total_le (s : State) (h : s.store.total ≤ 128) : s.restartStore.total ≤ 128 := by
  have hflush := flush_total s.store
  unfold restartStore
  simp only
  split
  next => exact hflush.trans_le h
  next hroom =>
    simp only [EventStore.total, Config.storeCapacity, List.length_append, List.length_singleton] at *
    omega

theorem storeFits_of_write {s t : State} (h : Write ok s t) (hs : StoreFits ok s) : StoreFits ok t := by
  intro hok
  have same : ∀ {u : State}, u.store = s.store → u.store.total ≤ 128 := fun hu => hu ▸ hs hok
  cases h with
  | other h => exact same (h.same .store)
  | store st h => exact h hok (hs hok)
  | cancelArm => exact same ((cancelArm_frame _ _ _).same .store)
  | removeArms => exact same ((removeArms_frame _ _).same .store)
  | createArm => exact same ((createArm_frame _ _ _ _).same .store)
  | restart => exact restartStore_total_le s (hs hok)
  | fullReset => exact Nat.zero_le _
  | agreement | enter | outputs | configured | schedule | enterHistory | updateArm | cancels | inFlight | filters | events
  | framer => exact same rfl

theorem storeFits_of_writes {s t : State} (h : Writes ok s t) (hs : StoreFits ok s) : StoreFits ok t := by
  induction h with
  | refl => exact hs
  | tail _ hw ih => exact storeFits_of_write hw ih

theorem setStore_writes (s : State) (st : EventStore) (h : ok → st.total ≤ 128) : Writes ok s (s.setStore st) :=
  .of_write (.store s st fun hok _ => h hok)

/-- The records of the slot start come to the store before those of the close, in a store that fits either way. -/
theorem clockThenStarts_writes (lookFirst : Bool) (s : State) (hs : StoreFits ok s) :
    Writes ok s (s.clockThenStarts lookFirst) := by
  have closed := clockPeriod_writes (ok := ok) lookFirst s
  have starts : ∀ u : State, Writes ok u (u.atReadings s.now s.storeNow (takeStarts s.storeNow)) :=
    fun u => atReadings_writes u _ _ fun c => takeStarts_writes _ _
  unfold clockThenStarts
  simp only
  split
  · exact closed.trans (starts _)
  · have started := (closed.trans (setStore_writes _ s.store hs)).trans (starts _)
    have hstarted := storeFits_of_writes started hs
    exact started.trans (setStore_writes _ _ (storeFits_of_writes (clockPeriod_writes lookFirst (s.setStore _)) hstarted))

theorem endPeriodClockFirst_writes (lookFirst : Bool) (s : State) (hs : StoreFits ok s) :
    Writes ok s (s.endPeriodClockFirst lookFirst) := by
  have ended : Writes ok s (s.sampleInputs.takeLooks.takeEnds) :=
    ((sampleInputs_writes s).trans (takeLooks_writes _)).trans (takeEnds_writes _)
  have started := ended.trans (clockThenStarts_writes lookFirst _ (storeFits_of_writes ended hs))
  exact ((started.trans (countPeriod_writes _)).trans (reportAt_writes _ _)).trans (markLate_writes _ _)

/-! ### Resets and the load -/

theorem setLoader_writes (s : State) (x : Loader) : Writes ok s (s.setLoader x) :=
  .of_frame (ps := [.loader]) fun p hp => by
    cases p <;> first | exact absurd (by decide) hp | rfl | simp [Part.same]

theorem setTap_writes (s : State) (x : Tap) : Writes ok s (s.setTap x) :=
  .of_frame (ps := [.transaction, .latch]) fun p hp => by
    cases p <;> first | exact absurd (by decide) hp | rfl | simp [Part.same]

theorem setLateHandling_writes (s : State) (x : Bool) : Writes ok s (s.setLateHandling x) :=
  .of_frame (ps := [.lateHandling]) fun p hp => by
    cases p <;> first | exact absurd (by decide) hp | rfl | simp [Part.same]

theorem releaseReset_writes (s : State) : Writes ok s s.releaseReset := by
  unfold releaseReset
  split
  · refine (setLoader_writes s .begin).trans (.of_frame (ps := [.resetHeld]) fun p hp => ?_)
    cases p <;> first | exact absurd (by decide) hp | rfl | simp [Part.same]
  · exact .refl

theorem loadFault_writes (s : State) (code : FaultCode) : Writes ok s (s.loadFault code) :=
  (setLoader_writes s _).trans (setTap_writes _ _)

theorem endRead_writes (s : State) (events : List BusEvent) : Writes ok s (s.endRead events) :=
  (setLoader_writes s _).trans (.of_frame (setFreeIndex_frame _ _))

theorem readUnanswered_writes (s : State) : Writes ok s s.readUnanswered := by
  unfold readUnanswered
  simp only
  split
  · exact .refl
  · split
    · exact (endRead_writes s _).trans (setLoader_writes _ _)
    · exact (endRead_writes s _).trans (loadFault_writes _ _)

theorem headDone_writes (s : State) (head : List Byte) : Writes ok s (s.headDone head) := by
  unfold headDone
  simp only
  split
  · split
    · exact (endRead_writes s _).trans (setLoader_writes _ _)
    · exact (endRead_writes s _).trans (loadFault_writes _ _)
  · exact .refl

theorem startLine_writes (s : State) : Writes ok s s.startLine := by
  have skipping : Writes ok s (s.setFramer
      { s.framer with receiver := .skipping, symbol := .none, silence := 0, quietFound := false }) :=
    .of_write (.framer s _ (.inr (by simp)) fun _ => .inl)
  exact skipping.trans (setAccess_writes _ _)

theorem enterListening_writes (s : State) (hid : validStationId s.config.id = true)
    (hout : ∀ i : Fin 8, (s.outputs[i]).condition ≠ .acting) : Writes ok s s.enterListening := by
  have counts : Writes ok s (s.setAgreement
      { s.agreement with listenCount := 6, founder := none, adjustCount := 0, driftCount := 0 }) :=
    setAgreement_writes s _ rfl
  exact counts.trans (enterAgreement_writes _ _ (by decide) (.inr hid) (.inr (.inr (.inr (.inr hout)))))

theorem loadGood_writes (s : State) (c : StationConfig) (h : validStationId c.id = true) :
    Writes ok s (s.loadGood c) := by
  have configured : Writes ok s ((s.setLoader ⟨.loaded, .none, 0, .none, s.loader.bus⟩).setConfig c).safeOutputs :=
    (setLoader_writes s _).trans (.of_write (.configured _ c h))
  have started : Writes ok s ((s.setLoader ⟨.loaded, .none, 0, .none, s.loader.bus⟩).setConfig c).startClock.safeOutputs :=
    configured.trans (setClock_writes _ _)
  have listening := (started.trans (startLine_writes _)).trans (enterListening_writes _ h (safeOutputs_not_acting _))
  exact listening.trans (sampleInputs_writes _)

/-- An image that passes every check gives station-wide values in their ranges (R172). -/
theorem stationValuesValid_of_imageFault {image : List Byte} (h : imageFault image = .none) :
    stationValuesValid (configOf image) = true := by
  have hvalues : valuesValid image = true := by
    unfold imageFault at h
    simp only at h
    split at h; · simp at h
    split at h
    · simp at h
    next hvalid => simpa using hvalid
  simp only [valuesValid, Bool.and_eq_true] at hvalues
  obtain ⟨⟨⟨hstation, -⟩, -⟩, -⟩ := hvalues
  exact hstation

theorem validStationId_of_imageFault {image : List Byte} (h : imageFault image = .none) :
    validStationId (configOf image).id = true := by
  have hstation := stationValuesValid_of_imageFault h
  simp only [stationValuesValid, Bool.and_eq_true] at hstation
  tauto

theorem bodyDone_writes (s : State) (body : List Byte) : Writes ok s (s.bodyDone body) := by
  unfold bodyDone
  simp only
  split
  · split
    · split
      next hfault => exact (endRead_writes s _).trans (loadGood_writes _ _ (validStationId_of_imageFault hfault))
      next => exact (endRead_writes s _).trans (loadFault_writes _ _)
    · exact .refl
  · exact .refl

/-! ### The tap port -/

theorem respond_writes (s : State) (result : ResultCode) (data : List Byte) : Writes ok s (s.respond result data) :=
  .of_frame (respond_frame s result data)

theorem takePost_writes (s : State) (params : List Byte) : Writes ok s (s.takePost params) := by
  unfold takePost
  simp only
  split
  next haccepted =>
    refine Writes.trans (Writes.trans (.of_write (.createArm s _ _ .tap ?_ (by simp))) (refreshTx_writes _)) (respond_writes _ _ _)
    unfold tapArmCheck at haccepted
    split at haccepted; · simp at haccepted
    split at haccepted; · simp at haccepted
    split at haccepted; · simp at haccepted
    split at haccepted; · simp at haccepted
    split at haccepted
    · simp at haccepted
    next hroom => exact Nat.lt_of_not_le hroom
  next => exact respond_writes s _ _

theorem takeCommand_writes (s : State) (cmd : TapCommand) (params : List Byte) : Writes ok s (s.takeCommand cmd params) := by
  cases cmd
  case readStatus => exact (respond_writes s _ _).trans (setTap_writes _ _)
  case readCounters =>
    unfold takeCommand takeReadCounters
    simp only
    split
    · refine (respond_writes s .accepted (counterBytes s)).trans (.of_frame (ps := [.counters]) fun p hp => ?_)
      cases p <;> first | exact absurd (by decide) hp | rfl | simp [Part.same, clearCounters]
    · exact respond_writes s _ _
  case readEvent => exact setTap_writes s _
  case postTrigger => exact takePost_writes s _
  case cancelTrigger => exact ((cancelEffect_writes s _).trans (refreshTx_writes _)).trans (respond_writes _ _ _)
  case restart => exact setTap_writes s _
  case unknown => exact .refl
  all_goals exact respond_writes s _ _

theorem takePoint_writes (s : State) (cmd : TapCommand) (params : List Byte) : Writes ok s (s.takePoint cmd params) := by
  unfold takePoint
  split
  · exact takeCommand_writes s _ _
  · exact respond_writes s _ _

/-- The readout changes the gap state, and takes records from the lane. -/
theorem setStore_readout_writes (s : State) (st : EventStore) (h : st.total ≤ s.store.total) :
    Writes ok s (s.setStore st) := .of_write (.store s st fun _ hs => h.trans hs)

theorem beginRead_writes (s : State) : Writes ok s s.beginRead := by
  have marked : ∀ b : Bool, Writes ok s (if b then s.setStore { s.store with gap := .offered } else s) := by
    intro b
    cases b
    · exact .refl
    · exact setStore_readout_writes s _ le_rfl
  unfold beginRead
  simp only
  split
  all_goals exact (marked _).trans (setTap_writes _ _)

theorem completeRead_writes (s : State) : Writes ok s s.completeRead := by
  unfold completeRead
  split
  · refine setStore_readout_writes s _ ?_
    simp only [EventStore.total, List.length_drop]
    omega
  · exact setStore_readout_writes s _ le_rfl
  · exact .refl

theorem abortRead_writes (s : State) : Writes ok s s.abortRead := by
  unfold abortRead
  split
  iterate 2 exact setStore_readout_writes s _ le_rfl
  exact .refl

theorem moveTap_writes (s : State) (x : TapState) (sdo : Byte) : Writes ok s (s.moveTap x sdo) := setTap_writes s _

theorem responseByte_writes (s : State) : Writes ok s s.responseByte := by
  have completed : ∀ u : State, Writes ok u u.completeTransaction := by
    intro u
    unfold completeTransaction
    split
    · split
      · exact .refl
      · exact setTap_writes u _
    · exact completeRead_writes u
    · exact .refl
  unfold responseByte
  split
  · exact moveTap_writes s _ _
  · exact ((setTap_writes s _).trans (completed _)).trans (moveTap_writes _ _ _)
  · exact (setTap_writes s _).trans (moveTap_writes _ _ _)

theorem byteCompleted_writes (s : State) (b : Byte) : Writes ok s (s.byteCompleted b) := by
  unfold byteCompleted commandByte parameterByte turnaroundByte
  simp only
  split
  · exact .refl
  · split
    · exact ((setTap_writes s _).trans (moveTap_writes _ _ _)).trans (takePoint_writes _ _ _)
    · exact (setTap_writes s _).trans (moveTap_writes _ _ _)
  · split
    · exact .refl
    · split
      · exact ((setTap_writes s _).trans (moveTap_writes _ _ _)).trans (takePoint_writes _ _ _)
      · exact (setTap_writes s _).trans (moveTap_writes _ _ _)
  · refine Writes.trans ?_ (moveTap_writes _ _ _)
    split
    · exact beginRead_writes s
    · exact .refl
  · exact responseByte_writes s
  · exact moveTap_writes s _ _

theorem scsRise_writes (s : State) : Writes ok s s.scsRise := by
  have ended : Writes ok s (if s.tap.state = .response then s.abortRead else s) := by
    split
    · exact abortRead_writes s
    · exact .refl
  unfold scsRise
  simp only
  split
  · exact .refl
  · split
    · exact ended.trans (.of_write (.restart _))
    · exact ended.trans (setTap_writes _ _)

/-! ### Every command -/

/-- A command is taken on a station that is not held, with no handling late. -/
theorem unlessHeld_writes (s : State) (f : State → State) (hs : StoreFits ok s)
    (h : ∀ u, StoreFits ok u → Writes ok u (f u)) : Writes ok s (s.unlessHeld f) := by
  unfold unlessHeld whileReleased
  split
  · exact .refl
  · exact (setLateHandling_writes s _).trans (h _ hs)

/-- A command that names an outcome ends the period where the outcome is the case. -/
theorem ifDue_writes (s : State) (due : State → Bool) (f : State → State) (hs : StoreFits ok s)
    (h : ∀ u, StoreFits ok u → Writes ok u (f u)) : Writes ok s (s.unlessHeld fun u => if due u then f u else u) := by
  refine unlessHeld_writes s _ hs fun u hu => ?_
  split
  · exact h u hu
  · exact .refl

theorem ifProp_writes (s : State) (due : State → Prop) [DecidablePred due] (f : State → State) (hs : StoreFits ok s)
    (h : ∀ u, Writes ok u (f u)) : Writes ok s (s.unlessHeld fun u => if due u then f u else u) := by
  refine unlessHeld_writes s _ hs fun u _ => ?_
  split
  · exact h u
  · exact .refl

/-- Every command is a chain of writes. -/
theorem exec_writes (c : Instr) (s : State) (hs : StoreFits ok s) : ∃ t, exec c s = .next t ∧ Writes ok s t := by
  have named : ∀ due : State → Bool, Writes ok s (s.unlessHeld fun u => if due u then u.endPeriodNamed else u) :=
    fun due => ifDue_writes s due _ hs fun u _ => endPeriodNamed_writes u
  have clockFirst : ∀ (due : State → Bool) (lookFirst : Bool),
      Writes ok s (s.unlessHeld fun u => if due u then u.endPeriodClockFirst lookFirst else u) :=
    fun due lookFirst => ifDue_writes s due _ hs fun u hu => endPeriodClockFirst_writes lookFirst u hu
  have plain : ∀ f : State → State, (∀ u, Writes ok u (f u)) → Writes ok s (s.unlessHeld f) :=
    fun f h => unlessHeld_writes s f hs fun u _ => h u
  have parameter : ∀ (cmd : TapCommand) (b : Byte), Writes ok s (s.unlessHeld fun u => u.parameterTakePoint cmd b) :=
    fun cmd b => ifDue_writes s (fun u => u.lastParameterDue cmd) (fun u => u.byteCompleted b) hs fun u _ => byteCompleted_writes u b
  have command : ∀ b : Byte, Writes ok s (s.unlessHeld fun u => u.commandTakePoint b) :=
    fun b => ifProp_writes s (fun u => u.tap.state = .command) (fun u => u.byteCompleted b) hs fun u => byteCompleted_writes u b
  cases c
  case fullReset => exact ⟨_, rfl, .of_write (.fullReset s)⟩
  case referencePeriod => exact ⟨_, rfl, plain _ endPeriod_writes⟩
  case roundClose => exact ⟨_, rfl, clockFirst _ _⟩
  case overtimeEnd => exact ⟨_, rfl, clockFirst _ _⟩
  case clampLimitAdrift => exact ⟨_, rfl, clockFirst _ _⟩
  case driftLimitRefound => exact ⟨_, rfl, clockFirst _ _⟩
  case muteEnd => exact ⟨_, rfl, clockFirst _ _⟩
  case peerBarred peer => exact ⟨_, rfl, named fun u => u.barringDue peer⟩
  case peerSilentAbsent peer => exact ⟨_, rfl, named fun u => u.silenceDue peer⟩
  case barredRoundsEnd peer => exact ⟨_, rfl, named fun u => u.barredEndDue peer⟩
  case listenPeriodEnd => exact ⟨_, rfl, named _⟩
  case gatheringProgressLocked => exact ⟨_, rfl, named _⟩
  case gatheringLonelyAlone => exact ⟨_, rfl, named _⟩
  case lockedLonelyAlone => exact ⟨_, rfl, named _⟩
  case scheduleEntryDue => exact ⟨_, rfl, plain _ lookSchedule_writes⟩
  case pulseEnd output => exact ⟨_, rfl, plain _ fun u => endPulse_writes u output⟩
  case armExpired id => exact ⟨_, rfl, plain _ fun u => (expireArmOf_writes u id).trans (refreshTx_writes _)⟩
  case settle => exact ⟨_, rfl, plain _ lookStore_writes⟩
  case inputChange i level =>
    have driven : Writes ok s (s.drivePin i level) := .of_frame (ps := [.inPins]) fun p hp => by
      cases p <;> first | exact absurd (by decide) hp | rfl | simp [Part.same, drivePin]
    exact ⟨_, rfl, driven.trans (unlessHeld_writes _ _ hs fun u _ => sampleInput_writes u i)⟩
  case edgeAccepted =>
    exact ⟨_, rfl, plain _ fun u => ((sampleInputs_writes u).trans (acceptEdges_writes _ _)).trans (refreshTx_writes _)⟩
  case symbolConfirmed => exact ⟨_, rfl, plain _ confirmSymbol_writes⟩
  case symbolEnded => exact ⟨_, rfl, plain _ endSymbol_writes⟩
  case gapComplete => exact ⟨_, rfl, plain _ completeGap_writes⟩
  case quiet => exact ⟨_, rfl, plain _ takeQuiet_writes⟩
  case receiveOpen => exact ⟨_, rfl, plain _ fun u => recognise_writes u _ takeOpen_writes⟩
  case receiveDataSymbol b => exact ⟨_, rfl, plain _ fun u => recognise_writes u _ (takeData_writes b)⟩
  case receiveQuash => exact ⟨_, rfl, plain _ fun u => recognise_writes u _ takeQuash_writes⟩
  case receiveInvalidSymbol content =>
    refine ⟨_, rfl, plain _ fun u => ?_⟩
    split
    · exact .refl
    · exact recognise_writes u _ takeInvalid_writes
  case receiveShut => exact ⟨_, rfl, plain _ fun u => recognise_writes u _ takeShut_writes⟩
  case frameHandlingEnd =>
    refine ⟨_, rfl, ?_⟩
    unfold whileReleased
    split
    · exact .refl
    · exact (endHandling_writes s).trans (setLateHandling_writes _ _)
  case slotStart => exact ⟨_, rfl, plain _ takeSlot_writes⟩
  case symbolReadback bits => exact ⟨_, rfl, plain _ fun u => readback_writes u bits⟩
  case frameGoodEnd => exact ⟨_, rfl, plain _ endFrame_writes⟩
  case quashEnd => exact ⟨_, rfl, plain _ endQuash_writes⟩
  case scsFall =>
    refine ⟨_, rfl, plain _ fun u => ?_⟩
    unfold scsFall
    split
    · exact setTap_writes u _
    · exact .refl
  case scsRise => exact ⟨_, rfl, plain _ scsRise_writes⟩
  case restart => exact ⟨_, rfl, command _⟩
  case readStatus => exact ⟨_, rfl, command _⟩
  case countEvents => exact ⟨_, rfl, command _⟩
  case readEvent => exact ⟨_, rfl, command _⟩
  case badCommand code =>
    refine ⟨_, rfl, plain _ fun u => ?_⟩
    split
    · exact .refl
    · unfold commandTakePoint
      split
      · exact byteCompleted_writes u _
      · exact .refl
  case readCounters b => exact ⟨_, rfl, parameter _ b⟩
  case readPeer b => exact ⟨_, rfl, parameter _ b⟩
  case readSchedule b => exact ⟨_, rfl, parameter _ b⟩
  case readOutbox b => exact ⟨_, rfl, parameter _ b⟩
  case postTrigger b => exact ⟨_, rfl, parameter _ b⟩
  case cancelTrigger b => exact ⟨_, rfl, parameter _ b⟩
  case readEventResponseBegin =>
    exact ⟨_, rfl, ifProp_writes s (fun u => u.tap.state = .turnaround ∧ u.tap.eventRead = .awaited) _ hs
      fun u => byteCompleted_writes u 0⟩
  case transactionDone =>
    exact ⟨_, rfl, ifProp_writes s (fun u => u.tap.state = .response ∧ u.tap.response.length = 1) _ hs
      fun u => byteCompleted_writes u 0⟩
  case readUnanswered => exact ⟨_, rfl, plain _ readUnanswered_writes⟩
  case headReadDone => exact ⟨_, rfl, plain _ fun u => headDone_writes u _⟩
  case bodyReadDone bytes => exact ⟨_, rfl, plain _ fun u => bodyDone_writes u bytes⟩
  case tapByteCompleted b => exact ⟨_, rfl, plain _ fun u => byteCompleted_writes u b⟩
  case symbolBegins => exact ⟨_, rfl, plain _ beginSymbol_writes⟩
  case startBitGlitch => exact ⟨_, rfl, plain _ dropGlitch_writes⟩
  case resetReleased => exact ⟨_, rfl, releaseReset_writes s⟩

end State

end Sys2Proof.Machine

/-! The invariants that every step keeps, one case for each kind of write. -/

namespace Sys2Proof.Machine

set_option Elab.async false

open Safety

namespace State

/-! ### Steps -/

theorem step_eq (s : State) :
    (s.pending = [] ∧ step s = .next s) ∨
      ∃ c rest, s.pending = c :: rest ∧ step s = exec c (s.setPending rest) := by
  cases h : s.pending with
  | nil => exact .inl ⟨rfl, by simp [step, h]⟩
  | cons c rest => exact .inr ⟨c, rest, rfl, by simp [step, h]⟩

/-- A step takes a command off the queue, and is then a chain of writes. -/
theorem step_writes {ok : Prop} {s t : State} (hs : StoreFits ok s) (h : step s = .next t) :
    ∃ rest, Writes ok (s.setPending rest) t := by
  rcases step_eq s with ⟨-, hstep⟩ | ⟨c, rest, -, hstep⟩
  · obtain rfl : s = t := by simpa [hstep] using h
    exact ⟨s.pending, .refl⟩
  · obtain ⟨u, hexec, hwrites⟩ := exec_writes (ok := ok) c (s.setPending rest) hs
    obtain rfl : u = t := by simpa [hstep, hexec] using h
    exact ⟨rest, hwrites⟩

/-- What every write keeps, and the queue has no part in, every step keeps. -/
theorem step_keeps {P : State → Prop} (ok : Prop) (hfits : ∀ s, P s → StoreFits ok s) (hqueue : ∀ s rest, P s → P (s.setPending rest))
    (hwrite : ∀ s t, Write ok s t → P s → P t) {s t : State} (hs : P s) (h : step s = .next t) : P t := by
  obtain ⟨rest, hchain⟩ := step_writes (hfits s hs) h
  clear h
  induction hchain with
  | refl => exact hqueue s rest hs
  | tail _ hw ih => exact hwrite _ _ hw ih

/-! ### The lists after the writes of the Arm Unit -/

theorem removeArms_outbox (s : State) (p : ArmRecord → Bool) :
    (s.removeArms p).arms.outbox = s.arms.outbox.filter fun r => !p r :=
  (Frame.foldl releaseArm_frame _ _).same .outbox

theorem releaseArm_filters (s : State) (r : ArmRecord) : Released s (s.releaseArm r) r := by
  intro j
  unfold releaseArm
  split
  next h => simp [h]
  next i h =>
    simp only [setCapture_capture, Fin.getElem_fin, Vector.getElem_ofFn, h, ne_eq, reduceCtorEq, not_false_eq_true, true_and]

/-- Records that leave release the inputs that hold them, and no other. -/
theorem foldl_releaseArm_filters (rs : List ArmRecord) (s : State) (j : Fin 8) :
    (rs.foldl releaseArm s).capture.filters[j] =
      if ∃ r ∈ rs, r.source ≠ .tap ∧ (s.capture.filters[j]).outstanding = some r.id then
        { s.capture.filters[j] with outstanding := none } else s.capture.filters[j] := by
  induction rs generalizing s with
  | nil => simp
  | cons r rs ih =>
    rw [List.foldl_cons, ih]
    by_cases hr : r.source ≠ .tap ∧ (s.capture.filters[j]).outstanding = some r.id
    · rw [releaseArm_filters s r j, if_pos hr, if_neg (by simp), if_pos ⟨r, List.mem_cons_self, hr⟩]
    · simp only [releaseArm_filters s r j, List.mem_cons, exists_eq_or_imp, hr, false_or, if_false]

theorem removeArms_filters (s : State) (p : ArmRecord → Bool) (j : Fin 8) :
    (s.removeArms p).capture.filters[j] =
      if ∃ r ∈ s.arms.outbox, p r = true ∧ r.source ≠ .tap ∧ (s.capture.filters[j]).outstanding = some r.id then
        { s.capture.filters[j] with outstanding := none } else s.capture.filters[j] := by
  unfold removeArms
  rw [foldl_releaseArm_filters]
  simp only [List.mem_filter, and_assoc, setArms_capture]

theorem createArm_outbox (s : State) (tag : Byte) (action : LineTime) (source : ArmSource) :
    (s.createArm tag action source).arms.outbox = s.arms.outbox ++ [⟨s.newArmId, tag, action, source, 0, false, none⟩] := by
  cases source <;> rfl

theorem createArm_filters (s : State) (tag : Byte) (action : LineTime) (source : ArmSource) (j : Fin 8) :
    (s.createArm tag action source).capture.filters[j] =
      if source = .input j then { s.capture.filters[j] with outstanding := some s.newArmId } else s.capture.filters[j] := by
  cases source with
  | tap => simp [createArm]
  | input i =>
    by_cases hij : i = j
    · subst hij
      simp [createArm]
    · have hne : i.val ≠ j.val := fun h => hij (Fin.ext h)
      simp [createArm, hij, Vector.getElem_set_ne _ _ hne]

theorem length_makeRoom_lt (es : List HistoryEntry) (h : es.length ≤ 8) : (makeRoom es).length < 8 := by
  unfold makeRoom
  split
  · simp only [List.length_drop]
    omega
  next hroom => exact Nat.lt_of_not_le hroom

theorem length_enterHistory_le (id tag : Byte) (action : LineTime) (es : List HistoryEntry) (h : es.length ≤ 8) :
    (enterHistory id tag action es).length ≤ 8 := by
  rw [enterHistory, List.length_append]
  exact length_makeRoom_lt _ ((List.length_filter_le _ _).trans h)

theorem length_cancelHistory_le (id : Byte) (es : List HistoryEntry) (h : es.length ≤ 8) :
    (cancelHistory id es).length ≤ 8 := by
  unfold cancelHistory
  split
  · rwa [List.length_map]
  · rw [List.length_append]
    exact length_makeRoom_lt _ h

/-- A property of every list of the arm history outlasts the change of one of them. -/
theorem history_set {P : List HistoryEntry → Prop} (h : Vector (List HistoryEntry) 24) (i : Fin 24) (es : List HistoryEntry)
    (hes : P h[i] → P es) (hall : ∀ j : Fin 24, P h[j]) (j : Fin 24) : P ((h.set i.val es)[j]) := by
  by_cases hij : i = j
  · subst hij
    simpa using hes (hall i)
  · have hne : i.val ≠ j.val := fun h' => hij (Fin.ext h')
    simpa [Vector.getElem_set_ne _ _ hne] using hall j

/-! ### Capacities -/

theorem withinCapacity_of_write {s t : State} (h : Write True s t) (hs : WithinCapacity s) : WithinCapacity t := by
  have hstore := storeFits_of_write h fun _ => hs.2.2.2.2.2.1
  obtain ⟨hout, hcan, hhist, hsch, hev, -, hrec⟩ := hs
  suffices hrest : t.arms.outbox.length ≤ 8 ∧ t.arms.cancels.length ≤ 8 ∧ (∀ i : Fin 24, (t.arms.history[i]).length ≤ 8) ∧
      t.schedule.length ≤ 32 ∧ t.capture.outbox.length ≤ 16 ∧ ∀ f, t.framer.receiver = .taking f → f.bytes.length ≤ 53 by
    obtain ⟨h1, h2, h3, h4, h5, h6⟩ := hrest
    exact ⟨h1, h2, h3, h4, h5, hstore trivial, h6⟩
  cases h with
  | other h =>
    have e1 : t.arms.outbox = s.arms.outbox := h.same .outbox
    have e2 : t.arms.cancels = s.arms.cancels := h.same .cancels
    have e3 : t.arms.history = s.arms.history := h.same .history
    have e4 : t.schedule = s.schedule := h.same .schedule
    have e5 : t.capture.outbox = s.capture.outbox := h.same .events
    have e6 : t.framer.receiver = s.framer.receiver := h.same .receiver
    rw [e1, e2, e3, e4, e5, e6]
    exact ⟨hout, hcan, hhist, hsch, hev, hrec⟩
  | schedule es hlen => exact ⟨hout, hcan, hhist, hlen hsch, hev, hrec⟩
  | enterHistory sender id tag action =>
    exact ⟨hout, hcan, history_set (P := fun es => es.length ≤ 8) _ _ _ (length_enterHistory_le _ _ _ _) hhist, hsch, hev, hrec⟩
  | cancelArm sender id =>
    exact ⟨hout, hcan, history_set (P := fun es => es.length ≤ 8) _ _ _ (length_cancelHistory_le _ _) hhist, (List.length_filter_le _ _).trans hsch, hev,
      hrec⟩
  | removeArms p =>
    have hframe := removeArms_frame s p
    have e2 : (s.removeArms p).arms.cancels = s.arms.cancels := hframe.same .cancels
    have e3 : (s.removeArms p).arms.history = s.arms.history := hframe.same .history
    have e4 : (s.removeArms p).schedule = s.schedule := hframe.same .schedule
    have e5 : (s.removeArms p).capture.outbox = s.capture.outbox := hframe.same .events
    have e6 : (s.removeArms p).framer.receiver = s.framer.receiver := hframe.same .receiver
    rw [removeArms_outbox, e2, e3, e4, e5, e6]
    exact ⟨(List.length_filter_le _ _).trans hout, hcan, hhist, hsch, hev, hrec⟩
  | updateArm id f => exact ⟨by simpa [updateArm] using hout, hcan, hhist, hsch, hev, hrec⟩
  | createArm tag action source hroom =>
    have hlen : (s.createArm tag action source).arms.outbox.length ≤ 8 := by
      rw [createArm_outbox, List.length_append]
      exact hroom
    cases source <;> exact ⟨hlen, hcan, hhist, hsch, hev, hrec⟩
  | cancels cs hlen => exact ⟨hout, hlen hcan, hhist, hsch, hev, hrec⟩
  | events es n hlen => exact ⟨hout, hcan, hhist, hsch, hlen hev, hrec⟩
  | framer f hreceiver =>
    refine ⟨hout, hcan, hhist, hsch, hev, fun g hg => ?_⟩
    rcases hreceiver with h | h
    · exact hrec g (h ▸ hg)
    · exact h g hg
  | restart => simp [restart, Arms.reset, Capture.reset, Framer.reset]
  | fullReset => simp [fullReset, reset, Arms.reset, Capture.reset, Framer.reset]
  | store | agreement | enter | outputs | configured | inFlight | filters => exact ⟨hout, hcan, hhist, hsch, hev, hrec⟩

/-! ### Outputs -/

theorem outputsLegal_of_write {s t : State} (h : Write False s t) (hs : OutputsLegal s) : OutputsLegal t := by
  cases h with
  | other h =>
    have e1 : t.outputs = s.outputs := h.same .outputs
    have e2 : t.config = s.config := h.same .config
    intro i
    rw [e1, e2, h.agreement_state]
    exact hs i
  | agreement a h =>
    intro i
    rw [setAgreement_agreement, h]
    exact hs i
  | enter a _ _ hout =>
    intro i
    refine ⟨(hs i).1, fun hi => ?_⟩
    rcases hout with h | h
    · simpa [acting, or_assoc] using h
    · exact absurd hi (h i)
  | outputs os h =>
    intro i
    obtain ⟨hsafe, hacting⟩ := hs i
    rcases h i with h | ⟨hcond, hlevel⟩ | ⟨hcond, hstate⟩
    · refine ⟨fun _ => h, fun hi => ?_⟩
      rw [setOutputs_outputs, h] at hi
      simp [Output.safe] at hi
    · exact ⟨fun hi => hlevel (hsafe (hcond ▸ hi)), fun hi => hacting (hcond ▸ hi)⟩
    · refine ⟨fun hi => absurd (hcond.symm.trans hi) (by decide), fun _ => ?_⟩
      simpa [acting, or_assoc] using hstate
  | configured c => 
    intro i
    refine ⟨fun _ => by simp [safeOutputs, mapOutputs, Output.safe], fun hi => absurd hi (safeOutputs_not_acting _ i)⟩
  | removeArms p =>
    have hframe := removeArms_frame s p
    have e1 : (s.removeArms p).outputs = s.outputs := hframe.same .outputs
    have e2 : (s.removeArms p).config = s.config := hframe.same .config
    intro i
    rw [e1, e2, hframe.agreement_state]
    exact hs i
  | createArm tag action source =>
    cases source <;> exact hs
  | restart => 
    intro i
    simp [restart, Output.reset]
  | fullReset => 
    intro i
    simp [fullReset, reset, Output.reset]
  | store | schedule | enterHistory | cancelArm | updateArm | cancels | inFlight | filters | events | framer => exact hs

end State

/-- Settles O57: a step is a chain of writes, and each of them keeps the capacities. -/
theorem everyStepKeepsTheCapacities : Obligations.EveryStepKeepsTheCapacities := fun _ _ hs hstep =>
  State.step_keeps True (fun _ h _ => h.2.2.2.2.2.1) (fun _ _ => id) (fun _ _ => State.withinCapacity_of_write) hs hstep

/-- An output that is driven away from its safe level is ACTING (R78). -/
theorem acting_of_off_safe_level {s : State} {i : Fin 8} {high : Bool}
    (hdriven : s.outPin i = .driven high) (hoff : s.outPin i ≠ safePin (s.config.outputs[i])) :
    (s.outputs[i]).condition = .acting := by
  unfold State.outPin Output.pin at hdriven hoff
  cases hcond : (s.outputs[i]).condition with
  | undriven => simp only [hcond, reduceCtorEq] at hdriven
  | safe => simp only [hcond, safePin, ne_eq, not_true_eq_false] at hoff
  | acting => rfl

/-- Settles O59: each write keeps the outputs legal; an output off its safe level is ACTING. -/
theorem outputsActOnlyInActingStates : Obligations.OutputsActOnlyInActingStates :=
  ⟨fun _ _ hs hstep => State.step_keeps False (fun _ _ h => h.elim) (fun _ _ => id) (fun _ _ => State.outputsLegal_of_write) hs hstep,
    fun _ i _ hs hdriven hoff => (hs i).2 (acting_of_off_safe_level hdriven hoff)⟩

namespace State

/-! ### The next arm id (R47) -/

theorem freeArmId_of_held {s : State} {id : Byte} (h : s.armIdHeld id = true) (fuel : Nat) :
    s.freeArmId (fuel + 1) id = s.freeArmId fuel (id + 1) := if_pos h

theorem freeArmId_of_free {s : State} {id : Byte} (h : s.armIdHeld id = false) (fuel : Nat) : s.freeArmId fuel id = id := by
  cases fuel with
  | zero => rfl
  | succ fuel => exact if_neg (by simp [h])

/-- The search tries one id after the other: it stops at the first that is free, or after all its tries. -/
theorem freeArmId_spec (s : State) (fuel : Nat) (id : Byte) :
    ∃ k ≤ fuel, s.freeArmId fuel id = id + BitVec.ofNat 8 k ∧
      (∀ j < k, s.armIdHeld (id + BitVec.ofNat 8 j) = true) ∧
      (k < fuel → s.armIdHeld (id + BitVec.ofNat 8 k) = false) := by
  induction fuel generalizing id with
  | zero => exact ⟨0, le_rfl, (BitVec.add_zero id).symm, by simp, by simp⟩
  | succ fuel ih =>
    by_cases hheld : s.armIdHeld id = true
    · obtain ⟨k, hk, heq, hbefore, hfree⟩ := ih (id + 1)
      have hnext : ∀ j : Nat, id + BitVec.ofNat 8 (j + 1) = id + 1 + BitVec.ofNat 8 j := by
        intro j
        rw [BitVec.ofNat_add, BitVec.add_assoc, BitVec.add_comm (BitVec.ofNat 8 j)]
        rfl
      refine ⟨k + 1, by omega, (freeArmId_of_held hheld fuel).trans (heq.trans (hnext k).symm), fun j hj => ?_, fun hlt => ?_⟩
      · cases j with
        | zero => simpa using hheld
        | succ j => exact hnext j ▸ hbefore j (by omega)
      · exact hnext k ▸ hfree (by omega)
    · have hfree : s.armIdHeld id = false := by simpa using hheld
      exact ⟨0, by omega, (freeArmId_of_free hfree _).trans (BitVec.add_zero id).symm, by simp, fun _ => by simpa using hfree⟩

theorem armIdHeld_iff (s : State) (id : Byte) :
    s.armIdHeld id = true ↔ id ∈ s.arms.outbox.map (·.id) ++ s.arms.cancels.map (·.id) := by
  simp [armIdHeld]

/-- Both outboxes together hold fewer ids than a run of seventeen. -/
theorem exists_free_of_capacity (s : State) (hout : s.arms.outbox.length ≤ 8) (hcan : s.arms.cancels.length ≤ 8) (id : Byte) :
    ∃ j < 17, s.armIdHeld (id + BitVec.ofNat 8 j) = false := by
  by_contra! hall
  have hsub : (List.range 17).map (fun j => id + BitVec.ofNat 8 j) ⊆
      s.arms.outbox.map (·.id) ++ s.arms.cancels.map (·.id) := by
    intro x hx
    obtain ⟨j, hj, rfl⟩ := List.mem_map.1 hx
    exact (armIdHeld_iff s _).1 (by simpa using hall j (List.mem_range.1 hj))
  have hnodup : ((List.range 17).map fun j => id + BitVec.ofNat 8 j).Nodup := by
    refine List.Nodup.map_on (fun a ha b hb hab => ?_) List.nodup_range
    have ha := List.mem_range.1 ha
    have hb := List.mem_range.1 hb
    have hnat := congrArg BitVec.toNat ((BitVec.add_right_inj _).1 hab)
    simp only [BitVec.toNat_ofNat] at hnat
    omega
  have hlen := (hnodup.subperm hsub).length_le
  simp only [List.length_map, List.length_range, List.length_append] at hlen
  omega

/-- Within the capacities of the outboxes the search comes to a free id. -/
theorem newArmId_spec (s : State) (hout : s.arms.outbox.length ≤ 8) (hcan : s.arms.cancels.length ≤ 8) :
    s.armIdHeld s.newArmId = false ∧
      ∃ k : Nat, k < 256 ∧ s.newArmId = s.arms.nextId + BitVec.ofNat 8 k ∧
        ∀ j : Nat, j < k → s.armIdHeld (s.arms.nextId + BitVec.ofNat 8 j) = true := by
  obtain ⟨k, -, heq, hbefore, hfree⟩ := freeArmId_spec s 256 s.arms.nextId
  obtain ⟨j, hj, hnot⟩ := exists_free_of_capacity s hout hcan s.arms.nextId
  have hk : k ≤ j := by
    by_contra! hlt
    simp [hbefore j hlt] at hnot
  have hnew : s.newArmId = s.arms.nextId + BitVec.ofNat 8 k := heq
  exact ⟨hnew ▸ hfree (by omega), k, by omega, hnew, hbefore⟩

/-! ### Arm ids and outstanding arms -/

theorem makeRoom_sublist (es : List HistoryEntry) : (makeRoom es).Sublist es := by
  unfold makeRoom
  split
  · exact List.drop_sublist 1 es
  · exact List.Sublist.refl es

/-- A list of distinct ids takes one more that it does not hold, after dropping what it must. -/
theorem nodup_makeRoom_append (es : List HistoryEntry) (e : HistoryEntry) (hes : (es.map (·.id)).Nodup)
    (he : ∀ x ∈ es, x.id ≠ e.id) : ((makeRoom es ++ [e]).map (·.id)).Nodup := by
  rw [List.map_append, List.nodup_append]
  refine ⟨hes.sublist ((makeRoom_sublist es).map _), by simp, fun x hx y hy => ?_⟩
  obtain ⟨r, hr, rfl⟩ := List.mem_map.1 hx
  obtain rfl : y = e.id := by simpa using hy
  exact he r ((makeRoom_sublist es).subset hr)

theorem nodup_enterHistory (id tag : Byte) (action : LineTime) (es : List HistoryEntry) (h : (es.map (·.id)).Nodup) :
    ((enterHistory id tag action es).map (·.id)).Nodup :=
  nodup_makeRoom_append _ _ (h.sublist (List.filter_sublist.map _)) fun x hx => by simpa using (List.mem_filter.1 hx).2

theorem cancel_id (e : HistoryEntry) : e.cancel.id = e.id := by
  unfold HistoryEntry.cancel
  split <;> rfl

theorem nodup_cancelHistory (id : Byte) (es : List HistoryEntry) (h : (es.map (·.id)).Nodup) :
    ((cancelHistory id es).map (·.id)).Nodup := by
  unfold cancelHistory
  split
  next =>
    have hids : (es.map fun e => if e.id == id then e.cancel else e).map (·.id) = es.map (·.id) := by
      rw [List.map_map]
      refine List.map_congr_left fun e _ => ?_
      simp only [Function.comp]
      split
      · exact cancel_id e
      · rfl
    rwa [hids]
  next hnone => exact nodup_makeRoom_append _ _ h fun x hx hid => hnone (List.any_eq_true.2 ⟨x, hx, by simpa using hid⟩)

theorem updateArm_ids (s : State) (id : Byte) (f : ArmRecord → ArmRecord) (h : ∀ r, (f r).id = r.id ∧ (f r).source = r.source) :
    (s.updateArm id f).arms.outbox.map (fun r => (r.id, r.source)) = s.arms.outbox.map fun r => (r.id, r.source) := by
  simp only [updateArm, setArms_arms, List.map_map]
  refine List.map_congr_left fun r _ => ?_
  simp only [Function.comp]
  split
  · rw [(h r).1, (h r).2]
  · rfl

/-- What `InputsInStep` asks of an outbox is a matter of its ids and sources alone. -/
theorem exists_record_iff (rs : List ArmRecord) (i : Fin 8) (id : Byte) :
    (∃ r ∈ rs, r.source = .input i ∧ r.id = id) ↔ (id, ArmSource.input i) ∈ rs.map fun r => (r.id, r.source) := by
  simp only [List.mem_map, Prod.mk.injEq]
  tauto

theorem eq_of_id_eq {rs : List ArmRecord} (h : (rs.map (·.id)).Nodup) {r r' : ArmRecord} (hr : r ∈ rs) (hr' : r' ∈ rs)
    (hid : r.id = r'.id) : r = r' := List.inj_on_of_nodup_map h hr hr' hid

/-- Records that leave release exactly the inputs whose records they are. -/
theorem inputsInStep_removeArms (s : State) (p : ArmRecord → Bool) (hids : (s.arms.outbox.map (·.id)).Nodup)
    (hs : InputsInStep s) : InputsInStep (s.removeArms p) := by
  intro i id
  rw [removeArms_filters, removeArms_outbox]
  constructor
  · intro hout
    split at hout
    · simp at hout
    next hkept =>
      obtain ⟨r, hr, hsource, rfl⟩ := (hs i id).1 hout
      refine ⟨r, List.mem_filter.2 ⟨hr, ?_⟩, hsource, rfl⟩
      by_contra hp
      exact hkept ⟨r, hr, by simpa using hp, by simp [hsource], hout⟩
  · rintro ⟨r, hr, hsource, rfl⟩
    obtain ⟨hr, hp⟩ := List.mem_filter.1 hr
    have hout := (hs i r.id).2 ⟨r, hr, hsource, rfl⟩
    rw [if_neg]
    · exact hout
    · rintro ⟨r', hr', hp', -, hout'⟩
      obtain rfl := eq_of_id_eq hids hr hr' (Option.some.inj (hout.symm.trans hout'))
      simp [hp'] at hp

theorem inputsInStep_createArm (s : State) (tag : Byte) (action : LineTime) (source : ArmSource)
    (hsource : ∀ i, source = .input i → (s.capture.filters[i]).outstanding = none) (hs : InputsInStep s) :
    InputsInStep (s.createArm tag action source) := by
  intro i id
  rw [createArm_filters, createArm_outbox]
  by_cases hi : source = .input i
  · have hnone : ¬∃ r ∈ s.arms.outbox, r.source = .input i ∧ r.id = id := by
      rw [← hs i id, hsource i hi]
      simp
    simp only [if_pos hi, List.mem_append, List.mem_singleton]
    constructor
    · intro h
      exact ⟨_, .inr rfl, hi, Option.some.inj h⟩
    · rintro ⟨r, hr | rfl, hsrc, hid⟩
      · exact absurd ⟨r, hr, hsrc, hid⟩ hnone
      · exact congrArg some hid
  · rw [if_neg hi, hs i id]
    simp only [List.mem_append, List.mem_singleton]
    constructor
    · rintro ⟨r, hr, h⟩
      exact ⟨r, .inl hr, h⟩
    · rintro ⟨r, hr | rfl, h⟩
      · exact ⟨r, hr, h⟩
      · exact absurd h.1 hi

/-- Arms in step, with the capacities that a new id is found by. -/
def ArmsInStep (s : State) : Prop := WithinCapacity s ∧ ArmIdsDistinct s ∧ InputsInStep s

theorem armsInStep_of_write {s t : State} (h : Write True s t) (hs : ArmsInStep s) : ArmsInStep t := by
  refine ⟨withinCapacity_of_write h hs.1, ?_⟩
  obtain ⟨⟨hroomOut, hroomCan, -⟩, ⟨hout, hcan, hhist⟩, hin⟩ := hs
  cases h with
  | other h =>
    have e1 : t.arms.outbox = s.arms.outbox := h.same .outbox
    have e2 : t.arms.cancels = s.arms.cancels := h.same .cancels
    have e3 : t.arms.history = s.arms.history := h.same .history
    have e4 : t.capture.filters = s.capture.filters := h.same .filters
    unfold ArmIdsDistinct InputsInStep
    rw [e1, e2, e3, e4]
    exact ⟨⟨hout, hcan, hhist⟩, hin⟩
  | enterHistory sender id tag action =>
    exact ⟨⟨hout, hcan, history_set (P := fun es => (es.map (·.id)).Nodup) _ _ _ (nodup_enterHistory _ _ _ _) hhist⟩, hin⟩
  | cancelArm sender id =>
    exact ⟨⟨hout, hcan, history_set (P := fun es => (es.map (·.id)).Nodup) _ _ _ (nodup_cancelHistory _ _) hhist⟩, hin⟩
  | removeArms p =>
    have e2 : (s.removeArms p).arms.cancels = s.arms.cancels := (removeArms_frame s p).same .cancels
    have e3 : (s.removeArms p).arms.history = s.arms.history := (removeArms_frame s p).same .history
    refine ⟨?_, inputsInStep_removeArms s p hout hin⟩
    unfold ArmIdsDistinct
    rw [removeArms_outbox, e2, e3]
    exact ⟨hout.sublist (List.filter_sublist.map _), hcan, hhist⟩
  | updateArm id f hf =>
    have hpairs := updateArm_ids s id f hf
    have hids : (s.updateArm id f).arms.outbox.map (·.id) = s.arms.outbox.map (·.id) := by
      simpa [Function.comp_def] using congrArg (List.map Prod.fst) hpairs
    refine ⟨⟨hids ▸ hout, hcan, hhist⟩, fun i x => ?_⟩
    rw [exists_record_iff, hpairs, ← exists_record_iff]
    exact hin i x
  | createArm tag action source _ hsource =>
    refine ⟨?_, inputsInStep_createArm s tag action source hsource hin⟩
    have hfree := (newArmId_spec s hroomOut hroomCan).1
    have hids : ((s.createArm tag action source).arms.outbox.map (·.id)).Nodup := by
      rw [createArm_outbox, List.map_append, List.nodup_append]
      refine ⟨hout, by simp, fun x hx y hy hxy => ?_⟩
      obtain rfl : y = s.newArmId := by simpa using hy
      have hheld := (armIdHeld_iff s s.newArmId).2 (List.mem_append_left _ (hxy ▸ hx))
      simp [hfree] at hheld
    cases source <;> exact ⟨hids, hcan, hhist⟩
  | cancels cs _ hids => exact ⟨⟨hout, hids hcan, hhist⟩, hin⟩
  | filters fs hfs =>
    refine ⟨⟨hout, hcan, hhist⟩, fun i id => ?_⟩
    have hsame : (fs[i]).outstanding = some id ↔ (s.capture.filters[i]).outstanding = some id := by rw [hfs i]
    exact hsame.trans (hin i id)
  | restart => simp [ArmIdsDistinct, InputsInStep, restart, Arms.reset, Capture.reset, InputFilter.reset]
  | fullReset => simp [ArmIdsDistinct, InputsInStep, fullReset, reset, Arms.reset, Capture.reset, InputFilter.reset]
  | store | agreement | enter | outputs | configured | schedule | inFlight | events | framer =>
    exact ⟨⟨hout, hcan, hhist⟩, hin⟩

end State

/-- Settles O21. -/
theorem newArmIdIsTheFirstFree : Obligations.NewArmIdIsTheFirstFree := fun s hout hcan => State.newArmId_spec s hout hcan

/-- Settles O60: each write keeps the arms in step, within the capacities. -/
theorem everyStepKeepsTheArmsInStep : Obligations.EveryStepKeepsTheArmsInStep := fun _ _ hcapacity hids hinputs hstep =>
  (State.step_keeps True (fun _ h _ => h.1.2.2.2.2.2.1) (fun _ _ => id) (fun _ _ => State.armsInStep_of_write)
    ⟨hcapacity, hids, hinputs⟩ hstep).2

end Sys2Proof.Machine

/-! The arm history and the Schedule stay in step (R61). -/

namespace Sys2Proof.Machine

set_option Elab.async false

open Safety

namespace State

/-- Station ids have places of their own in a table. -/
theorem stationIx_inj {a b : StationId} (ha : 1 ≤ a.toNat ∧ a.toNat ≤ 24) (hb : 1 ≤ b.toNat ∧ b.toNat ≤ 24)
    (h : stationIx a = stationIx b) : a = b := by
  have hval := congrArg Fin.val h
  simp only [stationIx, Fin.ofNat] at hval
  exact BitVec.eq_of_toNat_eq (by omega)

/-- A sender's list says nothing against the entries of the Schedule that are the sender's. -/
def ListInStep (s : State) (sender : StationId) (es : List HistoryEntry) : Prop :=
  ∀ e ∈ s.schedule, e.sender = sender → ∀ h ∈ es, h.id = e.armId → ∃ tag action, h.status = .accepted tag action

theorem listInStep_of_historyInStep {s : State} (h : HistoryInStep s) (sender : StationId) :
    ListInStep s sender (s.historyOf sender) := by
  rintro e he rfl
  exact h e he

theorem historyInStep_setHistory {s : State} {sender : StationId} (hsender : 1 ≤ sender.toNat ∧ sender.toNat ≤ 24)
    (hsenders : ScheduleSendersValid s) (hs : HistoryInStep s) {es : List HistoryEntry} (hes : ListInStep s sender es) :
    HistoryInStep (s.setHistory sender es) := by
  intro e he h hh
  by_cases hix : stationIx e.sender = stationIx sender
  · have hesender := stationIx_inj (hsenders e he) hsender hix
    refine hes e he hesender h ?_
    simpa [historyOf, setHistory, hix] using hh
  · refine hs e he h ?_
    have hne : (stationIx sender).val ≠ (stationIx e.sender).val := fun h' => hix (Fin.ext h'.symm)
    simpa [historyOf, setHistory, Vector.getElem_set_ne _ _ hne] using hh

theorem listInStep_enterHistory {s : State} {sender : StationId} {es : List HistoryEntry} (hes : ListInStep s sender es)
    (id tag : Byte) (action : LineTime) : ListInStep s sender (enterHistory id tag action es) := by
  intro e he hsender h hh hid
  by_cases hnew : h.id = id
  · exact ⟨tag, action, accepted_of_mem_enterHistory hh hnew⟩
  · rcases List.mem_append.1 hh with hh | hh
    · exact hes e he hsender h (List.mem_filter.1 (mem_makeRoom hh)).1 hid
    · obtain rfl := List.mem_singleton.1 hh
      exact absurd rfl hnew

/-- A cancel changes no entry of another id but by dropping it. -/
theorem mem_cancelHistory {id : Byte} {es : List HistoryEntry} {h : HistoryEntry} (hh : h ∈ cancelHistory id es)
    (hid : h.id ≠ id) : h ∈ es := by
  unfold cancelHistory at hh
  split at hh
  · obtain ⟨x, hx, rfl⟩ := List.mem_map.1 hh
    by_cases hxid : x.id = id
    · exact absurd ((congrArg HistoryEntry.id (if_pos (by simpa using hxid))).trans ((cancel_id x).trans hxid)) hid
    · rwa [if_neg (by simpa using hxid)]
  · rcases List.mem_append.1 hh with hh | hh
    · exact mem_makeRoom hh
    · obtain rfl := List.mem_singleton.1 hh
      exact absurd rfl hid

theorem mem_removeOrigin {s : State} {sender : StationId} {id : Byte} {e : ScheduleEntry} :
    e ∈ (s.removeOrigin sender id).schedule ↔ e ∈ s.schedule ∧ ¬(e.sender = sender ∧ e.armId = id) := by
  simp [removeOrigin, imp_iff_not_or]

/-- With the cancel of an arm its entries leave, so the cancelled history entry stands against none. -/
theorem historyInStep_cancelArm {s : State} {sender : StationId} (hsender : 1 ≤ sender.toNat ∧ sender.toNat ≤ 24)
    (hsenders : ScheduleSendersValid s) (hs : HistoryInStep s) (id : Byte) : HistoryInStep (s.cancelArm sender id) := by
  refine historyInStep_setHistory hsender (fun e he => hsenders e (mem_removeOrigin.1 he).1)
    (fun e he => hs e (mem_removeOrigin.1 he).1) fun e he hes h hh hid => ?_
  obtain ⟨he, horigin⟩ := mem_removeOrigin.1 he
  have hother : h.id ≠ id := fun h' => horigin ⟨hes, hid.symm.trans h'⟩
  exact listInStep_of_historyInStep hs sender e he hes h (mem_cancelHistory hh hother) hid

theorem knownSender_valid {s : State} (hs : HistoryKept s) {sender : StationId} (h : KnownSender s sender) :
    1 ≤ sender.toNat ∧ sender.toNat ≤ 24 := by
  obtain ⟨-, -, hbuffers, hown⟩ := hs
  rcases h with ⟨rfl, hflight⟩ | ⟨g, hg, rfl⟩
  · rcases hown with h | ⟨-, h⟩
    · exact h
    · exact absurd h hflight
  · exact hbuffers g hg

theorem historyKept_of_frame {s t : State} {ps : List Part} (h : Frame ps s t) (hs : HistoryKept s)
    (hps : ∀ p ∈ [Part.history, .schedule, .buffers, .config, .agreement, .armsInFlight], p ∉ ps := by decide) :
    HistoryKept t := by
  obtain ⟨hstep, hsenders, hbuffers, hown⟩ := hs
  have e1 : t.arms.history = s.arms.history := h.same .history (hps _ (by decide))
  have e2 : t.schedule = s.schedule := h.same .schedule (hps _ (by decide))
  obtain ⟨e3, e4, -⟩ := h.same .buffers (hps _ (by decide))
  have e5 : t.config = s.config := h.same .config (hps _ (by decide))
  have e6 : t.agreement.state = s.agreement.state := h.agreement_state (hps _ (by decide))
  have e7 : t.arms.inFlight = s.arms.inFlight := h.same .armsInFlight (hps _ (by decide))
  refine ⟨?_, e2 ▸ hsenders, by rwa [e3, e4], by rwa [e5, e6, e7]⟩
  unfold HistoryInStep historyOf
  rw [e1, e2]
  exact hstep

theorem historyKept_of_write {s t : State} (h : Write False s t) (hs : HistoryKept s) : HistoryKept t := by
  have hkept := hs
  obtain ⟨hstep, hsenders, hbuffers, hown⟩ := hs
  cases h with
  | other h => exact historyKept_of_frame h hkept
  | agreement a h => exact ⟨hstep, hsenders, hbuffers, hown.imp_right fun hunset => ⟨h.trans hunset.1, hunset.2⟩⟩
  | enter a hnew hid =>
    refine ⟨hstep, hsenders, hbuffers, .inl ?_⟩
    rcases hown with h | ⟨hunset, -⟩
    · exact h
    · rcases hid with h | h
      · exact absurd hunset h
      · simpa [validStationId] using h
  | configured c h =>
    have hid : 1 ≤ c.id.toNat ∧ c.id.toNat ≤ 24 := by simpa [validStationId] using h
    exact ⟨hstep, hsenders, hbuffers, .inl hid⟩
  | schedule es _ hes =>
    have hallowed : ∀ e ∈ es, (1 ≤ e.sender.toNat ∧ e.sender.toNat ≤ 24) ∧
        ∀ h ∈ s.historyOf e.sender, h.id = e.armId → ∃ tag action, h.status = .accepted tag action := by
      intro e he
      rcases hes e he with h | ⟨hsender, hhistory⟩
      · exact ⟨hsenders e h, hstep e h⟩
      · exact ⟨knownSender_valid hkept hsender, hhistory⟩
    exact ⟨fun e he => (hallowed e he).2, fun e he => (hallowed e he).1, hbuffers, hown⟩
  | enterHistory sender id tag action hknown =>
    exact ⟨historyInStep_setHistory (knownSender_valid hkept hknown) hsenders hstep
      (listInStep_enterHistory (listInStep_of_historyInStep hstep _) _ _ _), hsenders, hbuffers, hown⟩
  | cancelArm sender id hknown =>
    exact ⟨historyInStep_cancelArm (knownSender_valid hkept hknown) hsenders hstep id,
      fun e he => hsenders e (mem_removeOrigin.1 he).1, hbuffers, hown⟩
  | removeArms p => exact historyKept_of_frame (removeArms_frame s p) hkept
  | createArm tag action source => exact historyKept_of_frame (createArm_frame s tag action source) hkept
  | inFlight x hx =>
    refine ⟨hstep, hsenders, hbuffers, ?_⟩
    rcases hown with h | ⟨hunset, -⟩
    · exact .inl h
    · exact .inr ⟨hunset, hx.resolve_right fun h => h hunset⟩
  | framer f _ hf =>
    refine ⟨hstep, hsenders, fun g hg => ?_, hown⟩
    rcases hf g hg with h | h
    · exact hbuffers g h
    · simpa [validStationId] using h
  | restart => simp [HistoryKept, HistoryInStep, restart, Framer.reset, Agreement.reset, Arms.reset]
  | fullReset => simp [HistoryKept, HistoryInStep, fullReset, reset, Framer.reset, Agreement.reset, Arms.reset]
  | store | outputs | updateArm | cancels | filters | events => exact ⟨hstep, hsenders, hbuffers, hown⟩

/-! ### Accepting an arm at any station -/

theorem lookSchedule_schedule_subset (s : State) : s.lookSchedule.schedule ⊆ s.schedule := by
  unfold lookSchedule
  split
  · have hfold : ((s.schedule.takeWhile s.entryReached).foldl takeEntry
        (s.setSchedule (s.schedule.dropWhile s.entryReached))).schedule = s.schedule.dropWhile s.entryReached :=
      (Frame.foldl takeEntry_frame _ _).same .schedule
    rw [hfold]
    exact (List.dropWhile_sublist _).subset
  · exact List.Subset.refl _

/-- A request brings no entry into the Schedule but itself. -/
theorem mem_insertRequest {s : State} {e x : ScheduleEntry} (hx : x ∈ (s.insertRequest e).schedule) :
    x = e ∨ x ∈ s.schedule := by
  have inserted : ∀ u : State, x ∈ (u.insertAndLook e).schedule → x = e ∨ x ∈ u.schedule := fun u hu =>
    (mem_insertEntry _ _ _ _).1 (lookSchedule_schedule_subset _ hu)
  unfold insertRequest at hx
  split at hx
  · exact .inr (by simpa using hx)
  split at hx
  · exact inserted s hx
  unfold insertFull at hx
  split at hx
  · exact .inr hx
  split at hx
  · refine (inserted _ hx).imp_right fun hx => List.mem_of_mem_dropLast ?_
    simpa using hx
  · exact .inr (by simpa using hx)

theorem mem_applyBindings {s : State} {sender : StationId} {id tag : Byte} {action : LineTime} {x : ScheduleEntry}
    (hx : x ∈ (s.applyBindings sender id tag action).schedule) : (x.sender = sender ∧ x.armId = id) ∨ x ∈ s.schedule := by
  have requests : ∀ (es : List ScheduleEntry) (u : State), x ∈ (es.foldl insertRequest u).schedule → x ∈ es ∨ x ∈ u.schedule := by
    intro es
    induction es with
    | nil => exact fun u hu => .inr hu
    | cons e es ih =>
      intro u hu
      rcases ih _ hu with h | h
      · exact .inl (List.mem_cons_of_mem _ h)
      · exact (mem_insertRequest h).imp_left (by rintro rfl; exact List.mem_cons_self)
  refine (requests _ s hx).imp_left fun h => ?_
  obtain ⟨b, -, rfl⟩ := List.mem_map.1 h
  exact ⟨rfl, rfl⟩

@[simp] theorem acceptArm_history (s : State) (sender : StationId) (id tag : Byte) (action : LineTime) :
    (s.acceptArm sender id tag action).arms.history =
      (s.setHistory sender (enterHistory id tag action (s.historyOf sender))).arms.history :=
  (applyBindings_frame _ _ _ _ _).same .history

theorem historyInStep_acceptArm {s : State} {sender : StationId} (hsender : 1 ≤ sender.toNat ∧ sender.toNat ≤ 24)
    (hsenders : ScheduleSendersValid s) (hs : HistoryInStep s) (id tag : Byte) (action : LineTime) :
    HistoryInStep (s.acceptArm sender id tag action) := by
  have hentered := historyInStep_setHistory hsender hsenders hs
    (listInStep_enterHistory (listInStep_of_historyInStep hs sender) id tag action)
  intro e he h hh hid
  have hlist : (s.acceptArm sender id tag action).historyOf e.sender =
      (s.setHistory sender (enterHistory id tag action (s.historyOf sender))).historyOf e.sender := by
    simp [historyOf]
  rw [hlist] at hh
  rcases mem_applyBindings he with ⟨rfl, rfl⟩ | he
  · rw [historyOf_setHistory] at hh
    exact ⟨tag, action, accepted_of_mem_enterHistory hh hid⟩
  · exact hentered e he h hh hid

theorem scheduleSendersValid_acceptArm {s : State} {sender : StationId} (hsender : 1 ≤ sender.toNat ∧ sender.toNat ≤ 24)
    (hsenders : ScheduleSendersValid s) (id tag : Byte) (action : LineTime) :
    ScheduleSendersValid (s.acceptArm sender id tag action) := by
  intro e he
  rcases mem_applyBindings he with ⟨rfl, -⟩ | he
  · exact hsender
  · exact hsenders e he

end State

/-- Settles O25: each write keeps history and Schedule in step; an accepted arm is ACCEPTED before its entries are made, and a
cancelled one's entries leave before it is CANCELLED. -/
theorem historyAndScheduleStayInStep : Obligations.HistoryAndScheduleStayInStep := by
  refine ⟨fun _ _ hs hstep =>
    State.step_keeps False (fun _ _ h => h.elim) (fun _ _ => id) (fun _ _ => State.historyKept_of_write) hs hstep, ?_⟩
  intro s sender id tag action hlow hhigh hsenders hs
  have hsender := And.intro hlow hhigh
  exact ⟨State.historyInStep_acceptArm hsender hsenders hs id tag action,
    State.scheduleSendersValid_acceptArm hsender hsenders id tag action,
    State.historyInStep_cancelArm hsender hsenders hs id, fun e he => hsenders e (State.mem_removeOrigin.1 he).1,
    fun e he => (State.mem_removeOrigin.1 he).2⟩

end Sys2Proof.Machine

/-! The Line Clock: what the end of a period and an adoption make of it, what every other command leaves of it, and its ranges. -/

namespace Sys2Proof.Machine

set_option Elab.async false

open Safety

namespace State

/-! ### The clock after the operations that change it -/

theorem makeStep_clock (s : State) : s.makeStep.clock = s.clock.stepped := by
  cases h : s.clock.handed with
  | none => rw [makeStep_of_none s h, LineClock.stepped_of_none _ h]
  | some new =>
    unfold makeStep
    rw [h]
    have driven : ∀ u : State, u.stepCapture.stepSchedule.stepArms.lookSchedule.clock = u.clock := by
      intro u
      have hframe : Frame [.filters, .events, .schedule, .store, .outbox, .outputs] u
          u.stepCapture.stepSchedule.stepArms.lookSchedule :=
        ((((stepCapture_frame u).mono).trans ((stepSchedule_frame _).mono)).trans ((stepArms_frame _).mono)).trans
          ((lookSchedule_frame _).mono)
      exact hframe.same .clock
    exact driven _

@[simp] theorem closeWork_clock (s : State) (k : CloseFigures) : (s.closeWork k).clock = s.clock :=
  (closeWork_frame s k).same .clock

@[simp] theorem boundaryWork_clock (s : State) : s.boundaryWork.clock = s.clock := (boundaryWork_frame s).same .clock

@[simp] theorem lookSchedule_clock (s : State) : s.lookSchedule.clock = s.clock := (lookSchedule_frame s).same .clock

@[simp] theorem takeLooks_clock (s : State) : s.takeLooks.clock = s.clock := (takeLooks_frame s).same .clock

/-- The blocks' reactions leave the clock as the advances make it. -/
@[simp] theorem clockPeriod_clock (lookFirst : Bool) (s : State) : (s.clockPeriod lookFirst).clock = s.advances.clock := by
  unfold clockPeriod
  simp only
  split <;> split <;> split <;> simp

theorem advanceThenStep_clock (s : State) :
    s.advanceThenStep.clock = { s.advancesBefore.clock with handed := s.clock.handed }.stepped := by
  unfold advanceThenStep
  rw [makeStep_clock, takeLooks_clock, setClock_clock]

theorem plainClockPeriod_clock (s : State) :
    s.plainClockPeriod.clock = s.advances.clock ∨
      s.plainClockPeriod.clock = { s.advancesBefore.clock with handed := s.clock.handed }.stepped := by
  unfold plainClockPeriod
  split
  · exact .inl (clockPeriod_clock false s)
  · split
    · exact .inr (advanceThenStep_clock s)
    · exact .inl (clockPeriod_clock false s)

theorem handAdoption_clock (s : State) (founder : StationId) (offset : Int) :
    (s.handAdoption founder offset).clock = { s.clock with handed := some (timeAdd s.len s.now offset) } := by
  unfold handAdoption
  simp only [atReading_clock]
  exact congrArg (fun c : LineClock => { c with handed := some (timeAdd s.len s.now offset) }) (takeLooks_clock s)

@[simp] theorem reportAt_clock (s : State) (t : LineTime) : (s.reportAt t).clock = s.clock := (reportAt_frame s t).same .clock

/-- An adoption hands its step over, or makes it at once where the handling may be of the period ended last (R9, log 5). -/
theorem adopt_clock (s : State) (founder : StationId) (offset : Int) :
    (s.adopt founder offset).clock = { s.clock with handed := some (timeAdd s.len s.now offset) } ∨
      s.lateHandling = true ∧
        (s.adopt founder offset).clock = { s.clock with handed := some (timeAdd s.len s.now offset) }.stepped := by
  cases h : s.lateHandling with
  | false => exact .inl (by rw [adopt_of_not_late s _ _ h, reportAt_clock, handAdoption_clock])
  | true =>
    obtain ⟨made, hmade, hadopt⟩ := adopt_of_late s founder offset h
    rw [hadopt, reportAt_clock, setFreeIndex_clock]
    rcases hmade with rfl | rfl
    · exact .inl (handAdoption_clock s _ _)
    · exact .inr ⟨rfl, by rw [makeStep_clock, handAdoption_clock]⟩

/-! ### What leaves the reading as it is -/

/-- The clock, the configuration and the mark of a late handling are as they were. -/
def SameReading (s t : State) : Prop := t.clock = s.clock ∧ t.config = s.config ∧ t.lateHandling = s.lateHandling

theorem SameReading.of_frame {s t : State} {ps : List Part} (h : Frame ps s t)
    (hps : ∀ p ∈ [Part.clock, .config, .lateHandling], p ∉ ps := by decide) : SameReading s t :=
  ⟨h.same .clock (hps _ (by decide)), h.same .config (hps _ (by decide)), h.same .lateHandling (hps _ (by decide))⟩

theorem SameReading.refl (s : State) : SameReading s s := ⟨rfl, rfl, rfl⟩

theorem SameReading.trans {s t u : State} (h : SameReading s t) (h' : SameReading t u) : SameReading s u :=
  ⟨h'.1.trans h.1, h'.2.1.trans h.2.1, h'.2.2.trans h.2.2⟩

theorem setFramer_sameReading (s : State) (f : Framer) : SameReading s (s.setFramer f) := ⟨rfl, rfl, rfl⟩

theorem count_sameReading (s : State) (c : Counter) : SameReading s (s.count c) := .of_frame (count_frame s c)

theorem beginSymbol_sameReading (s : State) : SameReading s s.beginSymbol := by
  have ended : SameReading s s.endSymbol := .of_frame (endSymbol_frame s)
  unfold beginSymbol
  simp only
  split
  · exact .refl s
  · split
    · exact ended.trans (setFramer_sameReading _ _)
    · exact ended

theorem dropGlitch_sameReading (s : State) : SameReading s s.dropGlitch := by
  unfold dropGlitch
  split
  · exact setFramer_sameReading _ _
  · exact .refl s

theorem recognise_sameReading (s : State) (take : State → State) (h : ∀ u, SameReading u (take u)) :
    SameReading s (s.recognise take) := by
  unfold recognise
  split
  · exact (setFramer_sameReading s _).trans (h _)
  · exact .refl s

theorem takeOpen_sameReading (s : State) : SameReading s s.takeOpen := by
  unfold takeOpen
  split
  · exact setFramer_sameReading s _
  · exact (count_sameReading s _).trans (setFramer_sameReading _ _)
  · exact .refl s

theorem takeData_sameReading (b : Byte) (s : State) : SameReading s (s.takeData b) := by
  unfold takeData
  split
  · exact (count_sameReading s _).trans (setFramer_sameReading _ _)
  · split
    · exact setFramer_sameReading s _
    · exact (count_sameReading s _).trans (setFramer_sameReading _ _)
  · exact .refl s

theorem takeQuash_sameReading (s : State) : SameReading s s.takeQuash := by
  unfold takeQuash
  split
  · exact count_sameReading s _
  · exact (count_sameReading s _).trans (setFramer_sameReading _ _)
  · exact .refl s

theorem takeInvalid_sameReading (s : State) : SameReading s s.takeInvalid := by
  unfold takeInvalid
  split
  iterate 2 exact (count_sameReading s _).trans (setFramer_sameReading _ _)
  exact .refl s

theorem placeFrame_sameReading (s : State) (f : ReceivedFrame) : SameReading s (s.placeFrame f) := by
  have taken : ∀ fr : Framer, SameReading s ((s.setFramer fr).takeBuffer) := fun fr =>
    (setFramer_sameReading s fr).trans (.of_frame (takeBuffer_frame _))
  unfold placeFrame
  split
  iterate 4 exact taken _
  exact count_sameReading s _

theorem takeShut_sameReading (s : State) : SameReading s s.takeShut := by
  have good : ∀ (u : State) (kindByte sender : Byte) (body : List Byte) (f : Taking),
      SameReading u (u.takeGoodFrame kindByte sender body f) := by
    intro u kindByte sender body f
    unfold takeGoodFrame
    simp only
    refine SameReading.trans (t := u.setAccess { u.access with rotation := sender }) ⟨rfl, rfl, rfl⟩ ?_
    split
    · exact (count_sameReading _ _).trans (.of_frame (ownNote_frame _ _ _ _))
    · split
      · exact count_sameReading _ _
      · split
        · exact placeFrame_sameReading _ _
        · exact count_sameReading _ _
  unfold takeShut
  simp only
  split
  · exact count_sameReading s _
  · split
    · exact (setFramer_sameReading s _).trans (count_sameReading _ _)
    · split
      · exact setFramer_sameReading s _
      · exact (setFramer_sameReading s _).trans (good _ _ _ _ _)
  · exact .refl s

theorem readback_sameReading (s : State) (bits : BitVec 10) : SameReading s (s.readback bits) := by
  unfold readback
  repeat' split
  all_goals exact ⟨rfl, rfl, rfl⟩

theorem setTap_sameReading (s : State) (x : Tap) : SameReading s (s.setTap x) := ⟨rfl, rfl, rfl⟩

theorem responseByte_sameReading (s : State) : SameReading s s.responseByte := by
  have completed : ∀ u : State, SameReading u u.completeTransaction := by
    intro u
    unfold completeTransaction completeRead
    repeat' split
    all_goals exact ⟨rfl, rfl, rfl⟩
  unfold responseByte
  split
  · exact setTap_sameReading s _
  · exact ((setTap_sameReading s _).trans (completed _)).trans (setTap_sameReading _ _)
  · exact (setTap_sameReading s _).trans (setTap_sameReading _ _)

theorem byteCompleted_sameReading (s : State) (b : Byte) : SameReading s (s.byteCompleted b) := by
  have point : ∀ (x y : Tap) (cmd : TapCommand) (params : List Byte),
      SameReading s (((s.setTap x).setTap y).takePoint cmd params) := fun x y cmd params =>
    ((setTap_sameReading s x).trans (setTap_sameReading _ y)).trans (.of_frame (takePoint_frame _ _ _))
  have begun : ∀ u : State, SameReading u u.beginRead := by
    intro u
    unfold beginRead
    simp only
    split <;> split <;> exact ⟨rfl, rfl, rfl⟩
  unfold byteCompleted commandByte parameterByte turnaroundByte
  simp only
  split
  · exact .refl s
  · split
    · exact point _ _ _ _
    · exact setTap_sameReading s _
  · split
    · exact .refl s
    · split
      · exact point _ _ _ _
      · exact setTap_sameReading s _
  · split
    · exact (begun s).trans (setTap_sameReading _ _)
    · exact setTap_sameReading s _
  · exact responseByte_sameReading s
  · exact setTap_sameReading s _

theorem readUnanswered_sameReading (s : State) : SameReading s s.readUnanswered := by
  unfold readUnanswered
  simp only
  repeat' split
  all_goals exact ⟨rfl, rfl, rfl⟩

theorem headDone_sameReading (s : State) (head : List Byte) : SameReading s (s.headDone head) := by
  unfold headDone
  simp only
  repeat' split
  all_goals exact ⟨rfl, rfl, rfl⟩

/-! ### The commands of a period that has not ended -/

/-- What a command that neither ends a period nor resets or starts the station leaves: the clock but for its start-bit time, the
configuration, and no handling that may be late. -/
def ReadingStands (s t : State) : Prop :=
  (∃ x, t.clock = { s.clock with startBit := x }) ∧ t.config = s.config ∧ (s.resetHeld = false → t.lateHandling = false)

theorem readingStands_unlessHeld (s : State) (f : State → State) (h : ∀ u, SameReading u (f u)) :
    ReadingStands s (s.unlessHeld f) := by
  cases hheld : s.resetHeld with
  | true =>
    rw [unlessHeld_of_held hheld]
    exact ⟨⟨_, rfl⟩, rfl, fun h => by simp [hheld] at h⟩
  | false =>
    rw [unlessHeld_of_released hheld]
    obtain ⟨hclock, hconfig, hlate⟩ := h (s.setLateHandling false)
    exact ⟨⟨s.clock.startBit, hclock⟩, hconfig, fun _ => hlate⟩

theorem sameReading_if (c : Prop) [Decidable c] {s t : State} (h : SameReading s t) : SameReading s (if c then t else s) := by
  split
  · exact h
  · exact .refl s

/-- The commands that may change the reading, or be followed by a handling that is late. -/
def ChangesReading (c : Instr) : Prop :=
  EndsPeriod c ∨ c = .fullReset ∨ c = .scsRise ∨ (∃ bytes, c = .bodyReadDone bytes) ∨ c = .frameHandlingEnd ∨ c = .resetReleased

theorem exec_readingStands (c : Instr) (s : State) (hc : ¬ChangesReading c) : ∃ t, exec c s = .next t ∧ ReadingStands s t := by
  have plain : ∀ f : State → State, (∀ u, SameReading u (f u)) → ReadingStands s (s.unlessHeld f) := readingStands_unlessHeld s
  have point : ∀ (due : State → Prop) [DecidablePred due] (b : Byte),
      ReadingStands s (s.unlessHeld fun u => if due u then u.byteCompleted b else u) := fun due _ b =>
    plain _ fun u => sameReading_if _ (byteCompleted_sameReading u b)
  have command : ∀ b : Byte, ReadingStands s (s.unlessHeld fun u => u.commandTakePoint b) := fun b => point _ b
  have parameter : ∀ (cmd : TapCommand) (b : Byte), ReadingStands s (s.unlessHeld fun u => u.parameterTakePoint cmd b) :=
    fun cmd b => point (fun u => u.lastParameterDue cmd = true) b
  cases c
  case scheduleEntryDue => exact ⟨_, rfl, plain _ fun u => .of_frame (lookSchedule_frame u)⟩
  case pulseEnd output => exact ⟨_, rfl, plain _ fun u => .of_frame (setOutputs_frame u _)⟩
  case armExpired id =>
    exact ⟨_, rfl, plain _ fun u => (SameReading.of_frame (expireArmOf_frame u id)).trans (.of_frame (refreshTx_frame _))⟩
  case settle => exact ⟨_, rfl, plain _ fun u => .of_frame (lookStore_frame u)⟩
  case inputChange i level =>
    exact ⟨_, rfl, readingStands_unlessHeld (s.drivePin i level) _ fun u => .of_frame (sampleInput_frame u i)⟩
  case edgeAccepted =>
    exact ⟨_, rfl, plain _ fun u => ((SameReading.of_frame (sampleInputs_frame u)).trans
      (.of_frame (acceptEdges_frame _ _))).trans (.of_frame (refreshTx_frame _))⟩
  case symbolConfirmed =>
    refine ⟨_, rfl, ?_⟩
    cases hheld : s.resetHeld with
    | true =>
      rw [unlessHeld_of_held hheld]
      exact ⟨⟨_, rfl⟩, rfl, fun h => by simp [hheld] at h⟩
    | false =>
      rw [unlessHeld_of_released hheld]
      unfold confirmSymbol
      split
      · exact ⟨⟨_, rfl⟩, rfl, fun _ => rfl⟩
      · exact ⟨⟨_, rfl⟩, rfl, fun _ => rfl⟩
  case symbolEnded => exact ⟨_, rfl, plain _ fun u => .of_frame (endSymbol_frame u)⟩
  case gapComplete => exact ⟨_, rfl, plain _ fun u => .of_frame (completeGap_frame u)⟩
  case quiet => exact ⟨_, rfl, plain _ fun u => .of_frame (takeQuiet_frame u)⟩
  case receiveOpen => exact ⟨_, rfl, plain _ fun u => recognise_sameReading u _ takeOpen_sameReading⟩
  case receiveDataSymbol b => exact ⟨_, rfl, plain _ fun u => recognise_sameReading u _ (takeData_sameReading b)⟩
  case receiveQuash => exact ⟨_, rfl, plain _ fun u => recognise_sameReading u _ takeQuash_sameReading⟩
  case receiveInvalidSymbol content =>
    refine ⟨_, rfl, plain _ fun u => ?_⟩
    split
    · exact .refl u
    · exact recognise_sameReading u _ takeInvalid_sameReading
  case receiveShut => exact ⟨_, rfl, plain _ fun u => recognise_sameReading u _ takeShut_sameReading⟩
  case slotStart => exact ⟨_, rfl, plain _ fun u => .of_frame (takeSlot_frame u)⟩
  case symbolReadback bits => exact ⟨_, rfl, plain _ fun u => readback_sameReading u bits⟩
  case frameGoodEnd => exact ⟨_, rfl, plain _ fun u => .of_frame (endFrame_frame u)⟩
  case quashEnd => exact ⟨_, rfl, plain _ fun u => .of_frame (endQuash_frame u)⟩
  case scsFall => exact ⟨_, rfl, plain _ fun u => sameReading_if _ (setTap_sameReading u _)⟩
  case restart => exact ⟨_, rfl, command _⟩
  case readStatus => exact ⟨_, rfl, command _⟩
  case countEvents => exact ⟨_, rfl, command _⟩
  case readEvent => exact ⟨_, rfl, command _⟩
  case badCommand code =>
    refine ⟨_, rfl, plain _ fun u => ?_⟩
    split
    · exact .refl u
    · exact sameReading_if _ (byteCompleted_sameReading u _)
  case readCounters b => exact ⟨_, rfl, parameter _ b⟩
  case readPeer b => exact ⟨_, rfl, parameter _ b⟩
  case readSchedule b => exact ⟨_, rfl, parameter _ b⟩
  case readOutbox b => exact ⟨_, rfl, parameter _ b⟩
  case postTrigger b => exact ⟨_, rfl, parameter _ b⟩
  case cancelTrigger b => exact ⟨_, rfl, parameter _ b⟩
  case readEventResponseBegin => exact ⟨_, rfl, point _ 0⟩
  case transactionDone => exact ⟨_, rfl, point _ 0⟩
  case readUnanswered => exact ⟨_, rfl, plain _ readUnanswered_sameReading⟩
  case headReadDone => exact ⟨_, rfl, plain _ fun u => headDone_sameReading u _⟩
  case tapByteCompleted b => exact ⟨_, rfl, plain _ fun u => byteCompleted_sameReading u b⟩
  case symbolBegins => exact ⟨_, rfl, plain _ beginSymbol_sameReading⟩
  case startBitGlitch => exact ⟨_, rfl, plain _ dropGlitch_sameReading⟩
  all_goals exact absurd (by simp [ChangesReading, EndsPeriod]) hc

end State

end Sys2Proof.Machine

/-! The ranges of the Line Clock (1.1), and the readings that each command leaves. -/

namespace Sys2Proof.Machine

set_option Elab.async false

open Safety

/-! ### The ranges of 1.1 -/

/-- `ClockInRange` as a matter of the clock and the configuration alone. -/
def LineClock.InRange (c : StationConfig) (k : LineClock) : Prop :=
  -200 ≤ k.trim ∧ k.trim ≤ 200 ∧ k.pace < 1000000 ∧
    (k.running = true →
      20000 ≤ c.roundLength ∧ c.roundLength ≤ 2000000 ∧ 10 ≤ c.stepLimit ∧ c.stepLimit ≤ 500 ∧
        k.now.phase < c.roundLength ∧ k.overtime ≤ c.stepLimit ∧ ∀ t, k.handed = some t → t.phase < c.roundLength)

theorem clockInRange_iff (s : State) : ClockInRange s ↔ s.clock.InRange s.config := Iff.rfl

theorem clampTo_le (limit : Nat) (c : Int) : -(limit : Int) ≤ clampTo limit c ∧ clampTo limit c ≤ limit := by
  unfold clampTo
  split
  · omega
  · split <;> omega

theorem trimAfter_range (len : Nat) (c trim : Int) : -200 ≤ trimAfter len c trim ∧ trimAfter len c trim ≤ 200 := by
  unfold trimAfter Config.trimLimit
  omega

theorem paceStep_lt {trim : Int} {pace : Nat} (hlow : -200 ≤ trim) (hhigh : trim ≤ 200) (hpace : pace < 1000000) :
    (paceStep trim pace).1 < 1000000 := by
  unfold paceStep
  simp only
  split <;> omega

section Ranges

variable {cfg : StationConfig} {k : LineClock}

theorem LineClock.InRange.stepped (h : k.InRange cfg) : k.stepped.InRange cfg := by
  cases hhanded : k.handed with
  | none => rwa [LineClock.stepped_of_none k hhanded]
  | some new =>
    rw [LineClock.stepped_of_some k new hhanded]
    obtain ⟨hlow, hhigh, hpace, hrun⟩ := h
    refine ⟨hlow, hhigh, hpace, fun hr => ?_⟩
    obtain ⟨h1, h2, h3, h4, -, -, hnew⟩ := hrun hr
    exact ⟨h1, h2, h3, h4, hnew new hhanded, Nat.zero_le _, by simp⟩

/-- A step is handed over at a line time of a round. -/
theorem LineClock.InRange.hand (h : k.InRange cfg) (t : LineTime) (n : Int) :
    { k with handed := some (timeAdd cfg.roundLength t n) }.InRange cfg := by
  obtain ⟨hlow, hhigh, hpace, hrun⟩ := h
  refine ⟨hlow, hhigh, hpace, fun hr => ?_⟩
  obtain ⟨h1, h2, h3, h4, h5, h6, -⟩ := hrun hr
  refine ⟨h1, h2, h3, h4, h5, h6, fun u hu => ?_⟩
  obtain rfl := Option.some.inj hu
  have hphase := timeAdd_phase (len := cfg.roundLength) (by omega) t n
  have hlt := Int.emod_lt_of_pos ((t.phase : Int) + n) (b := cfg.roundLength) (by omega)
  omega

theorem LineClock.InRange.unhand (h : k.InRange cfg) : { k with handed := none }.InRange cfg := by
  obtain ⟨hlow, hhigh, hpace, hrun⟩ := h
  refine ⟨hlow, hhigh, hpace, fun hr => ?_⟩
  obtain ⟨h1, h2, h3, h4, h5, h6, -⟩ := hrun hr
  exact ⟨h1, h2, h3, h4, h5, h6, by simp⟩

/-- One advance of a running clock keeps the ranges: a close makes the boundary at a phase of at most S, or an overtime of at
most S (R4, R5, R29). -/
theorem singleAdvance_inRange {a : Advance} (h : a.clock.InRange cfg) (hrun : a.clock.running = true) (raw : Int) :
    (singleAdvance cfg.roundLength (clampTo cfg.stepLimit raw) a).clock.InRange cfg := by
  obtain ⟨hlow, hhigh, hpace, hrunning⟩ := h
  obtain ⟨h1, h2, h3, h4, h5, h6, h7⟩ := hrunning hrun
  have hclamp := clampTo_le cfg.stepLimit raw
  have htrim := trimAfter_range cfg.roundLength (clampTo cfg.stepLimit raw) a.clock.trim
  unfold singleAdvance spendOvertime closeRound
  split
  · split
    · exact ⟨hlow, hhigh, hpace, fun _ => ⟨h1, h2, h3, h4, show 0 < cfg.roundLength by omega, Nat.zero_le _, h7⟩⟩
    · exact ⟨hlow, hhigh, hpace, fun _ => ⟨h1, h2, h3, h4, h5, show a.clock.overtime - 1 ≤ cfg.stepLimit by omega, h7⟩⟩
  · split
    · simp only
      split
      · refine ⟨htrim.1, htrim.2, hpace, fun _ => ⟨h1, h2, h3, h4, ?_, h6, h7⟩⟩
        show (clampTo cfg.stepLimit raw).toNat < cfg.roundLength
        omega
      · refine ⟨htrim.1, htrim.2, hpace, fun _ => ⟨h1, h2, h3, h4, h5, ?_, h7⟩⟩
        show (clampTo cfg.stepLimit raw).natAbs ≤ cfg.stepLimit
        omega
    · exact ⟨hlow, hhigh, hpace, fun _ => ⟨h1, h2, h3, h4, show a.clock.now.phase + 1 < cfg.roundLength by omega, h6, h7⟩⟩

theorem singleAdvance_running (len : Nat) (c : Int) (a : Advance) :
    (singleAdvance len c a).clock.running = a.clock.running := by
  unfold singleAdvance spendOvertime closeRound
  simp only
  split_ifs <;> rfl

@[simp] theorem LineClock.stepped_running (k : LineClock) : k.stepped.running = k.running := by
  cases h : k.handed <;> simp [h]

@[simp] theorem LineClock.period_running (len : Nat) (c : Int) (k : LineClock) :
    (k.period len c).clock.running = k.running := by
  unfold LineClock.period
  simp only
  split <;> simp only [singleAdvance_running]

theorem LineClock.InRange.period (h : k.InRange cfg) (hrun : k.running = true) (raw : Int) :
    (k.period cfg.roundLength (clampTo cfg.stepLimit raw)).clock.InRange cfg := by
  obtain ⟨hlow, hhigh, hpace, hrunning⟩ := h
  have hstart : { k with pace := (paceStep k.trim k.pace).1 }.InRange cfg :=
    ⟨hlow, hhigh, paceStep_lt hlow hhigh hpace, hrunning⟩
  unfold LineClock.period
  simp only
  split
  · exact hstart
  · exact singleAdvance_inRange hstart hrun raw
  · refine singleAdvance_inRange (singleAdvance_inRange hstart hrun raw) ?_ raw
    rw [singleAdvance_running]
    exact hrun

end Ranges

namespace State

theorem clockInRange_of_same {s t : State} (hclock : t.clock = s.clock) (hconfig : t.config = s.config) (hs : ClockInRange s) :
    ClockInRange t := by
  rw [clockInRange_iff, hclock, hconfig]
  exact hs

theorem clockInRange_of_frame {s t : State} {ps : List Part} (h : Frame ps s t) (hs : ClockInRange s)
    (hps : ∀ p ∈ [Part.clock, .config], p ∉ ps := by decide) : ClockInRange t :=
  clockInRange_of_same (h.same .clock (hps _ (by decide))) (h.same .config (hps _ (by decide))) hs

@[simp] theorem advances_running (s : State) : s.advances.clock.running = s.clock.running := by
  unfold advances
  split <;> simp

theorem advances_inRange {s : State} (hs : ClockInRange s) : s.advances.clock.InRange s.config := by
  have hstepped : s.clock.stepped.InRange s.config := LineClock.InRange.stepped hs
  unfold advances
  split
  next hrun =>
    refine hstepped.period ?_ _
    rw [LineClock.stepped_running, hrun]
  next => exact hstepped

theorem clockPeriod_inRange {s : State} (hs : ClockInRange s) (lookFirst : Bool) : ClockInRange (s.clockPeriod lookFirst) := by
  have hconfig : (s.clockPeriod lookFirst).config = s.config := (clockPeriod_frame lookFirst s).same .config
  rw [clockInRange_iff, clockPeriod_clock, hconfig]
  exact advances_inRange hs

theorem plainClockPeriod_inRange {s : State} (hs : ClockInRange s) : ClockInRange s.plainClockPeriod := by
  have hconfig : s.plainClockPeriod.config = s.config := (plainClockPeriod_frame s).same .config
  have hbefore : s.advancesBefore.clock.InRange s.config :=
    advances_inRange (s := s.setClock { s.clock with handed := none }) (LineClock.InRange.unhand hs)
  rw [clockInRange_iff, hconfig]
  rcases plainClockPeriod_clock s with h | h
  · rw [h]
    exact advances_inRange hs
  · rw [h]
    refine LineClock.InRange.stepped ?_
    obtain ⟨hlow, hhigh, hpace, hrun⟩ := hbefore
    refine ⟨hlow, hhigh, hpace, fun hr => ?_⟩
    obtain ⟨h1, h2, h3, h4, h5, h6, -⟩ := hrun hr
    refine ⟨h1, h2, h3, h4, h5, h6, ?_⟩
    have hrunning : s.clock.running = true := (advances_running (s.setClock { s.clock with handed := none })).symm.trans hr
    obtain ⟨-, -, -, -, -, -, hhanded⟩ := hs.2.2.2 hrunning
    exact hhanded

theorem markLate_reportAt_inRange {s : State} (t : LineTime) (u : State) (hs : ClockInRange s) :
    ClockInRange ((s.reportAt t).markLate u) :=
  clockInRange_of_frame (markLate_frame _ _) (clockInRange_of_frame (reportAt_frame _ _) hs)

theorem endPeriod_inRange {s : State} (hs : ClockInRange s) : ClockInRange s.endPeriod := by
  unfold endPeriod
  split
  · exact hs
  · exact markLate_reportAt_inRange _ _ (plainClockPeriod_inRange
      (clockInRange_of_frame (countPeriod_frame _) (clockInRange_of_frame (takeDue_frame s) hs)))

theorem endPeriodNamed_inRange {s : State} (hs : ClockInRange s) : ClockInRange s.endPeriodNamed :=
  markLate_reportAt_inRange _ _ (clockPeriod_inRange
    (clockInRange_of_frame (countPeriod_frame _) (clockInRange_of_frame (takeDue_frame s) hs)) false)

theorem endPeriodClockFirst_inRange {s : State} (lookFirst : Bool) (hs : ClockInRange s) :
    ClockInRange (s.endPeriodClockFirst lookFirst) := by
  have hends : ClockInRange s.sampleInputs.takeLooks.takeEnds :=
    clockInRange_of_frame (takeEnds_frame _) (clockInRange_of_frame (takeLooks_frame _)
      (clockInRange_of_frame (sampleInputs_frame s) hs))
  refine markLate_reportAt_inRange _ _ (clockInRange_of_frame (countPeriod_frame _)
    (clockInRange_of_same (clockThenStarts_clock _ _) ?_ (clockPeriod_inRange hends lookFirst)))
  have h1 : (clockThenStarts lookFirst s.sampleInputs.takeLooks.takeEnds).config = s.sampleInputs.takeLooks.takeEnds.config :=
    (clockThenStarts_frame _ _).same .config
  have h2 : (clockPeriod lookFirst s.sampleInputs.takeLooks.takeEnds).config = s.sampleInputs.takeLooks.takeEnds.config :=
    (clockPeriod_frame _ _).same .config
  rw [h1, h2]

/-! ### The end of a handling -/

/-- What the end of a handling makes of the clock: nothing, a step handed over, or one made at once where the handling may be late. -/
def ClockTakesStep (s t : State) : Prop :=
  t.clock = s.clock ∨ ∃ (base : LineTime) (offset : Int),
    t.clock = { s.clock with handed := some (timeAdd s.len base offset) } ∨
      s.lateHandling = true ∧ t.clock = { s.clock with handed := some (timeAdd s.len base offset) }.stepped

theorem takeTimeFrame_clock (s : State) (sender : StationId) (state : AgreementState) (founder : StationId)
    (sent stamp : LineTime) (noted : Byte) : ClockTakesStep s (s.takeTimeFrame sender state founder sent stamp noted) := by
  unfold takeTimeFrame
  simp only
  split
  · exact .inl rfl
  split
  · split
    · exact .inl rfl
    · exact .inr ⟨_, _, adopt_clock _ _ _⟩
  · exact .inl rfl

theorem handOver_clock (s : State) (f : ReceivedFrame) : ClockTakesStep s (s.handOver f) := by
  unfold handOver
  split
  · split
    · exact .inl rfl
    · exact takeTimeFrame_clock s _ _ _ _ _ _
  · exact .inl ((takeEventFrame_frame s _ _).same .clock)
  · exact .inl ((takeArmFrame_frame s _ _).same .clock)
  · exact .inl ((takeCancelFrame_frame s _ _).same .clock)

theorem endHandling_clock (s : State) : ClockTakesStep s s.endHandling := by
  have freed : ∀ (u : State) (f : Framer), (u.setFramer f).takeBuffer.clock = u.clock := fun u f =>
    (takeBuffer_frame (u.setFramer f)).same .clock
  unfold endHandling
  simp only
  split
  · split
    · unfold ClockTakesStep
      rw [freed]
      exact handOver_clock s _
    · unfold ClockTakesStep
      rw [freed]
      exact handOver_clock s _
    · exact .inl rfl
  · exact .inl rfl

theorem endHandling_inRange {s : State} (hs : ClockInRange s) : ClockInRange s.endHandling := by
  have hconfig : s.endHandling.config = s.config := (endHandling_frame s).same .config
  rw [clockInRange_iff, hconfig]
  rcases endHandling_clock s with h | ⟨base, offset, h | ⟨-, h⟩⟩
  · rw [h]
    exact hs
  · rw [h]
    exact LineClock.InRange.hand hs base offset
  · rw [h]
    exact (LineClock.InRange.hand hs base offset).stepped

/-! ### Resets and the load -/

theorem reset_inRange (cfg : StationConfig) : LineClock.reset.InRange cfg := by
  refine ⟨by decide, by decide, by decide, fun h => ?_⟩
  simp [LineClock.reset] at h

theorem scsRise_inRange {s : State} (hs : ClockInRange s) : ClockInRange s.scsRise := by
  have habort : s.abortRead.clock = s.clock ∧ s.abortRead.config = s.config := by
    unfold abortRead
    split <;> exact ⟨rfl, rfl⟩
  unfold scsRise
  simp only
  split
  · exact hs
  split
  · exact reset_inRange _
  · split
    · exact clockInRange_of_same (s := s) habort.1 habort.2 hs
    · exact hs

/-- A good load starts the clock from 0:0. -/
theorem loadGood_reading (s : State) (c : StationConfig) :
    (s.loadGood c).clock = { LineClock.reset with running := true } ∧ (s.loadGood c).config = c ∧
      (s.loadGood c).lateHandling = s.lateHandling := by
  have listening : ∀ u : State, SameReading u u.enterListening.sampleInputs := fun u =>
    (SameReading.of_frame ((setAgreement_frame u _).mono.trans (enterAgreement_frame _ .listening))).trans
      (.of_frame (sampleInputs_frame _))
  exact listening ((s.setLoader ⟨.loaded, .none, 0, .none, s.loader.bus⟩).setConfig c).startClock.safeOutputs.startLine

theorem bodyDone_inRange {s : State} (body : List Byte) (hs : ClockInRange s) : ClockInRange (s.bodyDone body) := by
  unfold bodyDone
  simp only
  split
  · split
    · split
      next hfault =>
        obtain ⟨hclock, hconfig, -⟩ := loadGood_reading (s.endRead _) _
        have hvalid := stationValuesValid_of_imageFault hfault
        rw [clockInRange_iff, hclock, hconfig]
        simp only [stationValuesValid, Bool.and_eq_true, decide_eq_true_eq] at hvalid
        refine ⟨by decide, by decide, by decide, fun _ => ?_⟩
        simp only [LineClock.reset, LineTime.zero, reduceCtorEq, false_implies, implies_true, and_true]
        omega
      next => exact hs
    · exact hs
  · exact hs

/-! ### Every command -/

theorem exec_inRange (c : Instr) (s t : State) (hs : ClockInRange s) (h : exec c s = .next t) : ClockInRange t := by
  by_cases hc : ChangesReading c
  case neg =>
    obtain ⟨u, hexec, ⟨x, hclock⟩, hconfig, -⟩ := exec_readingStands c s hc
    obtain rfl : u = t := by simpa [hexec] using h
    rw [clockInRange_iff, hclock, hconfig]
    exact hs
  have gate : ∀ f : State → State, (∀ u, ClockInRange u → ClockInRange (f u)) → ClockInRange (s.unlessHeld f) := by
    intro f hf
    unfold unlessHeld whileReleased
    split
    · exact hs
    · exact hf _ hs
  have named : ∀ due : State → Bool, ClockInRange (s.unlessHeld fun u => if due u then u.endPeriodNamed else u) := by
    refine fun due => gate _ fun u hu => ?_
    split
    · exact endPeriodNamed_inRange hu
    · exact hu
  have clockFirst : ∀ (due : State → Bool) (lookFirst : Bool),
      ClockInRange (s.unlessHeld fun u => if due u then u.endPeriodClockFirst lookFirst else u) := by
    refine fun due lookFirst => gate _ fun u hu => ?_
    split
    · exact endPeriodClockFirst_inRange lookFirst hu
    · exact hu
  rcases hc with (hends | ⟨peer, rfl | rfl | rfl⟩) | rfl | rfl | ⟨bytes, rfl⟩ | rfl | rfl
  case inl.inl =>
    simp only [List.mem_cons, List.not_mem_nil, or_false] at hends
    rcases hends with rfl | rfl | rfl | rfl | rfl | rfl | rfl | rfl | rfl | rfl <;> obtain rfl := Host.Outcome.next.inj h
    · exact gate _ fun u hu => endPeriod_inRange hu
    · exact clockFirst _ true
    · exact clockFirst _ false
    · exact named _
    · exact named _
    · exact named _
    · exact named _
    · exact clockFirst _ false
    · exact clockFirst _ false
    · exact clockFirst _ false
  all_goals obtain rfl := Host.Outcome.next.inj h
  · exact named fun u => u.barringDue peer
  · exact named fun u => u.silenceDue peer
  · exact named fun u => u.barredEndDue peer
  · exact reset_inRange _
  · exact gate _ fun u hu => scsRise_inRange hu
  · exact gate _ fun u hu => bodyDone_inRange bytes hu
  · unfold whileReleased
    split
    · exact hs
    · exact clockInRange_of_same (s := s.endHandling) rfl rfl (endHandling_inRange hs)
  · unfold releaseReset
    split <;> exact hs

end State

/-- Settles O58: the commands that move the clock keep its ranges, and every other command leaves the reading. -/
theorem everyStepKeepsTheClockInRange : Obligations.EveryStepKeepsTheClockInRange := by
  intro s t hs hstep
  rcases State.step_eq s with ⟨-, h⟩ | ⟨c, rest, -, h⟩
  · obtain rfl : s = t := by simpa [h] using hstep
    exact hs
  · exact State.exec_inRange c (s.setPending rest) t hs (h ▸ hstep)

end Sys2Proof.Machine

/-! Symbols, silence and reception (7.1, 7.3 to 7.5): what a recognised symbol, a start bit and quiet make of the Framer. -/

namespace Sys2Proof.Machine

set_option Elab.async false

open Safety

namespace State

/-! ### Commands on a station that is not held -/

/-- A command of a released station is taken in the period now running. -/
theorem next_unlessHeld {s : State} (h : s.resetHeld = false) (f : State → State) :
    (Host.Outcome.next (s.unlessHeld f) : Host.Outcome State Fault Refusal) = .next (f (inPeriod s)) :=
  congrArg Host.Outcome.next (unlessHeld_of_released h f)

/-- Counting raises the counter unless the station sends (R128, R135). -/
theorem count_eq_counted (s : State) (c : Counter) :
    s.count c = s.setFramer { s.framer with counters := counted s c.index } := by
  by_cases h : NotTransmitting s
  · have hnot : ¬(s.access.tx = .sending ∨ s.access.tx = .quashing) := not_or.2 h
    rw [count_of_notTransmitting h, counted, if_neg hnot]
  · have hsends : s.access.tx = .sending ∨ s.access.tx = .quashing := by
      simpa only [NotTransmitting, not_and_or, not_not] using h
    rw [count_of_transmitting h, counted, if_pos hsends]
    rfl

theorem transmitting_iff (s : State) : s.transmitting = true ↔ ¬NotTransmitting s := by
  simp [transmitting, NotTransmitting, imp_iff_not_or]

/-! ### The start of a symbol and the silence -/

theorem endSymbol_of_none {s : State} (h : s.framer.symbol = .none) : s.endSymbol = s := by
  simp [endSymbol, h]

theorem beginSymbol_of_none {s : State} (hreceiver : s.framer.receiver ≠ .off) (h : s.framer.symbol = .none) :
    s.beginSymbol = s.setSymbol (.begun s.now s.notedCount 0) := by
  simp [beginSymbol, hreceiver, endSymbol_of_none h, h]

theorem dropGlitch_of_begun {s : State} {noted : LineTime} {adjust : Byte} (h : s.framer.symbol = .begun noted adjust 2) :
    s.dropGlitch = s.setSymbol .none := by
  simp [dropGlitch, h]

theorem confirmSymbol_of_begun {s : State} {noted : LineTime} {adjust : Byte} (h : s.framer.symbol = .begun noted adjust 2) :
    s.confirmSymbol = ((s.setFramer { s.framer with
      symbol := .confirmed 2, startCount := some adjust, silence := 0, quietFound := false }).setClock
        { s.clock with startBit := some noted }).monitorBusy := by
  simp [confirmSymbol, h]

theorem quietDue_of_silence {s : State} (hreceiver : s.framer.receiver ≠ .off) (hsilence : s.framer.silence = 40)
    (hfound : s.framer.quietFound = false) (hsymbol : s.framer.symbol = .none) : s.quietDue = true := by
  simp [quietDue, hreceiver, hsilence, hfound, hsymbol]

/-! ### What each symbol does in each state of the receiver -/

section Symbols

variable {s : State}

/-- A frame is begun with the kept start-bit time and count, and a check register of ones (R121, R124). -/
theorem beginTaking_of_kept {begun : LineTime} {adjust : Byte} (hstamp : s.clock.startBit = some begun)
    (hcount : s.framer.startCount = some adjust) :
    s.beginTaking = s.setFramer { s.framer with receiver := .taking ⟨begun, adjust, [], 0xFFFF⟩ } := by
  simp [beginTaking, setReceiver, hstamp, hcount, checkStart]

theorem takeOpen_waitOpen (h : s.framer.receiver = .waitOpen) : s.takeOpen = s.beginTaking := by simp [takeOpen, h]

theorem takeData_waitOpen (h : s.framer.receiver = .waitOpen) (b : Byte) :
    s.takeData b = (s.count .stray).setReceiver .skipping := by simp [takeData, h]

theorem takeQuash_waitOpen (h : s.framer.receiver = .waitOpen) : s.takeQuash = s.count .stray := by simp [takeQuash, h]

theorem takeShut_waitOpen (h : s.framer.receiver = .waitOpen) : s.takeShut = s.count .stray := by simp [takeShut, h]

theorem takeInvalid_waitOpen (h : s.framer.receiver = .waitOpen) :
    s.takeInvalid = (s.count .symbol).setReceiver .skipping := by simp [takeInvalid, h]

theorem take_skipping (h : s.framer.receiver = .skipping) :
    s.takeOpen = s ∧ (∀ b, s.takeData b = s) ∧ s.takeQuash = s ∧ s.takeShut = s ∧ s.takeInvalid = s := by
  simp [takeOpen, takeData, takeQuash, takeShut, takeInvalid, h]

theorem takeOpen_taking {f : Taking} (h : s.framer.receiver = .taking f) : s.takeOpen = (s.count .broken).beginTaking := by
  simp [takeOpen, h]

theorem takeData_taking {f : Taking} (h : s.framer.receiver = .taking f) (b : Byte) :
    s.takeData b = if f.bytes.length < 53 then
      s.setReceiver (.taking { f with bytes := f.bytes ++ [b], check := checkByte f.check b })
    else (s.count .long).setReceiver .skipping := by
  simp [takeData, h]

theorem takeQuash_taking {f : Taking} (h : s.framer.receiver = .taking f) :
    s.takeQuash = (s.count .quashed).setReceiver .skipping := by simp [takeQuash, h]

theorem takeInvalid_taking {f : Taking} (h : s.framer.receiver = .taking f) :
    s.takeInvalid = (s.count .symbol).setReceiver .skipping := by simp [takeInvalid, h]

theorem takeShut_fault {f : Taking} {c : Counter} (h : s.framer.receiver = .taking f) (hfault : frameFault f.bytes = some c) :
    s.takeShut = (s.setReceiver .waitOpen).count c := by
  simp [takeShut, h, hfault]

theorem takeShut_good {f : Taking} (h : s.framer.receiver = .taking f) (hfault : frameFault f.bytes = none) :
    s.takeShut = if s.transmitting then s.setReceiver .waitOpen
      else (s.setReceiver .waitOpen).takeGoodFrame (byteAt f.bytes 0) (byteAt f.bytes 1)
        ((f.bytes.drop 3).take (f.bytes.length - 5)) f := by
  simp [takeShut, h, hfault]

end Symbols

/-- A content that is none of the three patterns is taken as an invalid symbol (R118). -/
theorem controlPatterns_of_ne {content : Byte} (h1 : content ≠ 0x96) (h2 : content ≠ 0xA5) (h3 : content ≠ 0xC3) :
    controlPatterns.contains content = false := by
  simpa [controlPatterns] using ⟨h1, h2, h3⟩

theorem exec_receiveInvalidSymbol {s : State} (hr : Recognising s) {content : Byte} (h1 : content ≠ 0x96) (h2 : content ≠ 0xA5)
    (h3 : content ≠ 0xC3) :
    exec (.receiveInvalidSymbol content) s =
      .next (takeInvalid ((inPeriod s).setFramer { s.framer with symbol := .recognised 38 })) := by
  refine (next_unlessHeld hr.1 _).trans (congrArg Host.Outcome.next ?_)
  rw [controlPatterns_of_ne h1 h2 h3]
  exact recognise_of_recognising (s := inPeriod s) hr _

/-- A recognised symbol is taken with the symbol on LRX marked as recognised. -/
theorem next_recognise {s : State} (hr : Recognising s) (take : State → State) :
    (Host.Outcome.next (s.unlessHeld fun u => u.recognise take) : Host.Outcome State Fault Refusal) =
      .next (take ((inPeriod s).setFramer { s.framer with symbol := .recognised 38 })) :=
  (next_unlessHeld hr.1 _).trans (congrArg Host.Outcome.next (recognise_of_recognising (s := inPeriod s) hr take))

end State

open State

/-- Settles O33. -/
theorem startBitDecidesTheSymbol : Obligations.StartBitDecidesTheSymbol := by
  intro s hheld
  refine ⟨?_, fun noted adjust hbegun => ⟨?_, ?_⟩⟩
  · rintro count hreceiver hnone rfl
    exact (next_unlessHeld hheld _).trans (congrArg _ (beginSymbol_of_none (s := inPeriod s) hreceiver hnone))
  · exact (next_unlessHeld hheld _).trans (congrArg _ (dropGlitch_of_begun (s := inPeriod s) hbegun))
  · exact (next_unlessHeld hheld _).trans (congrArg _ (confirmSymbol_of_begun (s := inPeriod s) hbegun))

/-- Settles O34. -/
theorem silenceLeadsToTheWindow : Obligations.SilenceLeadsToTheWindow := by
  intro s hheld
  refine ⟨fun hended hbusy => ?_, fun hsilence hfound hnone => ⟨fun hreceiver => ?_, fun f hreceiver => ?_⟩, fun hgap hcount => ?_⟩
  · refine (next_unlessHeld hheld _).trans (congrArg _ ?_)
    simp [endSymbol, hended, hbusy]
  · have hdue : (inPeriod s).quietDue = true := quietDue_of_silence (by simp [hreceiver]) hsilence hfound hnone
    refine (next_unlessHeld hheld _).trans (congrArg _ ?_)
    simp [takeQuiet, hdue, hreceiver]
  · have hdue : (inPeriod s).quietDue = true := quietDue_of_silence (by simp [hreceiver]) hsilence hfound hnone
    refine (next_unlessHeld hheld _).trans (congrArg _ ?_)
    simp only [takeQuiet, hdue, if_true, setLateHandling_framer, hreceiver, count_eq_counted]
    rfl
  · refine (next_unlessHeld hheld _).trans (congrArg _ ?_)
    simp [completeGap, hgap, hcount]

/-- Settles O35. -/
theorem waitOpenAndSkippingTakeEachSymbol : Obligations.WaitOpenAndSkippingTakeEachSymbol := by
  refine ⟨fun s begun adjust hr hwait hstamp hcount => ?_, fun s hr hskip c hc => ?_, fun s hheld hskip hsilence hfound hnone => ?_⟩
  · have hwait' : ((inPeriod s).setFramer { s.framer with symbol := .recognised 38 }).framer.receiver = .waitOpen := hwait
    refine ⟨?_, fun b => ?_, ?_, ?_, fun content h1 h2 h3 => ?_⟩
    · refine (next_recognise hr _).trans (congrArg _ ?_)
      rw [takeOpen_waitOpen hwait']
      exact beginTaking_of_kept (s := (inPeriod s).setFramer { s.framer with symbol := .recognised 38 }) hstamp hcount
    · refine (next_recognise hr _).trans (congrArg _ ?_)
      rw [takeData_waitOpen hwait', count_eq_counted]
      rfl
    · refine (next_recognise hr _).trans (congrArg _ ?_)
      rw [takeShut_waitOpen hwait', count_eq_counted]
      rfl
    · refine (next_recognise hr _).trans (congrArg _ ?_)
      rw [takeQuash_waitOpen hwait', count_eq_counted]
      rfl
    · refine (exec_receiveInvalidSymbol hr h1 h2 h3).trans (congrArg _ ?_)
      rw [takeInvalid_waitOpen hwait', count_eq_counted]
      rfl
  · obtain ⟨hopen, hdata, hquash, hshut, hinvalid⟩ :=
      take_skipping (s := (inPeriod s).setFramer { s.framer with symbol := .recognised 38 }) hskip
    rcases hc with rfl | ⟨b, rfl⟩ | rfl | rfl | ⟨content, h1, h2, h3, rfl⟩
    · exact (next_recognise hr _).trans (congrArg _ hopen)
    · exact (next_recognise hr _).trans (congrArg _ (hdata b))
    · exact (next_recognise hr _).trans (congrArg _ hquash)
    · exact (next_recognise hr _).trans (congrArg _ hshut)
    · exact (exec_receiveInvalidSymbol hr h1 h2 h3).trans (congrArg _ hinvalid)
  · have hdue : (inPeriod s).quietDue = true := quietDue_of_silence (by simp [hskip]) hsilence hfound hnone
    refine (next_unlessHeld hheld _).trans (congrArg _ ?_)
    simp only [takeQuiet, hdue, if_true, setLateHandling_framer, hskip]
    rfl

/-- Settles O36. -/
theorem takingTakesEachSymbol : Obligations.TakingTakesEachSymbol := by
  intro s f begun adjust hr htaking hstamp hcount
  have htaking' : ((inPeriod s).setFramer { s.framer with symbol := .recognised 38 }).framer.receiver = .taking f := htaking
  refine ⟨fun b hroom => ?_, fun b hfull => ?_, ?_, ?_, fun content h1 h2 h3 => ?_⟩
  · refine (next_recognise hr _).trans (congrArg _ ?_)
    rw [takeData_taking htaking', if_pos (by omega)]
    rfl
  · refine (next_recognise hr _).trans (congrArg _ ?_)
    rw [takeData_taking htaking', if_neg (by omega), count_eq_counted]
    rfl
  · refine (next_recognise hr _).trans (congrArg _ ?_)
    rw [takeOpen_taking htaking', count_eq_counted]
    exact beginTaking_of_kept (s := ((inPeriod s).setFramer { s.framer with symbol := .recognised 38 }).setFramer _) hstamp hcount
  · refine (next_recognise hr _).trans (congrArg _ ?_)
    rw [takeQuash_taking htaking', count_eq_counted]
    rfl
  · refine (exec_receiveInvalidSymbol hr h1 h2 h3).trans (congrArg _ ?_)
    rw [takeInvalid_taking htaking', count_eq_counted]
    rfl

namespace State

/-! ### The tests of a frame (R126) and what a good frame comes to (R129 to R133) -/

theorem validStationId_eq_false {id : StationId} (h : id.toNat = 0 ∨ 24 < id.toNat) : validStationId id = false := by
  simp only [validStationId, Bool.and_eq_false_iff, decide_eq_false_iff_not]
  omega

section Faults

variable {bs : List Byte}

theorem frameFault_short (h : bs.length < 5) : frameFault bs = some .short := if_pos h

theorem frameFault_length (h : 5 ≤ bs.length) (hlen : bs.length ≠ (byteAt bs 2).toNat + 5) :
    frameFault bs = some .length := by
  simp [frameFault, Nat.not_lt.2 h, hlen]

theorem frameFault_check (h : 5 ≤ bs.length) (hlen : bs.length = (byteAt bs 2).toNat + 5)
    (hcheck : checkBytes (checkOf (bs.take (bs.length - 2))) ≠ bs.drop (bs.length - 2)) : frameFault bs = some .check := by
  unfold frameFault
  rw [if_neg (Nat.not_lt.2 h), if_neg (not_not.2 hlen), if_pos hcheck]

theorem frameFault_sender (h : 5 ≤ bs.length) (hlen : bs.length = (byteAt bs 2).toNat + 5)
    (hcheck : checkBytes (checkOf (bs.take (bs.length - 2))) = bs.drop (bs.length - 2))
    (hid : validStationId (byteAt bs 1) = false) : frameFault bs = some .sender := by
  unfold frameFault
  rw [if_neg (Nat.not_lt.2 h), if_neg (not_not.2 hlen), if_neg (not_not.2 hcheck), if_pos (by simp [hid])]

theorem frameFault_none (h : 5 ≤ bs.length) (hlen : bs.length = (byteAt bs 2).toNat + 5)
    (hcheck : checkBytes (checkOf (bs.take (bs.length - 2))) = bs.drop (bs.length - 2))
    (hid : validStationId (byteAt bs 1) = true) : frameFault bs = none := by
  unfold frameFault
  rw [if_neg (Nat.not_lt.2 h), if_neg (not_not.2 hlen), if_neg (not_not.2 hcheck), if_neg (by simp [hid])]

end Faults

theorem length_checkBytes (r : BitVec 16) : (checkBytes r).length = 2 := rfl

/-- The bytes of a frame of this kind byte, sender and body pass the four tests, and give these back (R120, R121, R126). -/
theorem frameOf_spec {bytes : List Byte} {kindByte : Byte} {sender : StationId} {body : List Byte}
    (h : FrameOf bytes kindByte sender body) (hbody : body.length ≤ 48) (hlow : 1 ≤ sender.toNat) (hhigh : sender.toNat ≤ 24) :
    frameFault bytes = none ∧ byteAt bytes 0 = kindByte ∧ byteAt bytes 1 = sender ∧
      (bytes.drop 3).take (bytes.length - 5) = body := by
  have hlength : bytes.length = body.length + 5 := by
    rw [h, List.length_append, length_checkBytes]
    simp
  have hcovered : bytes.length - 2 = (kindByte :: sender :: BitVec.ofNat 8 body.length :: body).length := by
    rw [hlength]
    simp
  have hcount : (byteAt bytes 2).toNat = body.length := by
    rw [h]
    simp only [byteAt, List.cons_append, List.getD_cons_succ, List.getD_cons_zero, BitVec.toNat_ofNat]
    omega
  refine ⟨frameFault_none (by omega) (by omega) ?_ ?_, by rw [h]; rfl, by rw [h]; rfl, ?_⟩
  · rw [hcovered, h, List.take_left, List.drop_left]
  · rw [h]
    simpa [byteAt, validStationId] using ⟨hlow, hhigh⟩
  · rw [hlength, h]
    simp

theorem frameKindOf_code (kind : FrameKind) : frameKindOf kind.code = some kind := by
  cases kind <;> rfl

theorem frameKindOf_unknown {b : Byte} (h : b.toNat = 0 ∨ 4 < b.toNat) : frameKindOf b = none := by
  unfold frameKindOf
  split <;> first | omega | rfl

theorem note_eq_noteNow (s : State) (code : NoteCode) (origin : StationId) (detail tag : Byte) :
    s.note code origin detail tag = s.takeRecord (noteNow s code detail origin tag) := rfl

section GoodFrames

variable {s : State} {kindByte : Byte} {sender : StationId} {body : List Byte} {f : Taking}

theorem takeGoodFrame_own (h : sender = s.config.id) :
    s.takeGoodFrame kindByte sender body f =
      ((s.setAccess { s.access with rotation := sender }).count .idClash).ownNote .idClash kindByte 0 := by
  simp [takeGoodFrame, h]

theorem takeGoodFrame_unknown (h : sender ≠ s.config.id) (hkind : frameKindOf kindByte = none) :
    s.takeGoodFrame kindByte sender body f = (s.setAccess { s.access with rotation := sender }).count .kind := by
  simp [takeGoodFrame, h, hkind]

theorem takeGoodFrame_known {kind : FrameKind} (h : sender ≠ s.config.id) (hkind : frameKindOf kindByte = some kind) :
    s.takeGoodFrame kindByte sender body f =
      if bodyWellFormed kind body then
        (s.setAccess { s.access with rotation := sender }).placeFrame ⟨kind, sender, body, f.stamp, f.adjust⟩
      else (s.setAccess { s.access with rotation := sender }).count .malformed := by
  simp [takeGoodFrame, h, hkind]

end GoodFrames

section Buffers

variable {s : State} (f : ReceivedFrame)

/-- Where both buffers are FREE the idle handler takes the frame from buffer A (log 12). -/
theorem placeFrame_free (hA : s.framer.bufferA = .free) (hB : s.framer.bufferB = .free) :
    s.placeFrame f = s.setFramer { s.framer with bufferA := .handling f, aFirst := true, ripe := false } := by
  simp only [placeFrame, hA, hB, takeBuffer, setFramer_framer]
  rfl

theorem placeFrame_beside_B {g : ReceivedFrame} (hA : s.framer.bufferA = .free) (hB : s.framer.bufferB = .handling g) :
    s.placeFrame f = s.setFramer { s.framer with bufferA := .full f, aFirst := true } := by
  simp only [placeFrame, hA, hB, takeBuffer, setFramer_framer]

theorem placeFrame_beside_A {g : ReceivedFrame} (hA : s.framer.bufferA = .handling g) (hB : s.framer.bufferB = .free) :
    s.placeFrame f = s.setFramer { s.framer with bufferB := .full f, aFirst := false } := by
  simp only [placeFrame, hA, hB, takeBuffer, setFramer_framer]

theorem placeFrame_overrun (hA : s.framer.bufferA ≠ .free) (hB : s.framer.bufferB ≠ .free) :
    s.placeFrame f = s.count .overrun := by
  cases hbA : s.framer.bufferA with
  | free => exact absurd hbA hA
  | full | handling =>
    cases hbB : s.framer.bufferB with
    | free => exact absurd hbB hB
    | full | handling => simp only [placeFrame, hbA, hbB]

end Buffers

end State

/-- Settles O37. -/
theorem shutTestsTheFrameInOrder : Obligations.ShutTestsTheFrameInOrder := by
  intro s f counter hr htaking htests
  have htaking' : ((inPeriod s).setFramer { s.framer with symbol := .recognised 38 }).framer.receiver = .taking f := htaking
  have fails : ∀ c : Counter, frameFault f.bytes = some c → exec .receiveShut s = .next ((inPeriod s).setFramer
      { s.framer with symbol := .recognised 38, receiver := .waitOpen, counters := counted s c.index }) := by
    intro c hc
    refine (next_recognise hr _).trans (congrArg _ ?_)
    rw [takeShut_fault htaking' hc, count_eq_counted]
    rfl
  rcases htests with ⟨h, rfl⟩ | ⟨h, hlen, rfl⟩ | ⟨h, hlen, hcheck, rfl⟩ | ⟨h, hlen, hcheck, hid, rfl⟩
  · exact fails .short (frameFault_short h)
  · exact fails .length (frameFault_length h hlen)
  · exact fails .check (frameFault_check h hlen hcheck)
  · exact fails .sender (frameFault_sender h hlen hcheck (validStationId_eq_false hid))

/-- Settles O38. -/
theorem goodFrameReachesTheHandler : Obligations.GoodFrameReachesTheHandler := by
  intro s u f kindByte sender body hr htaking hframe hbody hlow hhigh hu
  let v := (inPeriod s).setFramer { s.framer with symbol := .recognised 38 }
  have htaking' : v.framer.receiver = .taking f := htaking
  obtain ⟨hgood, hkindByte, hsender, hbytes⟩ := frameOf_spec hframe hbody hlow hhigh
  have shut : exec .receiveShut s = .next (takeShut v) := next_recognise hr _
  rw [takeShut_good htaking' hgood, hkindByte, hsender, hbytes] at shut
  refine ⟨fun hquiet => ?_, fun hsends => by rwa [if_pos ((transmitting_iff v).2 hsends)] at shut⟩
  rw [if_neg fun h => (transmitting_iff v).1 h hquiet] at shut
  have hrotated : (v.setReceiver .waitOpen).setAccess { (v.setReceiver .waitOpen).access with rotation := sender } = u := hu.symm
  have counts : ∀ c : Counter, u.count c =
      u.setFramer { u.framer with counters := s.framer.counters.set c.index.val (raised s.framer.counters[c.index]) } := by
    intro c
    rw [hu]
    exact count_of_notTransmitting (s := ((inPeriod s).setAccess { s.access with rotation := sender }).setFramer
      { s.framer with symbol := .recognised 38, receiver := .waitOpen }) hquiet c
  refine ⟨fun hown => ?_, fun hother hunknown => ?_, fun kind hother hkind => ?_⟩
  · rw [takeGoodFrame_own (s := v.setReceiver .waitOpen) hown, hrotated, counts .idClash] at shut
    refine shut.trans ?_
    rw [hu]
    rfl
  · rw [takeGoodFrame_unknown (s := v.setReceiver .waitOpen) hother (frameKindOf_unknown hunknown), hrotated, counts .kind] at shut
    exact shut
  · rw [takeGoodFrame_known (s := v.setReceiver .waitOpen) hother (hkind ▸ frameKindOf_code kind), hrotated] at shut
    refine ⟨fun hform => ?_, fun hform => ?_⟩
    · rw [if_neg (by simp [hform]), counts .malformed] at shut
      exact shut
    rw [if_pos hform] at shut
    have hA : u.framer.bufferA = s.framer.bufferA := by rw [hu]; rfl
    have hB : u.framer.bufferB = s.framer.bufferB := by rw [hu]; rfl
    rw [← hA, ← hB]
    refine ⟨fun ha hb => ?_, fun g ha hb => ?_, fun g ha hb => ?_, fun ha hb => ?_⟩
    · rw [shut, placeFrame_free _ ha hb]
    · rw [shut, placeFrame_beside_B _ ha hb]
    · rw [shut, placeFrame_beside_A _ ha hb]
    · rw [shut, placeFrame_overrun _ ha hb, counts .overrun]
      rfl

end Sys2Proof.Machine

/-! The machine's steps, the resets, and the commands whose effect is one write: a pulse end, a sample and a readback. -/

namespace Sys2Proof.Machine

set_option Elab.async false

open Safety

/-! ### Whole blocks that a frame leaves -/

section Blocks

variable {ps : List Part} {s t : State}

theorem Frame.tap (h : Frame ps s t) (h1 : Part.transaction ∉ ps := by decide) (h2 : Part.latch ∉ ps := by decide) :
    t.tap = s.tap := by
  have hrest : { t.tap with latch := true, setSinceTake := true } = { s.tap with latch := true, setSinceTake := true } :=
    h.same .transaction h1
  obtain ⟨hlatch, hset⟩ : t.tap.latch = s.tap.latch ∧ t.tap.setSinceTake = s.tap.setSinceTake := h.same .latch h2
  simp only [Tap.mk.injEq] at hrest
  rw [show t.tap = ⟨t.tap.state, t.tap.command, t.tap.params, t.tap.response, t.tap.sdo, t.tap.eventRead, t.tap.restartTaken,
    t.tap.latch, t.tap.setSinceTake⟩ from rfl]
  simp only [hrest, hlatch, hset]

theorem Frame.agreement (h : Frame ps s t) (h1 : Part.agreement ∉ ps := by decide) (h2 : Part.timeFrame ∉ ps := by decide) :
    t.agreement = s.agreement := by
  have hrest : { t.agreement with timeFrame := .idle } = { s.agreement with timeFrame := .idle } := h.same .agreement h1
  have htime : t.agreement.timeFrame = s.agreement.timeFrame := h.same .timeFrame h2
  have hback := congrArg (fun a : Agreement => { a with timeFrame := s.agreement.timeFrame }) hrest
  simp only [← htime] at hback
  exact hback.trans (by rw [htime])

/-- The Agreement Unit but for its own TIME frame. -/
theorem Frame.agreementButTime (h : Frame ps s t) (h1 : Part.agreement ∉ ps := by decide) :
    t.agreement = { s.agreement with timeFrame := t.agreement.timeFrame } := by
  have hrest : { t.agreement with timeFrame := .idle } = { s.agreement with timeFrame := .idle } := h.same .agreement h1
  exact congrArg (fun a : Agreement => { a with timeFrame := t.agreement.timeFrame }) hrest

theorem Frame.arms (h : Frame ps s t) (h1 : Part.outbox ∉ ps := by decide) (h2 : Part.cancels ∉ ps := by decide)
    (h3 : Part.armsInFlight ∉ ps := by decide) (h4 : Part.history ∉ ps := by decide) (h5 : Part.nextId ∉ ps := by decide) :
    t.arms = s.arms := by
  have houtbox : t.arms.outbox = s.arms.outbox := h.same .outbox h1
  have hcancels : t.arms.cancels = s.arms.cancels := h.same .cancels h2
  have hflight : t.arms.inFlight = s.arms.inFlight := h.same .armsInFlight h3
  have hhistory : t.arms.history = s.arms.history := h.same .history h4
  have hnext : t.arms.nextId = s.arms.nextId := h.same .nextId h5
  rw [show t.arms = ⟨t.arms.outbox, t.arms.cancels, t.arms.inFlight, t.arms.history, t.arms.nextId⟩ from rfl, houtbox, hcancels,
    hflight, hhistory, hnext]

theorem Frame.capture (h : Frame ps s t) (h1 : Part.filters ∉ ps := by decide) (h2 : Part.events ∉ ps := by decide)
    (h3 : Part.eventsInFlight ∉ ps := by decide) : t.capture = s.capture := by
  have hfilters : t.capture.filters = s.capture.filters := h.same .filters h1
  have hevents : t.capture.outbox = s.capture.outbox := h.same .events h2
  have hflight : t.capture.inFlight = s.capture.inFlight := h.same .eventsInFlight h3
  rw [show t.capture = ⟨t.capture.filters, t.capture.outbox, t.capture.inFlight⟩ from rfl, hfilters, hevents, hflight]

end Blocks

namespace State

/-! ### The queue and the gate of a held reset -/

/-- No write touches the queue of waiting commands. -/
theorem pending_of_write {ok : Prop} {s t : State} (h : Write ok s t) : t.pending = s.pending := by
  cases h with
  | other h => exact h.same .pending
  | removeArms p => exact (removeArms_frame s p).same .pending
  | createArm tag action source => exact (createArm_frame s tag action source).same .pending
  | _ => rfl

theorem pending_of_writes {ok : Prop} {s t : State} (h : Writes ok s t) : t.pending = s.pending := by
  induction h with
  | refl => rfl
  | tail _ hw ih => exact (pending_of_write hw).trans ih

theorem drivePin_same (s : State) (i : Fin 8) (level : Bool) : (s.drivePin i level).inPins.getLsbD i.val = level := by
  cases level <;> simp [drivePin]

theorem drivePin_other (s : State) {i j : Fin 8} (level : Bool) (h : j ≠ i) :
    (s.drivePin i level).inPins.getLsbD j.val = s.inPins.getLsbD j.val := by
  have hval : j.val ≠ i.val := fun hij => h (Fin.ext hij)
  cases level <;> simp [drivePin, hval]

/-- A station held in full reset takes no command but its release and the levels at its pins (R176). -/
theorem exec_of_held {c : Instr} {s : State} (hheld : s.resetHeld = true) (hfull : c ≠ .fullReset) (hrelease : c ≠ .resetReleased)
    (hinput : ∀ i level, c ≠ .inputChange i level) : exec c s = .next s := by
  cases c
  case fullReset => exact absurd rfl hfull
  case resetReleased => exact absurd rfl hrelease
  case inputChange i level => exact absurd rfl (hinput i level)
  case frameHandlingEnd => exact congrArg Host.Outcome.next (whileReleased_of_held hheld _)
  all_goals exact congrArg Host.Outcome.next (unlessHeld_of_held hheld _)

end State

open State

/-- Settles O1. -/
theorem stepTakesTheFrontCommand : Obligations.StepTakesTheFrontCommand :=
  ⟨fun c rest s hpending => by simp [step, hpending], fun s hpending => by simp [step, hpending]⟩

/-- Settles O2: a command is a chain of writes, and none of them touches the queue. -/
theorem everyCommandCompletesAndKeepsTheQueue : Obligations.EveryCommandCompletesAndKeepsTheQueue := by
  intro c s
  obtain ⟨t, hexec, hwrites⟩ := exec_writes (ok := False) c s (fun h => h.elim)
  exact ⟨t, hexec, pending_of_writes hwrites⟩

/-- Settles O3. -/
theorem heldStationWaitsForItsRelease : Obligations.HeldStationWaitsForItsRelease := by
  refine ⟨fun c s => exec_of_held, fun i level s hheld => ?_, fun s => ⟨fun hheld => ?_, fun hfree => ?_⟩⟩
  · exact ⟨(s.drivePin i level).inPins, congrArg Host.Outcome.next (unlessHeld_of_held (s := s.drivePin i level) hheld _),
      drivePin_same s i level, fun j hj => drivePin_other s level hj⟩
  · exact congrArg Host.Outcome.next (if_pos hheld)
  · exact congrArg Host.Outcome.next (if_neg (by simp [hfree]))

/-- Settles O4: the values are those that `State.reset` gives, block by block. -/
theorem fullResetGivesEveryBlockItsValues : Obligations.FullResetGivesEveryBlockItsValues := by
  intro s
  refine ⟨s.fullReset, rfl, ?_⟩
  and_intros <;> rfl

/-- Settles O5. -/
theorem resetStateIsLegal : Obligations.ResetStateIsLegal := by
  refine ⟨?_, ?_, fun i => ?_, ?_, fun i id => ?_, ?_, ?_, ?_, ?_, ?_, .inr ⟨rfl, rfl⟩⟩
  · refine ⟨?_, ?_, fun i => ?_, ?_, ?_, ?_, fun f h => ?_⟩
    case refine_7 => exact absurd h (by simp [State.reset, Framer.reset])
    all_goals simp [State.reset, Arms.reset, Capture.reset, EventStore.reset]
  · exact ⟨by decide, by decide, by decide, fun h => absurd h (by decide)⟩
  · simp [State.reset, Output.reset]
  · simp [ArmIdsDistinct, State.reset, Arms.reset]
  · simp [State.reset, Arms.reset, Capture.reset, InputFilter.reset]
  · intro e he
    simp [State.reset] at he
  · intro e he
    simp [State.reset] at he
  · intro e he
    simp [State.reset] at he
  · intro e he
    simp [State.reset] at he
  · intro f hf
    simp [State.reset, Framer.reset] at hf

/-! ### The pulse end -/

theorem Output.endPulse_of_reached {len : Nat} {now pulseEnd : LineTime} {o : Output} (h : o.pulseEnd = some pulseEnd)
    (hreached : earlier len now pulseEnd = false) : o.endPulse len now = { o with level := false, pulseEnd := none } := by
  simp [Output.endPulse, h, reached, hreached]

theorem Output.endPulse_of_earlier {len : Nat} {now pulseEnd : LineTime} {o : Output} (h : o.pulseEnd = some pulseEnd)
    (hearlier : earlier len now pulseEnd = true) : o.endPulse len now = o := by
  simp [Output.endPulse, h, reached, hearlier]

theorem Output.endPulse_of_none {len : Nat} {now : LineTime} {o : Output} (h : o.pulseEnd = none) : o.endPulse len now = o := by
  simp [Output.endPulse, h]

/-- Settles O27. -/
theorem pulseEndTurnsTheOutputOff : Obligations.PulseEndTurnsTheOutputOff := by
  intro s i pulseEnd hheld hpulse
  refine ⟨fun hreached => (next_unlessHeld hheld _).trans ?_, fun hearlier => (next_unlessHeld hheld _).trans ?_⟩
  · exact congrArg (fun o => Host.Outcome.next ((inPeriod s).setOutputs (s.outputs.set i.val o)))
      (Output.endPulse_of_reached hpulse hreached)
  · have hsame : s.outputs.set i.val ((s.outputs[i]).endPulse s.len s.clock.now) = s.outputs := by
      rw [Output.endPulse_of_earlier hpulse hearlier]
      exact Vector.set_getElem_self i.isLt
    exact congrArg (fun os => Host.Outcome.next ((inPeriod s).setOutputs os)) hsame

/-! ### Samples of the inputs -/

/-- The first sample of an input gives it its stable level (R90). -/
theorem InputFilter.sample_first {f : InputFilter} {level : Bool} (now : LineTime) (h : f.stable = none) :
    f.sample level now = { f with stable := some level, condition := .stable } := by
  simp [InputFilter.sample, h]

section Sample

variable {f : InputFilter} {stable : Bool} (now : LineTime)

theorem InputFilter.sample_at_stable (h : f.stable = some stable) :
    f.sample stable now = { f with condition := .stable } := by
  obtain ⟨st, cond, out⟩ := f
  subst h
  cases cond <;> simp [InputFilter.sample]

theorem InputFilter.sample_new_level {level : Bool} (h : f.stable = some stable) (hlevel : level ≠ stable)
    (hcond : f.condition = .stable) :
    f.sample level now = { f with condition := .pending (if level then .rise else .fall) now 0 false } := by
  simp [InputFilter.sample, h, hcond, hlevel]

theorem InputFilter.sample_held_level {level : Bool} {edge : Edge} {stamp : LineTime} {hold : Nat} {stepped : Bool}
    (h : f.stable = some stable) (hlevel : level ≠ stable) (hcond : f.condition = .pending edge stamp hold stepped) :
    f.sample level now = { f with condition := .pending edge stamp (hold + 1) stepped } := by
  simp [InputFilter.sample, h, hcond, hlevel]

/-- A sample of an input with a stable level changes the condition alone. -/
theorem InputFilter.sample_eq (level : Bool) (h : f.stable = some stable) :
    f.sample level now = ⟨some stable, (f.sample level now).condition, f.outstanding⟩ := by
  obtain ⟨st, cond, out⟩ := f
  subst h
  by_cases hlevel : level = stable
  · rw [hlevel, InputFilter.sample_at_stable now rfl]
  · cases cond with
    | stable => rw [InputFilter.sample_new_level now rfl hlevel rfl]
    | pending edge stamp hold stepped => rw [InputFilter.sample_held_level now rfl hlevel rfl]

end Sample

namespace State

theorem sampleInput_of_canSample {s : State} {i : Fin 8} (h : s.canSample i = true) :
    s.sampleInput i = (s.setFilter i (s.sampledFilter i)).setSampled (s.sampled ||| BitVec.twoPow 8 i.val) := if_pos h

end State

/-- Settles O31. -/
theorem inputSampleMovesTheFilter : Obligations.InputSampleMovesTheFilter := by
  intro s i level stable held hheld hrunning hselection hsampled hstable hout
  let c := ((s.capture.filters[i]).sample level s.clock.now).condition
  refine ⟨(s.drivePin i level).inPins, s.sampled ||| BitVec.twoPow 8 i.val, c, ?_, drivePin_same s i level,
    fun j hj => drivePin_other s level hj, rfl, fun hlevel => ?_, fun hlevel hcond => ?_,
    fun edge stamp hold stepped hlevel hcond => ?_⟩
  · refine (next_unlessHeld (s := s.drivePin i level) hheld _).trans (congrArg _ ?_)
    have hcan : (inPeriod (s.drivePin i level)).canSample i = true := by
      simpa [canSample, drivePin, hrunning] using And.intro hselection hsampled
    have hfilter : (inPeriod (s.drivePin i level)).sampledFilter i = ⟨some stable, c, held⟩ := by
      have hpin : (inPeriod (s.drivePin i level)).inPins.getLsbD i.val = level := drivePin_same s i level
      unfold sampledFilter
      rw [hpin, ← hout]
      exact InputFilter.sample_eq _ level hstable
    rw [sampleInput_of_canSample hcan, hfilter]
    rfl
  · exact congrArg InputFilter.condition ((hlevel ▸ InputFilter.sample_at_stable _ hstable :))
  · exact congrArg InputFilter.condition (InputFilter.sample_new_level _ hstable hlevel hcond)
  · exact congrArg InputFilter.condition (InputFilter.sample_held_level _ hstable hlevel hcond)

/-! ### Readback -/

/-- Settles O40. -/
theorem readbackDecidesTheSymbol : Obligations.ReadbackDecidesTheSymbol := by
  intro s e bits hheld hengine htx hcourse hage hreadWell horphan
  have hread : (inPeriod s).readback bits =
      if bits = e.symbol.bits then (inPeriod s).setEngine (some { e with readWell := true })
      else (((inPeriod s).countAlways .collision).setEngine (some { e with course := .abandon })).setTx .quashing := by
    simp [readback, hengine, htx, hcourse, hage, hreadWell, horphan]
  refine ⟨fun hbits => (next_unlessHeld hheld _).trans (congrArg _ ?_),
    fun hbits => (next_unlessHeld hheld _).trans (congrArg _ ?_)⟩
  · rw [hread, if_pos hbits]
    rfl
  · rw [hread, if_neg hbits, countAlways_eq]
    rfl

end Sys2Proof.Machine

/-! The rules of the Arm Unit's operations: which records leave the outbox, what releases an input, and what expiry notes. -/

namespace Sys2Proof.Machine

set_option Elab.async false

open Safety

/-- Of records with distinct ids, a test of one id finds one record, and the others keep their order. -/
theorem filter_of_split {rs before after : List ArmRecord} {r : ArmRecord} {p : ArmRecord → Bool} (hids : (rs.map (·.id)).Nodup)
    (hsplit : rs = before ++ r :: after) (hp : ∀ x ∈ rs, p x = true ↔ x.id = r.id) :
    (rs.filter fun x => !p x) = before ++ after ∧ rs.filter p = [r] := by
  subst hsplit
  have hr : p r = true := (hp r (by simp)).2 rfl
  obtain ⟨-, ⟨hafter, -⟩, hbefore⟩ : (before.map (·.id)).Nodup ∧ ((∀ x ∈ after, x.id ≠ r.id) ∧ (after.map (·.id)).Nodup) ∧
      ∀ x ∈ before, x.id ≠ r.id := by
    rw [List.map_append, List.map_cons, List.nodup_append, List.nodup_cons] at hids
    obtain ⟨h1, ⟨h2, h3⟩, h4⟩ := hids
    exact ⟨h1, ⟨fun x hx hid => h2 (hid ▸ List.mem_map_of_mem hx), h3⟩,
      fun x hx => h4 _ (List.mem_map_of_mem hx) _ List.mem_cons_self⟩
  have other : ∀ l : List ArmRecord, (∀ x ∈ l, x ∈ before ++ r :: after ∧ x.id ≠ r.id) → ∀ x ∈ l, p x = false := by
    intro l hl x hx
    obtain ⟨hmem, hne⟩ := hl x hx
    simpa using mt (hp x hmem).1 hne
  have ofBefore := other before fun x hx => ⟨by simp [hx], hbefore x hx⟩
  have ofAfter := other after fun x hx => ⟨by simp [hx], hafter x hx⟩
  constructor
  · rw [List.filter_append, List.filter_cons_of_neg (by simp [hr]), List.filter_eq_self.2 fun x hx => by simp [ofBefore x hx],
      List.filter_eq_self.2 fun x hx => by simp [ofAfter x hx]]
  · rw [List.filter_append, List.filter_cons_of_pos hr, List.filter_eq_nil_iff.2 fun x hx => by simp [ofBefore x hx],
      List.filter_eq_nil_iff.2 fun x hx => by simp [ofAfter x hx]]
    rfl

namespace State

/-! ### Records that leave the outbox -/

/-- A release touches the filters of the Capture Unit alone. -/
theorem releaseArm_eq (s : State) (r : ArmRecord) :
    s.releaseArm r = s.setCapture { s.capture with filters := (s.releaseArm r).capture.filters } := by
  unfold releaseArm
  split <;> rfl

theorem foldl_releaseArm_eq (rs : List ArmRecord) (s : State) :
    rs.foldl releaseArm s = s.setCapture { s.capture with filters := (rs.foldl releaseArm s).capture.filters } := by
  induction rs generalizing s with
  | nil => rfl
  | cons r rs ih =>
    have h := ih (s.releaseArm r)
    rw [List.foldl_cons]
    refine h.trans ?_
    rw [releaseArm_eq s r]
    rfl

/-- Records that leave touch the outbox and the filters alone. -/
theorem removeArms_eq (s : State) (p : ArmRecord → Bool) :
    s.removeArms p = (s.setArms { s.arms with outbox := s.arms.outbox.filter fun r => !p r }).setCapture
      { s.capture with filters := (s.removeArms p).capture.filters } :=
  foldl_releaseArm_eq _ _

theorem removeArms_none {s : State} {p : ArmRecord → Bool} (h : ∀ x ∈ s.arms.outbox, p x = false) : s.removeArms p = s := by
  have hleaves : s.arms.outbox.filter p = [] := List.filter_eq_nil_iff.2 fun x hx => by simp [h x hx]
  have hstays : (s.arms.outbox.filter fun x => !p x) = s.arms.outbox := List.filter_eq_self.2 fun x hx => by simp [h x hx]
  rw [removeArms, hleaves, hstays]
  rfl

section OneRecord

variable {s : State} {r : ArmRecord} {before after : List ArmRecord} {p : ArmRecord → Bool}

/-- The one record of an id leaves: the others keep their order, and the input that holds the id is released (R45). -/
theorem removeArms_one (hids : (s.arms.outbox.map (·.id)).Nodup) (hsplit : s.arms.outbox = before ++ r :: after)
    (hp : ∀ x ∈ s.arms.outbox, p x = true ↔ x.id = r.id) :
    (s.removeArms p).arms = { s.arms with outbox := before ++ after } ∧ Released s (s.removeArms p) r := by
  constructor
  · rw [removeArms_eq, ← (filter_of_split hids hsplit hp).1]
    rfl
  · intro j
    rw [removeArms_filters]
    have hmem : r ∈ s.arms.outbox := by simp [hsplit]
    have hiff : (∃ x ∈ s.arms.outbox, p x = true ∧ x.source ≠ .tap ∧ (s.capture.filters[j]).outstanding = some x.id) ↔
        r.source ≠ .tap ∧ (s.capture.filters[j]).outstanding = some r.id := by
      constructor
      · rintro ⟨x, hx, hpx, hrest⟩
        rwa [← eq_of_id_eq hids hx hmem ((hp x hx).1 hpx)]
      · exact fun h => ⟨r, hmem, (hp r hmem).2 rfl, h⟩
    simp only [hiff]

end OneRecord

/-! ### Expiry -/

/-- The station with the note of a record that leaves as passed, where it is due (R53). -/
def expiryNote (s : State) (r : ArmRecord) : State := if r.effective then s else s.ownNote .armExpired r.id r.tag

theorem expireArm_eq (s : State) (r : ArmRecord) : s.expireArm r = (s.expiryNote r).removeArms fun x => x.id == r.id := rfl

theorem expiryNote_of_effective (s : State) {r : ArmRecord} (h : r.effective = true) : s.expiryNote r = s := if_pos h

theorem expiryNote_of_not_effective (s : State) {r : ArmRecord} (h : r.effective = false) :
    s.expiryNote r = s.takeRecord (noteNow s .armExpired r.id s.config.id r.tag) := by
  rw [expiryNote, if_neg (by simp [h])]
  rfl

/-- A record that the Event Store takes touches the store alone. -/
theorem takeRecord_eq (s : State) (r : EventRecord) : s.takeRecord r = s.setStore (s.takeRecord r).store := by
  unfold takeRecord
  split <;> rfl

theorem expiryNote_eq (s : State) (r : ArmRecord) : s.expiryNote r = s.setStore (s.expiryNote r).store := by
  cases h : r.effective with
  | true => rw [expiryNote_of_effective s h]; rfl
  | false => rw [expiryNote_of_not_effective s h]; exact takeRecord_eq s _

theorem expireWhere_none {s : State} {p : ArmRecord → Bool} (h : ∀ x ∈ s.arms.outbox, p x = false) : s.expireWhere p = s := by
  rw [expireWhere, List.filter_eq_nil_iff.2 fun x hx => by simp [h x hx]]
  rfl

theorem expireWhere_one {s : State} {p : ArmRecord → Bool} {r : ArmRecord} {before after : List ArmRecord}
    (hids : (s.arms.outbox.map (·.id)).Nodup) (hsplit : s.arms.outbox = before ++ r :: after)
    (hp : ∀ x ∈ s.arms.outbox, p x = true ↔ x.id = r.id) : s.expireWhere p = s.expireArm r := by
  rw [expireWhere, (filter_of_split hids hsplit hp).2]
  rfl

/-- The one record of an id leaves as passed (R45, R53). -/
theorem expireArm_one {s : State} {r : ArmRecord} {before after : List ArmRecord} (hids : (s.arms.outbox.map (·.id)).Nodup)
    (hsplit : s.arms.outbox = before ++ r :: after) :
    (s.expireArm r).arms = { s.arms with outbox := before ++ after } ∧ Released s (s.expireArm r) r ∧
      (s.expireArm r).capture.outbox = s.capture.outbox ∧ (s.expireArm r).capture.inFlight = s.capture.inFlight ∧
      (s.expireArm r).store = (s.expiryNote r).store ∧
      s.expireArm r = ((s.setArms (s.expireArm r).arms).setCapture (s.expireArm r).capture).setStore (s.expireArm r).store := by
  have hnote := expiryNote_eq s r
  have harms : (s.expiryNote r).arms = s.arms := by rw [hnote]; rfl
  have hcapture : (s.expiryNote r).capture = s.capture := by rw [hnote]; rfl
  obtain ⟨hleft, hreleased⟩ := removeArms_one (s := s.expiryNote r) (p := fun x => x.id == r.id) (by rwa [harms])
    (by rw [harms]; exact hsplit) (fun x _ => beq_iff_eq)
  have hrest := removeArms_eq (s.expiryNote r) fun x => x.id == r.id
  rw [expireArm_eq]
  refine ⟨hleft.trans (by rw [harms]), fun j => ?_, ?_, ?_, ?_, ?_⟩
  · rw [hreleased j, hcapture]
  · rw [hrest, setCapture_capture, hcapture]
  · rw [hrest, setCapture_capture, hcapture]
  · rw [hrest]
    rfl
  · rw [hrest, hnote]
    rfl

end State

end Sys2Proof.Machine

/-! The tap port (chapter 9): the take points, the responses and the ends of a transaction. -/

namespace Sys2Proof.Machine

set_option Elab.async false

open Safety

/-! ### Bytes of fields -/

theorem length_leBytes (k n : Nat) : (leBytes k n).length = k := by
  induction k generalizing n with
  | zero => rfl
  | succ k ih => simp [leBytes, ih]

theorem leValue_leBytes (k n : Nat) : leValue (leBytes k n) = n % 256 ^ k := by
  induction k generalizing n with
  | zero => simp [leBytes, leValue, Nat.mod_one]
  | succ k ih =>
    have hmul : n % (256 * 256 ^ k) = n % 256 + 256 * (n / 256 % 256 ^ k) := Nat.mod_mul
    rw [leBytes, leValue, ih, BitVec.toNat_ofNat, Nat.pow_succ' (n := k), hmul]

theorem length_timeBytes (t : LineTime) : (timeBytes t).length = 6 := by
  simp [timeBytes, length_leBytes]

theorem length_leBytesSigned (k : Nat) (i : Int) : (leBytesSigned k i).length = k := length_leBytes _ _

namespace State

/-! ### The take points -/

/-- The station as the take point of a command finds it: the last byte before the turnaround has come. -/
def atTakePoint (s : State) (cmd : TapCommand) (params : List Byte) : State :=
  (inPeriod s).setTap { s.tap with state := .turnaround, command := some cmd, params := params, sdo := 0 }

section TakePoint

variable {s : State} {cmd : TapCommand}

/-- The command byte of a command without a parameter is its take point (R155). -/
theorem next_commandTakePoint (hheld : s.resetHeld = false) (hstate : s.tap.state = .command) {b : Byte}
    (hcount : (tapCommandOf b).paramCount = 0) :
    (Host.Outcome.next (s.unlessHeld fun u => u.commandTakePoint b) : Host.Outcome State Fault Refusal) =
      .next ((s.atTakePoint (tapCommandOf b) []).takePoint (tapCommandOf b) []) := by
  refine (next_unlessHeld hheld _).trans (congrArg _ ?_)
  simp only [commandTakePoint, byteCompleted, commandByte, setLateHandling_tap, hstate, if_true, hcount]
  rfl

/-- The last parameter byte of a command is its take point (R155). -/
theorem next_parameterTakePoint (hheld : s.resetHeld = false) (hstate : s.tap.state = .parameters)
    (hcmd : s.tap.command = some cmd) {params : List Byte} (hparams : s.tap.params = params)
    (hcount : params.length + 1 = cmd.paramCount) (b : Byte) :
    (Host.Outcome.next (s.unlessHeld fun u => u.parameterTakePoint cmd b) : Host.Outcome State Fault Refusal) =
      .next ((s.atTakePoint cmd (params ++ [b])).takePoint cmd (params ++ [b])) := by
  refine (next_unlessHeld hheld _).trans (congrArg _ ?_)
  have hlast : cmd.paramCount ≤ (params ++ [b]).length := by simp [← hcount]
  have hat : s.atTakePoint cmd (params ++ [b]) =
      (inPeriod s).setTap { s.tap with state := .turnaround, params := params ++ [b], sdo := 0 } := by
    rw [atTakePoint, ← hcmd]
  rw [hat]
  simp only [parameterTakePoint, lastParameterDue, byteCompleted, parameterByte, setLateHandling_tap, hstate, hcmd, hparams,
    hcount, beq_self_eq_true, Bool.and_self, if_true, hlast]
  rfl

variable {u : State} {params : List Byte}

theorem takePoint_refused {result : ResultCode} (h : tapTest u cmd params = result) (hresult : result ≠ .accepted) :
    u.takePoint cmd params = u.respond result (refusalData cmd) := by
  unfold takePoint
  rw [h]
  cases result <;> first | exact absurd rfl hresult | rfl

theorem takePoint_accepted (h : tapTest u cmd params = .accepted) : u.takePoint cmd params = u.takeCommand cmd params := by
  unfold takePoint
  rw [h]

theorem tapTest_notReady (hcmd : cmd ≠ .unknown) (h : tapReady u cmd = false) : tapTest u cmd params = .notReady := by
  simp [tapTest, hcmd, h]

theorem tapTest_badParameter (hcmd : cmd ≠ .unknown) (h : tapReady u cmd = true) (hparams : paramsValid u cmd params = false) :
    tapTest u cmd params = .badParameter := by
  simp [tapTest, hcmd, h, hparams]

theorem tapTest_accepted (hcmd : cmd ≠ .unknown) (h : tapReady u cmd = true) (hparams : paramsValid u cmd params = true) :
    tapTest u cmd params = .accepted := by
  simp [tapTest, hcmd, h, hparams]

/-- Outside UNSET every command is served (R156). -/
theorem tapReady_of_set (h : u.agreement.state ≠ .unset) : tapReady u cmd = true := by
  simp [tapReady, h]

/-- READ STATUS is served in every state (R158). -/
theorem tapReady_readStatus : tapReady u .readStatus = true := by
  simp [tapReady]

theorem tapReady_readCounters : tapReady u .readCounters = true := by
  simp [tapReady]

/-- In UNSET a command other than the status and the counters is served only where it is RESTART in FAULT (R156). -/
theorem tapReady_of_unset (h : u.agreement.state = .unset) (h1 : cmd ≠ .readStatus) (h2 : cmd ≠ .readCounters)
    (h3 : cmd ≠ .restart ∨ u.loader.state ≠ .fault) : tapReady u cmd = false := by
  rcases h3 with h3 | h3 <;> simp [tapReady, h, h1, h2, h3]

end TakePoint

theorem tapCommandOf_unknown {code : Byte}
    (h : code ∉ ([0x01, 0x02, 0x03, 0x04, 0x05, 0x06, 0x07, 0x10, 0x11, 0x20] : List Byte)) :
    tapCommandOf code = .unknown ∧ tapCodes.contains code = false := by
  have hcontains : tapCodes.contains code = false := by
    simpa [tapCodes] using h
  simp only [List.mem_cons, List.not_mem_nil, or_false, not_or, ← BitVec.toNat_inj] at h
  refine ⟨?_, hcontains⟩
  unfold tapCommandOf
  split
  all_goals first | rfl | simp_all

end State

open State

/-- Settles O45. -/
theorem commandByteIsTheTakePoint : Obligations.CommandByteIsTheTakePoint := by
  intro s hheld hstate
  refine ⟨?_, fun hset => ⟨?_, ?_⟩, fun hready => ?_, fun hunset c hc => ?_, fun code hcode => ?_⟩
  · refine ⟨_, (next_commandTakePoint hheld hstate (b := 0x01) rfl).trans
      (congrArg _ (takePoint_accepted (tapTest_accepted (by decide) tapReady_readStatus rfl))), rfl, rfl, rfl, rfl, ?_, rfl, rfl, rfl⟩
    simp [takeCommand, takeReadStatus, tapCommandOf, statusBytes, length_timeBytes, length_leBytesSigned]
  · exact ⟨_, (next_commandTakePoint hheld hstate (b := 0x06) rfl).trans
      (congrArg _ (takePoint_accepted (tapTest_accepted (by decide) (tapReady_of_set hset) rfl))), rfl, rfl, by
        cases hgap : s.store.gap <;> simp [takeCommand, respond, tapCommandOf, countBytes, atTakePoint, hgap, bit, ResultCode.byte]⟩
  · exact ⟨_, (next_commandTakePoint hheld hstate (b := 0x07) rfl).trans
      (congrArg _ (takePoint_accepted (tapTest_accepted (by decide) (tapReady_of_set hset) rfl))), rfl, rfl, rfl, rfl⟩
  · have hserved : tapReady (s.atTakePoint .restart []) .restart = true := by
      simpa [tapReady, atTakePoint, imp_iff_not_or] using hready
    exact ⟨_, (next_commandTakePoint hheld hstate (b := 0x20) rfl).trans
      (congrArg _ (takePoint_accepted (tapTest_accepted (by decide) hserved rfl))), rfl, rfl, rfl, rfl, rfl⟩
  · have refuses : ∀ (b : Byte) (cmd : TapCommand), tapCommandOf b = cmd → cmd.paramCount = 0 → cmd ≠ .unknown →
        cmd ≠ .readStatus → cmd ≠ .readCounters → cmd ≠ .postTrigger → (cmd ≠ .restart ∨ s.loader.state ≠ .fault) →
        (Host.Outcome.next (s.unlessHeld fun u => u.commandTakePoint b) : Host.Outcome State Fault Refusal) =
          .next ((s.atTakePoint cmd []).respond .notReady []) := by
      rintro b cmd rfl hcount h0 h1 h2 h3 h4
      refine (next_commandTakePoint hheld hstate hcount).trans (congrArg _ ?_)
      rw [takePoint_refused (u := s.atTakePoint _ []) (tapTest_notReady h0 (tapReady_of_unset hunset h1 h2 h4)) (by decide),
        refusalData, if_neg h3]
    rcases hc with rfl | rfl | ⟨rfl, hfault⟩
    · exact ⟨_, refuses 0x06 .countEvents rfl rfl (by decide) (by decide) (by decide) (by decide) (.inl (by decide)), rfl, rfl, rfl, rfl, rfl⟩
    · exact ⟨_, refuses 0x07 .readEvent rfl rfl (by decide) (by decide) (by decide) (by decide) (.inl (by decide)), rfl, rfl, rfl, rfl, rfl⟩
    · exact ⟨_, refuses 0x20 .restart rfl rfl (by decide) (by decide) (by decide) (by decide) (.inr hfault), rfl, rfl, rfl, rfl, rfl⟩
  · obtain ⟨hunknown, hcodes⟩ := tapCommandOf_unknown hcode
    have hcommand : exec (.badCommand code) s = .next (s.unlessHeld fun u => u.commandTakePoint code) := by
      refine congrArg (fun f => Host.Outcome.next (s.unlessHeld f)) (funext fun u => ?_)
      rw [hcodes]
      rfl
    refine ⟨_, hcommand.trans ((next_commandTakePoint hheld hstate (by rw [hunknown]; rfl)).trans (congrArg _
      (takePoint_refused (result := .badCommand) (by rw [hunknown]; rfl) (by decide)))), rfl, rfl, ?_⟩
    rw [hunknown]
    rfl

/-! ### The views of one position (R161) -/

theorem length_peerBytes (p : Peer) : (peerBytes p).length = 16 := by
  simp [peerBytes, length_leBytes, length_leBytesSigned]

section Views

variable {s : State} {position : Nat}

theorem scheduleView_some {e : ScheduleEntry} (h : s.schedule[position]? = some e) : scheduleView s position = scheduleBytes e := by
  simp [scheduleView, h]

theorem scheduleView_none (h : s.schedule.length ≤ position) : scheduleView s position = List.replicate 12 0 := by
  simp [scheduleView, List.getElem?_eq_none h]

theorem length_scheduleView (s : State) (position : Nat) : (scheduleView s position).length = 12 := by
  cases h : s.schedule[position]? with
  | none => simp [scheduleView, h]
  | some e => simp [scheduleView_some h, scheduleBytes, length_timeBytes]

theorem outboxView_some {r : ArmRecord} (h : s.arms.outbox[position]? = some r) : outboxView s position = armRecordBytes r := by
  simp [outboxView, h]

theorem outboxView_none (h : s.arms.outbox.length ≤ position) : outboxView s position = List.replicate 14 0 := by
  simp [outboxView, List.getElem?_eq_none h]

theorem length_outboxView (s : State) (position : Nat) : (outboxView s position).length = 14 := by
  cases h : s.arms.outbox[position]? with
  | none => simp [outboxView, h]
  | some r => simp [outboxView_some h, armRecordBytes, length_timeBytes, length_leBytes]

end Views

/-- Settles O46. -/
theorem readsTakeOnePosition : Obligations.ReadsTakeOnePosition := by
  intro s b hheld hstate hparams
  have takes : ∀ cmd : TapCommand, cmd.paramCount = 1 → s.tap.command = some cmd →
      (Host.Outcome.next (s.unlessHeld fun u => u.parameterTakePoint cmd b) : Host.Outcome State Fault Refusal) =
        .next ((s.atTakePoint cmd [b]).takePoint cmd [b]) := fun cmd hcount hcmd =>
    next_parameterTakePoint hheld hstate hcmd hparams hcount.symm b
  refine ⟨fun hunset c hc => ?_, fun hset => ⟨fun hcmd => ?_, fun hcmd => ?_, fun hcmd => ?_⟩⟩
  · have refuses : ∀ cmd : TapCommand, cmd = .readPeer ∨ cmd = .readSchedule ∨ cmd = .readOutbox → s.tap.command = some cmd →
        ∃ t, (Host.Outcome.next (s.unlessHeld fun u => u.parameterTakePoint cmd b) : Host.Outcome State Fault Refusal) = .next t ∧
          t = (inPeriod s).setTap t.tap ∧ t.tap.state = .turnaround ∧ t.tap.response = [7] := by
      intro cmd hread hcmd
      refine ⟨_, (takes cmd (by rcases hread with rfl | rfl | rfl <;> rfl) hcmd).trans (congrArg _
        (takePoint_refused (tapTest_notReady ?_ (tapReady_of_unset hunset ?_ ?_ (.inl ?_))) (by decide))), rfl, rfl, ?_⟩
      all_goals rcases hread with rfl | rfl | rfl
      all_goals first | decide | rfl
    rcases hc with ⟨hcmd, rfl⟩ | ⟨hcmd, rfl⟩ | ⟨hcmd, rfl⟩
    · exact refuses .readPeer (by decide) hcmd
    · exact refuses .readSchedule (by decide) hcmd
    · exact refuses .readOutbox (by decide) hcmd
  · refine ⟨_, takes .readPeer rfl hcmd, ?_⟩
    cases hvalid : validStationId b with
    | true =>
      rw [takePoint_accepted (u := s.atTakePoint .readPeer [b]) (tapTest_accepted (cmd := .readPeer) (params := [b]) (by decide) (tapReady_of_set hset) hvalid)]
      refine ⟨rfl, rfl, fun _ => ⟨rfl, ?_⟩, fun hrange => absurd ((Laws.Checks.validStationId_iff b).1 hvalid) (by omega)⟩
      simp [takeCommand, respond, length_peerBytes]
    | false =>
      rw [takePoint_refused (u := s.atTakePoint .readPeer [b]) (tapTest_badParameter (cmd := .readPeer) (params := [b]) (by decide) (tapReady_of_set hset) hvalid) (by decide)]
      exact ⟨rfl, rfl, fun hrange => absurd ((Laws.Checks.validStationId_iff b).2 hrange) (by simp [hvalid]), fun _ => rfl⟩
  · refine ⟨_, takes .readSchedule rfl hcmd, ?_⟩
    by_cases hrange : b.toNat ≤ 31
    · rw [takePoint_accepted (u := s.atTakePoint .readSchedule [b]) (tapTest_accepted (cmd := .readSchedule) (params := [b]) (by decide) (tapReady_of_set hset) (decide_eq_true hrange))]
      refine ⟨rfl, rfl, fun _ => ⟨?_, fun e he => ?_, fun hnone => ?_⟩, fun h => absurd hrange (by omega)⟩
      · exact congrArg (· + 1) (length_scheduleView s b.toNat)
      · exact congrArg (List.cons 0) (scheduleView_some he)
      · exact congrArg (List.cons 0) (scheduleView_none hnone)
    · rw [takePoint_refused (u := s.atTakePoint .readSchedule [b]) (tapTest_badParameter (cmd := .readSchedule) (params := [b]) (by decide) (tapReady_of_set hset) (decide_eq_false hrange)) (by decide)]
      exact ⟨rfl, rfl, fun h => absurd h hrange, fun _ => rfl⟩
  · refine ⟨_, takes .readOutbox rfl hcmd, ?_⟩
    by_cases hrange : b.toNat ≤ 7
    · rw [takePoint_accepted (u := s.atTakePoint .readOutbox [b]) (tapTest_accepted (cmd := .readOutbox) (params := [b]) (by decide) (tapReady_of_set hset) (decide_eq_true hrange))]
      refine ⟨rfl, rfl, fun _ => ⟨?_, fun r hr => ?_, fun hnone => ?_⟩, fun h => absurd hrange (by omega)⟩
      · exact congrArg (· + 1) (length_outboxView s b.toNat)
      · exact congrArg (List.cons 0) (outboxView_some hr)
      · exact congrArg (List.cons 0) (outboxView_none hnone)
    · rw [takePoint_refused (u := s.atTakePoint .readOutbox [b]) (tapTest_badParameter (cmd := .readOutbox) (params := [b]) (by decide) (tapReady_of_set hset) (decide_eq_false hrange)) (by decide)]
      exact ⟨rfl, rfl, fun h => absurd h hrange, fun _ => rfl⟩

/-! ### The line counters (R160) -/

theorem drop_take_flatMap_leBytes (l : List (BitVec 16)) (i : Nat) (h : i < l.length) :
    ((l.flatMap fun n => leBytes 2 n.toNat).drop (2 * i)).take 2 = leBytes 2 (l[i]).toNat := by
  induction l generalizing i with
  | nil => exact absurd h (Nat.not_lt_zero i)
  | cons n l ih =>
    cases i with
    | zero => simp [leBytes]
    | succ i => simpa [leBytes, Nat.mul_succ] using ih i (by simpa using h)

theorem length_counterBytes (s : State) : (counterBytes s).length = 30 := by
  simp [counterBytes, List.length_flatMap, length_leBytes]

theorem leValue_counterBytes (s : State) (i : Fin 15) :
    leValue (fieldAt (0 :: counterBytes s) (1 + 2 * i.val) 2) = (s.framer.counters[i]).toNat := by
  have hfield : fieldAt (0 :: counterBytes s) (1 + 2 * i.val) 2 = leBytes 2 (s.framer.counters[i]).toNat := by
    rw [fieldAt, Nat.add_comm, List.drop_succ_cons]
    exact (drop_take_flatMap_leBytes s.framer.counters.toList i.val (by simp)).trans (by simp)
  rw [hfield, leValue_leBytes]
  exact Nat.mod_eq_of_lt (s.framer.counters[i]).isLt

/-- Settles O47. -/
theorem readCountersMayClear : Obligations.ReadCountersMayClear := by
  intro s b hheld hstate hparams hcmd
  have hexec : exec (.readCounters b) s = .next ((s.atTakePoint .readCounters [b]).takePoint .readCounters [b]) :=
    next_parameterTakePoint hheld hstate hcmd hparams rfl b
  refine ⟨_, hexec, ?_⟩
  by_cases hrange : b.toNat ≤ 1
  · rw [takePoint_accepted (u := s.atTakePoint .readCounters [b]) (tapTest_accepted (cmd := .readCounters) (params := [b]) (by decide)
      tapReady_readCounters (decide_eq_true hrange))]
    have hbytes : ∀ t : State, t.tap.response = 0 :: counterBytes s → t.tap.response.length = 31 ∧
        ∀ i : Fin 15, leValue (fieldAt t.tap.response (1 + 2 * i.val) 2) = (s.framer.counters[i]).toNat := fun t ht =>
      ⟨by rw [ht, List.length_cons, length_counterBytes], fun i => by rw [ht, leValue_counterBytes]⟩
    have hoption : b = 0 ∨ b = 1 := by
      simp only [← BitVec.toNat_inj]
      exact Nat.le_one_iff_eq_zero_or_eq_one.1 hrange
    refine ⟨?_, ?_, fun _ => hbytes _ ?_, fun h0 h1 => absurd hoption (not_or.2 ⟨h0, h1⟩)⟩
    all_goals rcases hoption with rfl | rfl <;> rfl
  · rw [takePoint_refused (u := s.atTakePoint .readCounters [b]) (tapTest_badParameter (cmd := .readCounters) (params := [b]) (by decide)
      tapReady_readCounters (decide_eq_false hrange)) (by decide)]
    have hone : b ≠ 1 := fun h => hrange (by simp [h])
    have hzero : b ≠ 0 := fun h => hrange (by simp [h])
    refine ⟨rfl, ?_, fun h => absurd h (not_or.2 ⟨hzero, hone⟩), fun _ _ => rfl⟩
    rw [if_neg hone]
    rfl

/-! ### POST TRIGGER (R163, R48) -/

namespace State

/-- Where the checks pass, one record joins the outbox under the next free id, and the reports follow. -/
theorem takePost_accepted {u : State} {params : List Byte}
    (h : u.tapArmCheck (byteAt params 0) (postAction u params) = .accepted) :
    u.takePost params =
      ((u.createArm (byteAt params 0) (postAction u params) .tap).refreshTx).respond .accepted [u.newArmId] := by
  simp [takePost, h]

theorem takePost_refused {u : State} {params : List Byte} {code : ResultCode}
    (h : u.tapArmCheck (byteAt params 0) (postAction u params) = code) (hcode : code ≠ .accepted) :
    u.takePost params = u.respond code [0] := by
  simp only [takePost, h]

section ArmCheck

variable {u : State} {tag : Byte} {action : LineTime}

theorem acting_iff (u : State) : u.acting = true ↔ Acting u := by
  simp [acting, Acting, or_assoc]

theorem tapArmCheck_state (h : u.agreement.state = .listening ∨ u.agreement.state = .adrift) :
    u.tapArmCheck tag action = .refusedState := by
  have hnot : u.acting = false := by rcases h with h | h <;> simp [acting, h]
  simp [tapArmCheck, hnot]

theorem tapArmCheck_tag (hacting : Acting u) : u.tapArmCheck 0 action = .refusedTag := by
  simp [tapArmCheck, (acting_iff u).2 hacting]

theorem tapArmCheck_lead (hacting : Acting u) (htag : tag ≠ 0) (hlead : earlier u.len action (u.earliestAction u.now) = true) :
    u.tapArmCheck tag action = .refusedLead := by
  simp [tapArmCheck, (acting_iff u).2 hacting, show ¬tag = 0#8 from htag, hlead]

theorem tapArmCheck_reach (hacting : Acting u) (htag : tag ≠ 0) (hlead : earlier u.len action (u.earliestAction u.now) = false)
    (hreach : later u.len action (latestAction u.now) = true) : u.tapArmCheck tag action = .refusedReach := by
  simp [tapArmCheck, (acting_iff u).2 hacting, show ¬tag = 0#8 from htag, hlead, hreach]

theorem tapArmCheck_full (hacting : Acting u) (htag : tag ≠ 0) (hlead : earlier u.len action (u.earliestAction u.now) = false)
    (hreach : later u.len action (latestAction u.now) = false) (hfull : 8 ≤ u.arms.outbox.length) :
    u.tapArmCheck tag action = .refusedFull := by
  simp [tapArmCheck, (acting_iff u).2 hacting, show ¬tag = 0#8 from htag, hlead, hreach, Config.armCapacity, hfull]

theorem tapArmCheck_accepted (hacting : Acting u) (htag : tag ≠ 0) (hlead : earlier u.len action (u.earliestAction u.now) = false)
    (hreach : later u.len action (latestAction u.now) = false) (hroom : u.arms.outbox.length < 8) :
    u.tapArmCheck tag action = .accepted := by
  simp [tapArmCheck, (acting_iff u).2 hacting, show ¬tag = 0#8 from htag, hlead, hreach, Config.armCapacity, Nat.not_le.2 hroom]

end ArmCheck

theorem freeArmId_of_arms {s t : State} (h : t.arms = s.arms) (fuel : Nat) (id : Byte) : t.freeArmId fuel id = s.freeArmId fuel id := by
  have hheld : ∀ id, t.armIdHeld id = s.armIdHeld id := fun id => by simp only [armIdHeld, h]
  induction fuel generalizing id with
  | zero => rfl
  | succ fuel ih => simp only [freeArmId, hheld, ih]

/-- The next arm id depends on the Arm Unit alone. -/
theorem newArmId_of_arms {s t : State} (h : t.arms = s.arms) : t.newArmId = s.newArmId := by
  rw [newArmId, h, freeArmId_of_arms h]
  rfl

/-- The take point of a POST TRIGGER leaves the transaction at its turnaround. -/
theorem takePost_tap_state (u : State) (params : List Byte) : (u.takePost params).tap.state = u.tap.state := by
  by_cases h : u.tapArmCheck (byteAt params 0) (postAction u params) = .accepted
  · rw [takePost_accepted h, refreshTx_eq]
    rfl
  · rw [takePost_refused rfl h]
    rfl

/-- The tests of a take point leave the transaction at its turnaround, or what the command makes of it. -/
theorem takePoint_tap_state (u : State) (cmd : TapCommand) (params : List Byte)
    (h : (u.takeCommand cmd params).tap.state = u.tap.state) : (u.takePoint cmd params).tap.state = u.tap.state := by
  by_cases htest : tapTest u cmd params = .accepted
  · rw [takePoint_accepted htest, h]
  · rw [takePoint_refused rfl htest]
    rfl

end State

/-- Settles O48. -/
theorem postTriggerCreatesOneArm : Obligations.PostTriggerCreatesOneArm := by
  intro s tag form b2 b3 b4 b5 b6 last hheld hstate hcmd hparams
  let params := [tag, form, b2, b3, b4, b5, b6, last]
  let u := s.atTakePoint .postTrigger params
  have hexec : exec (.postTrigger last) s = .next (u.takePoint .postTrigger params) :=
    next_parameterTakePoint hheld hstate hcmd hparams rfl last
  have hnotReady : s.agreement.state = .unset → u.takePoint .postTrigger params = u.respond .notReady [0] := fun h =>
    takePoint_refused (tapTest_notReady (by decide) (tapReady_of_unset h (by decide) (by decide) (.inl (by decide)))) (by decide)
  have hvalid : paramsValid u .postTrigger params =
      (form == 1 || (form == 0 && decide (leValue [b5, b6, last] < s.len))) := rfl
  have hbad : s.agreement.state ≠ .unset → form ≠ 0 ∧ form ≠ 1 ∨ form = 0 ∧ s.len ≤ leValue [b5, b6, last] →
      u.takePoint .postTrigger params = u.respond .badParameter [0] := by
    intro hset hform
    refine takePoint_refused (tapTest_badParameter (by decide) (tapReady_of_set hset) (hvalid.trans ?_)) (by decide)
    rcases hform with ⟨h0, h1⟩ | ⟨rfl, hlen⟩
    · rw [beq_eq_false_iff_ne.2 h1, beq_eq_false_iff_ne.2 h0]
      rfl
    · simp [hlen]
  have hserved : ∀ action, s.agreement.state ≠ .unset →
      (form = 1 ∧ action = timeAdd s.len s.clock.now (leValue [b2, b3, b4, b5, b6, last]) ∨
        form = 0 ∧ leValue [b5, b6, last] < s.len ∧ action = ⟨BitVec.ofNat 24 (leValue [b2, b3, b4]), leValue [b5, b6, last]⟩) →
      u.takePoint .postTrigger params = u.takePost params ∧ postAction u params = action := by
    intro action hset hform
    refine ⟨takePoint_accepted (tapTest_accepted (by decide) (tapReady_of_set hset) (hvalid.trans ?_)), ?_⟩
    · rcases hform with ⟨rfl, -⟩ | ⟨rfl, hlen, -⟩
      · rfl
      · simp [hlen]
    · rcases hform with ⟨rfl, rfl⟩ | ⟨rfl, -, rfl⟩ <;> rfl
  refine ⟨_, hexec, ?_, fun h => ?_, fun hset hform => ?_, fun action hset hform => ?_⟩
  · exact takePoint_tap_state u _ _ (takePost_tap_state u params)
  · rw [hnotReady h]
    exact ⟨rfl, rfl⟩
  · rw [hbad hset hform]
    exact ⟨rfl, rfl⟩
  obtain ⟨hpoint, haction⟩ := hserved action hset hform
  rw [hpoint]
  have refuses : ∀ code : ResultCode, code ≠ .accepted → u.tapArmCheck tag action = code →
      u.takePost params = (inPeriod s).setTap (u.takePost params).tap ∧ (u.takePost params).tap.response = [code.byte, 0] := by
    intro code hcode hcheck
    rw [takePost_refused (by rw [haction]; exact hcheck) hcode]
    exact ⟨rfl, rfl⟩
  refine ⟨fun hacting htag hlead hreach hroom => ?_, fun h => refuses .refusedState (by decide) (tapArmCheck_state h), fun hacting =>
    ⟨fun htag => refuses .refusedTag (by decide) (htag ▸ tapArmCheck_tag hacting),
    fun htag hlead => refuses .refusedLead (by decide) (tapArmCheck_lead hacting htag hlead),
    fun htag hlead hreach => refuses .refusedReach (by decide) (tapArmCheck_reach hacting htag hlead hreach),
    fun htag hlead hreach hfull => refuses .refusedFull (by decide) (tapArmCheck_full hacting htag hlead hreach hfull)⟩⟩
  have hcheck : u.tapArmCheck tag action = .accepted := tapArmCheck_accepted hacting htag hlead hreach hroom
  have hid : u.newArmId = s.newArmId := newArmId_of_arms rfl
  rw [takePost_accepted (by rw [haction]; exact hcheck), haction, refreshTx_eq, createArm, hid]
  generalize s.newArmId = id
  exact ⟨rfl, rfl, rfl, rfl⟩

/-! ### CANCEL TRIGGER (R56, R57) -/

namespace State

section CancelTrigger

variable {u : State} {id : Byte}

theorem carriesArm_iff : u.arms.inFlight.carriesArm id = true ↔ CarriesArm u id := by
  unfold CarriesArm InFlight.carriesArm
  split
  next round carried h => simp [h]
  next hnone => simpa using fun round carried h => absurd h (hnone round carried)

theorem carriesCancel_iff : u.arms.inFlight.carriesCancel id = true ↔ CarriesCancel u id := by
  unfold CarriesCancel InFlight.carriesCancel
  split
  next round carried h => simp [h]
  next hnone => simpa using fun round carried h => absurd h (hnone round carried)

theorem ownAccepted_eq_true : u.ownAccepted id = true ↔
    ∃ h, findHistory id (u.historyOf u.config.id) = some h ∧ ∃ tag action, h.status = .accepted tag action := by
  unfold ownAccepted
  split
  next i tag action h => exact iff_of_true rfl ⟨_, h, tag, action, rfl⟩
  next hnone =>
    refine iff_of_false (by simp) ?_
    rintro ⟨⟨i, status⟩, h, tag, action, rfl⟩
    exact hnone _ _ _ h

theorem exists_of_ownAccepted (h : u.ownAccepted id = true) :
    ∃ h ∈ u.historyOf u.config.id, h.id = id ∧ ∃ tag action, h.status = .accepted tag action := by
  obtain ⟨e, hfind, hstatus⟩ := ownAccepted_eq_true.1 h
  exact ⟨e, List.mem_of_find?_eq_some hfind, by simpa using List.find?_some hfind, hstatus⟩

/-- The own history holds the id ACCEPTED (R56). -/
theorem ownAccepted_iff (hids : ((u.historyOf u.config.id).map (·.id)).Nodup) :
    u.ownAccepted id = true ↔ ∃ h ∈ u.historyOf u.config.id, h.id = id ∧ ∃ tag action, h.status = .accepted tag action := by
  refine ⟨exists_of_ownAccepted, fun ⟨h, hmem, hid, hstatus⟩ => ?_⟩
  obtain ⟨g, hg⟩ := Option.isSome_iff_exists.1 (List.find?_isSome.2 ⟨h, hmem, by simpa using hid⟩ :
    ((u.historyOf u.config.id).find? fun e => e.id == id).isSome = true)
  have hgid : g.id = id := by simpa using List.find?_some hg
  obtain rfl : g = h := List.inj_on_of_nodup_map hids (List.mem_of_find?_eq_some hg) hmem (hgid.trans hid.symm)
  exact ownAccepted_eq_true.2 ⟨g, hg, hstatus⟩

theorem armIdIn_iff : (u.arms.outbox.any fun r => r.id == id) = true ↔ ∃ r ∈ u.arms.outbox, r.id = id := by simp

theorem cancelQueued_iff : u.cancelQueued id = true ↔ (∃ c ∈ u.arms.cancels, c.id = id) ∨ CarriesCancel u id := by
  simp [cancelQueued, carriesCancel_iff]

theorem cancelsUnsent_iff :
    u.cancelsUnsent id = true ↔ (∃ r ∈ u.arms.outbox, r.id = id ∧ r.effective = false) ∧ ¬CarriesArm u id := by
  rw [← carriesArm_iff]
  simp only [cancelsUnsent, List.any_eq_true, Bool.and_eq_true, beq_iff_eq, Bool.not_eq_true', Bool.not_eq_true]
  constructor
  · rintro ⟨r, hr, ⟨hid, heff⟩, hcarried⟩
    exact ⟨⟨r, hr, hid, heff⟩, hcarried⟩
  · rintro ⟨⟨r, hr, hid, heff⟩, hcarried⟩
    exact ⟨r, hr, ⟨hid, heff⟩, hcarried⟩

theorem cancelsSent_iff (hids : ((u.historyOf u.config.id).map (·.id)).Nodup) : u.cancelsSent id = true ↔
    (∃ r ∈ u.arms.outbox, r.id = id) ∨ CarriesArm u id ∨
      ∃ h ∈ u.historyOf u.config.id, h.id = id ∧ ∃ tag action, h.status = .accepted tag action := by
  rw [cancelsSent, Bool.or_eq_true, Bool.or_eq_true, armIdIn_iff, carriesArm_iff, ownAccepted_iff hids, or_assoc]

/-- Where a cancel withdraws a record not yet sent (R56, row 1). -/
theorem takeCancel_unsent (h : u.cancelsUnsent id = true) :
    u.takeCancel id = ((u.removeArms fun r => r.id == id).refreshTx).respond .accepted [] := by
  simp [takeCancel, cancelEffect, cancelResult, h]

/-- Where a cancel of the id is queued or in flight already (R57, row 1). -/
theorem takeCancel_queued (h : u.cancelsUnsent id = false) (hsent : u.cancelsSent id = true) (hqueued : u.cancelQueued id = true) :
    u.takeCancel id = u.refreshTx.respond .accepted [] := by
  simp [takeCancel, cancelEffect, cancelResult, h, hsent, hqueued]

/-- Where the cancel outbox is full (R57, row 2). -/
theorem takeCancel_full (h : u.cancelsUnsent id = false) (hsent : u.cancelsSent id = true) (hqueued : u.cancelQueued id = false)
    (hfull : 8 ≤ u.arms.cancels.length) : u.takeCancel id = u.refreshTx.respond .refusedFull [] := by
  simp [takeCancel, cancelEffect, cancelResult, h, hsent, hqueued, Config.cancelCapacity, hfull, Nat.not_lt.2 hfull]

/-- The station whose arm of the id, if any, has left, and whose cancel of it joins the cancel outbox (R57, row 3). -/
def queueCancel (u : State) (id : Byte) : State :=
  (u.removeArms fun r => r.id == id).setArms { (u.removeArms fun r => r.id == id).arms with
    cancels := (u.removeArms fun r => r.id == id).arms.cancels ++ [⟨id, 0, none⟩] }

theorem takeCancel_joins (h : u.cancelsUnsent id = false) (hsent : u.cancelsSent id = true) (hqueued : u.cancelQueued id = false)
    (hroom : u.arms.cancels.length < 8) : u.takeCancel id = (u.queueCancel id).refreshTx.respond .accepted [] := by
  simp [takeCancel, cancelEffect, cancelResult, h, hsent, hqueued, Config.cancelCapacity, hroom, Nat.not_le.2 hroom, queueCancel]

theorem takeCancel_unknown (h : u.cancelsUnsent id = false) (hsent : u.cancelsSent id = false) :
    u.takeCancel id = u.refreshTx.respond .unknown [] := by
  simp [takeCancel, cancelEffect, cancelResult, h, hsent]

/-- A cancel touches the Arm Unit and the filters alone. -/
theorem cancelEffect_eq (u : State) (id : Byte) :
    u.cancelEffect id = (u.setArms (u.cancelEffect id).arms).setCapture
      { u.capture with filters := (u.cancelEffect id).capture.filters } := by
  have left := removeArms_eq u fun r => r.id == id
  unfold cancelEffect
  split
  · rw [left]
    rfl
  · split
    · simp only
      rw [left]
      rfl
    · rfl

/-- The answer to a CANCEL TRIGGER, and what it leaves. -/
theorem takeCancel_eq (u : State) (id : Byte) :
    u.takeCancel id = ((((u.setTap { u.tap with response := (u.cancelResult id).byte :: [] }).setArms (u.takeCancel id).arms).setCapture
      { u.capture with filters := (u.takeCancel id).capture.filters }).setAccess (u.takeCancel id).access) ∧
      Reported u (u.takeCancel id) := by
  rw [takeCancel, refreshTx_eq, cancelEffect_eq]
  exact ⟨rfl, rfl⟩

end CancelTrigger

end State

/-- Settles O49. -/
theorem cancelTriggerWithdrawsTheArm : Obligations.CancelTriggerWithdrawsTheArm := by
  intro s id hheld hstate hcmd hparams
  let u := s.atTakePoint .cancelTrigger [id]
  have hexec : exec (.cancelTrigger id) s = .next (u.takePoint .cancelTrigger [id]) :=
    next_parameterTakePoint hheld hstate hcmd hparams rfl id
  by_cases hunset : s.agreement.state = .unset
  · refine ⟨_, hexec, ?_⟩
    rw [takePoint_refused (u := u) (tapTest_notReady (by decide)
      (tapReady_of_unset hunset (by decide) (by decide) (.inl (by decide)))) (by decide)]
    exact ⟨rfl, fun _ => ⟨rfl, rfl⟩, fun h => absurd hunset h⟩
  have hpoint : u.takePoint .cancelTrigger [id] = u.takeCancel id :=
    takePoint_accepted (tapTest_accepted (by decide) (tapReady_of_set hunset) rfl)
  rw [hpoint] at hexec
  obtain ⟨hframe, hreported⟩ := takeCancel_eq u id
  refine ⟨_, hexec, congrArg (fun t : State => t.tap.state) hframe, fun h => absurd h hunset, fun _ => ⟨?_, hreported,
    (congrArg (fun t : State => t.capture.outbox) hframe :), (congrArg (fun t : State => t.capture.inFlight) hframe :), ?_, ?_, ?_⟩⟩
  · exact hframe.trans (by rw [hframe]; rfl)
  · intro before r after hids hsplit hid heff hcarried
    have hunsent : u.cancelsUnsent id = true := cancelsUnsent_iff.2 ⟨⟨r, by simp [u, atTakePoint, hsplit], hid, heff⟩, hcarried⟩
    obtain ⟨harms, hreleased⟩ := removeArms_one (s := u) (p := fun x => x.id == id) hids.1 hsplit fun x _ => by simp [hid]
    rw [takeCancel_unsent hunsent, refreshTx_eq]
    exact ⟨harms, hreleased, rfl⟩
  · intro hids hcancels
    have hhistory : ((u.historyOf u.config.id).map (·.id)).Nodup := hids.2.2 _
    have hunsent : u.cancelsUnsent id = false := by
      rw [Bool.eq_false_iff, ne_eq, cancelsUnsent_iff]
      rintro ⟨⟨x, hx, hxid, hxeff⟩, hcarried⟩
      rcases hcancels with ⟨r, hr, hrid, hreff⟩ | hcarries | ⟨hnone, -⟩
      · rw [eq_of_id_eq hids.1 hx hr (hxid.trans hrid.symm), hreff] at hxeff
        exact absurd hxeff (by decide)
      · exact hcarried hcarries
      · exact hnone x hx hxid
    have hsent : u.cancelsSent id = true := by
      rw [cancelsSent_iff hhistory]
      rcases hcancels with ⟨r, hr, hrid, -⟩ | hcarries | ⟨-, haccepted⟩
      · exact .inl ⟨r, hr, hrid⟩
      · exact .inr (.inl hcarries)
      · exact .inr (.inr haccepted)
    refine ⟨fun hqueued => ?_, fun hfree hcarries => ?_⟩
    · rw [takeCancel_queued hunsent hsent (cancelQueued_iff.2 hqueued), refreshTx_eq]
      exact ⟨rfl, rfl, rfl⟩
    have hqueued : u.cancelQueued id = false := by
      rw [Bool.eq_false_iff, ne_eq, cancelQueued_iff]
      exact not_or.2 ⟨fun ⟨c, hc, hcid⟩ => hfree c hc hcid, hcarries⟩
    refine ⟨fun hfull => ?_, fun hroom => ?_⟩
    · rw [takeCancel_full hunsent hsent hqueued hfull, refreshTx_eq]
      exact ⟨rfl, rfl, rfl⟩
    rw [takeCancel_joins hunsent hsent hqueued hroom, refreshTx_eq]
    refine ⟨rfl, fun before r after hsplit hid => ?_, fun hnone => ?_⟩
    · obtain ⟨harms, hreleased⟩ := removeArms_one (s := u) (p := fun x => x.id == id) hids.1 hsplit fun x _ => by simp [hid]
      exact ⟨congrArg (fun a : Arms => { a with cancels := a.cancels ++ [(⟨id, 0, none⟩ : CancelRecord)] }) harms, hreleased⟩
    · have hkeeps : (u.removeArms fun r => r.id == id) = u := removeArms_none fun x hx => by simpa using hnone x hx
      rw [queueCancel, hkeeps]
      exact ⟨rfl, rfl⟩
  · intro hnone hcarried haccepted
    have hunsent : u.cancelsUnsent id = false := by
      rw [Bool.eq_false_iff, ne_eq, cancelsUnsent_iff]
      exact fun ⟨⟨x, hx, hxid, _⟩, _⟩ => hnone x hx hxid
    have hsent : u.cancelsSent id = false := by
      rw [cancelsSent, Bool.or_eq_false_iff, Bool.or_eq_false_iff]
      refine ⟨⟨?_, ?_⟩, ?_⟩
      · exact List.any_eq_false.2 fun x hx => by simpa using hnone x hx
      · exact Bool.eq_false_iff.2 fun h => hcarried (carriesArm_iff.1 h)
      · refine Bool.eq_false_iff.2 fun h => ?_
        obtain ⟨e, he, hid, tag, action, hstatus⟩ := exists_of_ownAccepted h
        exact haccepted e he hid tag action hstatus
    rw [takeCancel_unknown hunsent hsent, refreshTx_eq]
    exact ⟨rfl, rfl, rfl⟩

/-! ### The ends of a transaction and its other bytes (R154) -/

namespace State

/-- An OFFERED gap of a read that is aborted becomes PENDING (R110, R113). -/
theorem abortRead_eq (s : State) : s.abortRead = s.setStore { s.store with
    gap := if (s.tap.eventRead = .head ∨ s.tap.eventRead = .empty) ∧ s.store.gap = .offered then .pending else s.store.gap } := by
  have hgap : gapAborted s.store.gap = if s.store.gap = .offered then .pending else s.store.gap := by
    cases s.store.gap <;> rfl
  unfold abortRead
  split
  next h => rw [hgap]; simp [h]
  next h => rw [hgap]; simp [h]
  next h1 h2 =>
    rw [if_neg fun h => h.1.elim h1 h2]
    rfl

end State

/-- Settles O44. -/
theorem scsFramesTheTransaction : Obligations.ScsFramesTheTransaction := by
  intro s hheld
  refine ⟨fun hidle => ?_, fun hidle hrestart => ?_⟩
  · refine ⟨_, (next_unlessHeld hheld _).trans (congrArg _ (if_pos hidle)), rfl, rfl, rfl, rfl, rfl, rfl, rfl⟩
  · have hrestart' : ¬(inPeriod s).tap.restartTaken = true := by simp [hrestart]
    have hrise : (inPeriod s).scsRise = (if s.tap.state = .response then (inPeriod s).abortRead else inPeriod s).idleTap :=
      (if_neg hidle).trans (if_neg hrestart')
    refine ⟨_, (next_unlessHeld hheld _).trans (congrArg _ hrise), ?_⟩
    by_cases hresponse : s.tap.state = .response
    · simp only [hresponse, if_true, true_and, abortRead_eq]
      exact ⟨rfl, rfl, rfl, rfl, rfl, rfl, rfl, rfl, rfl, rfl⟩
    · simp only [hresponse, if_false, false_and]
      exact ⟨rfl, rfl, rfl, rfl, rfl, rfl, rfl, rfl, rfl, rfl⟩

theorem length_recordBytes (r : EventRecord) (gap : Bool) : (recordBytes r gap).length = 13 := by
  unfold recordBytes
  split <;> simp [length_timeBytes]

theorem emptyRecordBytes_eq (gap : Gap) :
    emptyRecordBytes (gap == .pending) = List.replicate 12 0 ++ [if gap = .pending then 2 else 0] := by
  cases gap <;> rfl

namespace State

/-- The store as a readout begins: a PENDING gap becomes OFFERED (R111). -/
def offerGap (s : State) : State := s.setStore { s.store with gap := if s.store.gap = .pending then .offered else s.store.gap }

theorem beginRead_offers (s : State) : s.beginRead = s.offerGap.setTap s.beginRead.tap := by
  unfold beginRead offerGap
  by_cases hgap : s.store.gap = .pending
  · simp only [hgap]
    split <;> rfl
  · simp only [beq_eq_false_iff_ne.2 hgap, if_neg hgap, Bool.false_eq_true, if_false]
    split <;> rfl

theorem beginRead_head {s : State} {r : EventRecord} {rest : List EventRecord} (h : s.store.lane = r :: rest) :
    s.beginRead.tap = { s.tap with response := 0 :: recordBytes r (s.store.gap == .pending), eventRead := .head } := by
  unfold beginRead
  rw [h]
  rfl

theorem beginRead_empty {s : State} (h : s.store.lane = []) :
    s.beginRead.tap = { s.tap with response := 0 :: emptyRecordBytes (s.store.gap == .pending), eventRead := .empty } := by
  unfold beginRead
  rw [h]
  rfl

end State

/-- Settles O50. -/
theorem readEventGivesTheHeadOfTheLane : Obligations.ReadEventGivesTheHeadOfTheLane := by
  intro s hheld hstate hread
  have hbyte : exec .readEventResponseBegin s = .next ((inPeriod s).beginRead.moveTap .response 0) := by
    refine (next_unlessHeld hheld _).trans (congrArg _ ?_)
    simp [byteCompleted, turnaroundByte, hstate, hread]
  rw [beginRead_offers] at hbyte
  refine ⟨_, hbyte, rfl, rfl, ?_, rfl, fun r rest hlane => ?_, fun hlane => ?_⟩
  · cases hlane : s.store.lane with
    | nil =>
      refine (congrArg (fun x : Tap => x.response.length) (beginRead_empty (s := inPeriod s) hlane)).trans ?_
      simp [emptyRecordBytes]
    | cons r rest =>
      refine (congrArg (fun x : Tap => x.response.length) (beginRead_head (s := inPeriod s) hlane)).trans ?_
      simp [length_recordBytes]
  · have htap := beginRead_head (s := inPeriod s) hlane
    exact ⟨congrArg Tap.eventRead htap, congrArg Tap.response htap⟩
  · have htap := beginRead_empty (s := inPeriod s) hlane
    refine ⟨congrArg Tap.eventRead htap, (congrArg Tap.response htap).trans ?_⟩
    rw [emptyRecordBytes_eq]
    rfl

namespace State

theorem completeRead_head {s : State} (h : s.tap.eventRead = .head) : s.completeRead = s.setStore { s.store with
    lane := s.store.lane.drop 1, gap := if s.store.gap = .offered then .clear else s.store.gap } := by
  simp only [completeRead, h]
  cases s.store.gap <;> rfl

theorem completeRead_empty {s : State} (h : s.tap.eventRead = .empty) : s.completeRead = s.setStore { s.store with
    gap := if s.store.gap = .offered then .clear else s.store.gap } := by
  simp only [completeRead, h]
  cases s.store.gap <;> rfl

theorem completeRead_store (s : State) : s.completeRead = s.setStore s.completeRead.store := by
  unfold completeRead
  split <;> rfl

theorem completeTransaction_status {s : State} (h : s.tap.command = some .readStatus) :
    s.completeTransaction = s.setTap { s.tap with latch := if s.tap.setSinceTake = false then false else s.tap.latch } := by
  have hstatus : s.completeTransaction = if s.tap.setSinceTake then s else s.setTap { s.tap with latch := false } := by
    unfold completeTransaction
    split
    · rfl
    next hevent => exact absurd (h.symm.trans hevent) (by decide)
    next hnot _ => exact absurd h hnot
  by_cases hset : s.tap.setSinceTake = true
  · rw [hstatus, if_pos hset, if_neg (by simp [hset])]
    rfl
  · rw [hstatus, if_neg hset, if_pos (by simpa using hset)]

theorem completeTransaction_event {s : State} (h : s.tap.command = some .readEvent) : s.completeTransaction = s.completeRead := by
  simp [completeTransaction, h]

theorem completeTransaction_other {s : State} (h1 : s.tap.command ≠ some .readStatus) (h2 : s.tap.command ≠ some .readEvent) :
    s.completeTransaction = s := by
  unfold completeTransaction
  split
  · contradiction
  · contradiction
  · rfl

end State

/-- Settles O51. -/
theorem completeTransactionHasItsEffect : Obligations.CompleteTransactionHasItsEffect := by
  intro s b hheld hstate hresponse
  let u := (inPeriod s).setTap { s.tap with response := [] }
  have hbyte : exec .transactionDone s = .next (u.completeTransaction.moveTap .done b) := by
    refine (next_unlessHeld hheld _).trans (congrArg _ ?_)
    simp [byteCompleted, responseByte, hstate, hresponse, u]
  refine ⟨_, hbyte, ?_⟩
  by_cases hstatus : s.tap.command = some .readStatus
  · rw [completeTransaction_status (s := u) hstatus]
    refine ⟨rfl, rfl, rfl, rfl, rfl, ?_, fun _ => rfl, fun h => ?_, fun h => ?_⟩
    · simp only [hstatus, true_and]
      rfl
    all_goals exact absurd (hstatus.symm.trans h) (by decide)
  by_cases hevent : s.tap.command = some .readEvent
  · rw [completeTransaction_event (s := u) hevent]
    refine ⟨?_, ?_, ?_, ?_, ?_, ?_, fun h => absurd hevent h, fun _ hread => ?_, fun _ hread => ?_⟩
    case refine_7 => rw [completeRead_head (s := u) hread]; rfl
    case refine_8 => rw [completeRead_empty (s := u) hread]; rfl
    case refine_6 =>
      rw [completeRead_store, if_neg fun h => hstatus h.1]
      rfl
    all_goals rw [completeRead_store]; rfl
  · rw [completeTransaction_other (s := u) hstatus hevent]
    refine ⟨rfl, rfl, rfl, rfl, rfl, ?_, fun _ => rfl, fun h => absurd h hevent, fun h => absurd h hevent⟩
    rw [if_neg fun h => hstatus h.1]
    rfl

/-- Settles O52. -/
theorem tapBytesMoveTheTransaction : Obligations.TapBytesMoveTheTransaction := by
  intro s b hheld
  refine ⟨_, next_unlessHeld hheld _, fun hidle => ?_, fun hstate hb => ?_, fun hstate hcmd hlength => ?_, fun hstate hread => ?_,
    fun first second rest hstate hresponse => ?_, fun hdone => ?_⟩
  · simp [byteCompleted, hidle]
  · have hparams : (tapCommandOf b).paramCount ≠ 0 := by
      simp only [List.mem_cons, List.not_mem_nil, or_false] at hb
      rcases hb with rfl | rfl | rfl | rfl | rfl | rfl <;> decide
    simp [byteCompleted, commandByte, hstate, hparams, moveTap]
  · have hmore : ¬TapCommand.postTrigger.paramCount ≤ (s.tap.params ++ [b]).length := by
      simp only [TapCommand.paramCount, List.length_append, List.length_singleton]
      omega
    simp only [byteCompleted, parameterByte, setLateHandling_tap, hstate, hcmd, hmore, if_false]
    simp [moveTap]
  · simp [byteCompleted, turnaroundByte, hstate, hread, moveTap]
  · simp [byteCompleted, responseByte, hstate, hresponse, moveTap]
  · simp [byteCompleted, hdone, moveTap]

end Sys2Proof.Machine

/-! The restart at the rise of SCS (R165), and the Loader's reads and the end of a load (chapter 10). -/

namespace Sys2Proof.Machine

set_option Elab.async false

open Safety

namespace State

/-! ### A restart -/

theorem orphanEngine_quash {e : Engine} (h : e.course = .quash) : orphanEngine e = { e with orphan := true } := by
  simp [orphanEngine, h]

theorem orphanEngine_shut {e : Engine} (h : e.course ≠ .quash) (hshut : e.bytes.length < e.index) :
    orphanEngine e = { e with course := .frame, orphan := true } := by
  simp [orphanEngine, Engine.atShut, h, hshut]

theorem orphanEngine_symbol {e : Engine} (h : e.course ≠ .quash) (hsymbol : e.index ≤ e.bytes.length) :
    orphanEngine e = { e with course := .abandon, orphan := true } := by
  simp [orphanEngine, Engine.atShut, h, Nat.not_lt.2 hsymbol]

/-- The settling list joins the lane flagged STEPPED, and the RESTART note follows it where there is room (R116). -/
theorem restartStore_eq (s : State) : s.restartStore =
    { settling := []
      lane := s.store.lane ++ s.store.settling.map (fun r => { r with stepped := true }) ++
        (if s.store.settling.length + s.store.lane.length < 128 then [s.restartNote] else [])
      mark := none
      gap := if s.store.settling.length + s.store.lane.length < 128 then s.store.gap else .pending } := by
  have htotal : s.store.flush.total = s.store.settling.length + s.store.lane.length := flush_total s.store
  unfold restartStore
  simp only [htotal, Config.storeCapacity]
  by_cases hroom : s.store.settling.length + s.store.lane.length < 128
  · rw [if_neg (Nat.not_le.2 hroom), if_pos hroom, if_pos hroom]
    rfl
  · rw [if_pos (Nat.not_lt.1 hroom), if_neg hroom, if_neg hroom, List.append_nil]
    rfl

theorem restartId_of_fault {s : State} (h : s.loader.state = .fault) : 1 ≤ s.restartId.toNat ∧ s.restartId.toNat ≤ 24 := by
  rw [restartId, if_pos h, BitVec.toNat_ofNat]
  omega

theorem restartId_of_not_fault {s : State} (h : s.loader.state ≠ .fault) : s.restartId = s.config.id := if_neg h

theorem scsRise_of_restart {s : State} (hstate : s.tap.state ≠ .idle) (hrestart : s.tap.restartTaken = true)
    (hread : s.tap.eventRead = .none) : s.scsRise = s.restart := by
  have habort : s.abortRead = s := by simp [abortRead, hread]
  simp [scsRise, hstate, hrestart, habort]

end State

open State

/-- Settles O6. -/
theorem restartTakesEffectAsScsRises : Obligations.RestartTakesEffectAsScsRises := by
  intro s hheld hstate hrestart hread
  refine ⟨(inPeriod s).restart, (next_unlessHeld hheld _).trans (congrArg _ (scsRise_of_restart (s := inPeriod s) hstate hrestart hread)),
    rfl, rfl, rfl, rfl, rfl, rfl, rfl, rfl, rfl, rfl, rfl, rfl, rfl, rfl, rfl, rfl, fun hnone => ?_, fun e he hcourse hindex => ?_,
    fun e he hcourse hindex => ?_, fun e he hcourse => ?_, rfl, rfl, rfl, rfl, hheld,
    s.restartId, restartId_of_not_fault, restartId_of_fault, restartStore_eq (inPeriod s)⟩
  · exact congrArg (Option.map orphanEngine) hnone
  · exact (congrArg (Option.map orphanEngine) he).trans (congrArg some (orphanEngine_symbol hcourse hindex))
  · exact (congrArg (Option.map orphanEngine) he).trans (congrArg some (orphanEngine_shut hcourse hindex))
  · exact (congrArg (Option.map orphanEngine) he).trans (congrArg some (orphanEngine_quash hcourse))

/-! ### The reads of the configuration memory (R169) -/

/-- The read of the memory at an offset below 256. -/
theorem unansweredRead_of_cause (offset : Byte) (count : Nat) (cause : Unanswered) :
    UnansweredRead offset (BusRead.unanswered ⟨Config.memoryAddress, 0, offset, count⟩ cause) := by
  cases cause with
  | heldLow => exact .inl rfl
  | unacknowledged clocks place =>
    refine .inr ⟨clocks.val, Nat.le_of_lt_succ clocks.isLt, ?_⟩
    cases place <;> simp [BusRead.unanswered, recovery, BusRead.addressed]

theorem dataRun_eq (bytes : List Byte) : dataRun bytes =
    bytes.dropLast.map (fun b => BusEvent.data b true) ++ (bytes.getLast?.map fun b => BusEvent.data b false).toList := by
  induction bytes with
  | nil => rfl
  | cons b bs ih =>
    cases bs with
    | nil => rfl
    | cons c cs =>
      have hrun : dataRun (b :: c :: cs) = .data b true :: dataRun (c :: cs) := rfl
      rw [hrun, ih]
      rfl

theorem answeredRead_of_clocks (offset : Byte) (count : Nat) (clocks : Fin 10) (bytes : List Byte) :
    AnsweredRead offset bytes (BusRead.answered ⟨Config.memoryAddress, 0, offset, count⟩ clocks bytes) := by
  refine ⟨clocks.val, Nat.le_of_lt_succ clocks.isLt, ?_⟩
  simp [BusRead.answered, recovery, BusRead.addressed, busOpening, dataRun_eq]

/-- The read in progress begins at the offset, with some number of bytes (R169, R177). -/
theorem bus_of_read {read : LoaderRead} {offset : Byte} (h : read = .head ∧ offset = 0 ∨ (∃ head, read = .body head) ∧ offset = 4) :
    ∃ count, read.bus = some ⟨Config.memoryAddress, 0, offset, count⟩ := by
  rcases h with ⟨rfl, rfl⟩ | ⟨⟨head, rfl⟩, rfl⟩ <;> exact ⟨_, rfl⟩

namespace State

theorem readUnanswered_of_bus {s : State} {r : BusRead} (h : s.loader.read.bus = some r) : s.readUnanswered =
    if s.loader.retry < 3 then
      (s.endRead (r.unanswered (Config.unansweredCause s.freeIndex))).setLoader
        { (s.endRead (r.unanswered (Config.unansweredCause s.freeIndex))).loader with retry := s.loader.retry + 1 }
    else (s.endRead (r.unanswered (Config.unansweredCause s.freeIndex))).loadFault .noMemory := by
  simp [readUnanswered, h]

/-- The Loader's request of the head read (R169). -/
def headRead : BusRead := ⟨Config.memoryAddress, 0, 0, 4⟩

theorem headDone_of_head {s : State} (h : s.loader.read = .head) (head : List Byte) : s.headDone head =
    if headFault head = .none then
      (s.endRead (headRead.answered (Config.recoveryClocks s.freeIndex) head)).setLoader
        { (s.endRead (headRead.answered (Config.recoveryClocks s.freeIndex) head)).loader with retry := 0, read := .body head }
    else (s.endRead (headRead.answered (Config.recoveryClocks s.freeIndex) head)).loadFault (headFault head) := by
  have hbus : s.loader.read.bus = some headRead := by rw [h]; rfl
  unfold headDone
  rw [hbus, h]
  cases headFault head <;> rfl

end State

theorem numAt_head (b0 b1 b2 b3 : Byte) :
    numAt [b0, b1, b2, b3] 0 2 = b0.toNat + 256 * b1.toNat ∧ headLength [b0, b1, b2, b3] = b2.toNat + 256 * b3.toNat :=
  ⟨rfl, rfl⟩

theorem lengthValid_iff (n : Nat) : lengthValid n = true ↔ ∃ k : Nat, k ≤ 48 ∧ n = 139 + 6 * k := by
  simp only [lengthValid, Bool.and_eq_true, decide_eq_true_eq, beq_iff_eq]
  constructor
  · intro h
    exact ⟨(n - 139) / 6, by omega, by omega⟩
  · rintro ⟨k, hk, rfl⟩
    omega

section HeadFault

variable {head : List Byte}

theorem headFault_marker (h : numAt head 0 2 ≠ 42517) : headFault head = .badMarker := if_pos h

theorem headFault_length (h : numAt head 0 2 = 42517) (hlength : lengthValid (headLength head) = false) :
    headFault head = .badLength := by
  simp [headFault, Config.marker, h, hlength]

theorem headFault_none (h : numAt head 0 2 = 42517) (hlength : lengthValid (headLength head) = true) :
    headFault head = .none := by
  simp [headFault, Config.marker, h, hlength]

end HeadFault

/-- Settles O53. -/
theorem headReadIsRetriedAndTested : Obligations.HeadReadIsRetriedAndTested := by
  intro s hheld
  refine ⟨fun offset hread => ?_, fun b0 b1 b2 b3 hread => ?_⟩
  · obtain ⟨count, hbus⟩ := bus_of_read hread
    refine ⟨_, unansweredRead_of_cause offset count (Config.unansweredCause s.freeIndex), fun hretry => ?_, fun hretry => ?_⟩
    · refine (next_unlessHeld hheld _).trans (congrArg _ ((readUnanswered_of_bus (s := inPeriod s) hbus).trans ?_))
      exact if_pos hretry
    · refine (next_unlessHeld hheld _).trans (congrArg _ ((readUnanswered_of_bus (s := inPeriod s) hbus).trans ?_))
      exact if_neg (Nat.not_lt.2 hretry)
  · have hdone := headDone_of_head (s := inPeriod s) hread [b0, b1, b2, b3]
    obtain ⟨hmarker, hlength⟩ := numAt_head b0 b1 b2 b3
    refine ⟨_, answeredRead_of_clocks 0 4 (Config.recoveryClocks s.freeIndex) [b0, b1, b2, b3], fun hbad => ?_, fun hgood hbad => ?_,
      fun hgood hvalid => ?_⟩
    · rw [headFault_marker (hmarker ▸ hbad)] at hdone
      exact (next_unlessHeld hheld _).trans (congrArg _ hdone)
    · have hinvalid : lengthValid (headLength [b0, b1, b2, b3]) = false := by
        rw [Bool.eq_false_iff, ne_eq, lengthValid_iff]
        exact fun ⟨k, hk, h⟩ => hbad k hk (hlength ▸ h)
      rw [headFault_length (hmarker ▸ hgood) hinvalid] at hdone
      exact (next_unlessHeld hheld _).trans (congrArg _ hdone)
    · have hvalid' : lengthValid (headLength [b0, b1, b2, b3]) = true := by
        rw [lengthValid_iff, hlength]
        exact hvalid
      rw [headFault_none (hmarker ▸ hgood) hvalid'] at hdone
      exact (next_unlessHeld hheld _).trans (congrArg _ hdone)

namespace State

/-! ### The samples of a reference period -/

theorem sampleInput_of_not_canSample {s : State} {i : Fin 8} (h : s.canSample i = false) : s.sampleInput i = s :=
  if_neg (by simp [h])

/-- A sample of one input leaves what the sample of another finds. -/
theorem sampleInput_other (s : State) {i j : Fin 8} (h : j ≠ i) :
    (s.sampleInput i).canSample j = s.canSample j ∧ (s.sampleInput i).sampledFilter j = s.sampledFilter j ∧
      (s.sampleInput i).capture.filters[j] = s.capture.filters[j] := by
  have hval : i.val ≠ j.val := fun hij => h (Fin.ext hij.symm)
  by_cases hcan : s.canSample i = true
  · rw [sampleInput_of_canSample hcan]
    have hfilter : ((s.setFilter i (s.sampledFilter i)).setSampled (s.sampled ||| BitVec.twoPow 8 i.val)).capture.filters[j] =
        s.capture.filters[j] := Vector.getElem_set_ne i.isLt j.isLt hval
    have hbit : (s.sampled ||| BitVec.twoPow 8 i.val).getLsbD j.val = s.sampled.getLsbD j.val := by
      simp [Ne.symm hval]
    refine ⟨?_, congrArg (fun f : InputFilter => f.sample (s.inPins.getLsbD j.val) s.now) hfilter, hfilter⟩
    simp only [canSample, setSampled_sampled, hbit]
    rfl
  · rw [sampleInput_of_not_canSample (by simpa using hcan)]
    exact ⟨rfl, rfl, rfl⟩

theorem sampleInput_same (s : State) (i : Fin 8) :
    (s.sampleInput i).capture.filters[i] = if s.canSample i then s.sampledFilter i else s.capture.filters[i] := by
  by_cases hcan : s.canSample i = true
  · rw [sampleInput_of_canSample hcan, if_pos hcan]
    exact Vector.getElem_set_self _
  · rw [sampleInput_of_not_canSample (by simpa using hcan), if_neg hcan]

theorem foldl_sampleInput_filter (l : List (Fin 8)) (hl : l.Nodup) (s : State) (j : Fin 8) :
    (l.foldl sampleInput s).capture.filters[j] =
      if j ∈ l ∧ s.canSample j = true then s.sampledFilter j else s.capture.filters[j] := by
  induction l generalizing s with
  | nil => simp
  | cons i l ih =>
    obtain ⟨hi, hl⟩ := List.nodup_cons.1 hl
    rw [List.foldl_cons, ih hl]
    by_cases hij : j = i
    · subst hij
      rw [if_neg fun h => hi h.1, sampleInput_same]
      simp
    · obtain ⟨hcan, hfilter, hsame⟩ := sampleInput_other s hij
      rw [hcan, hfilter, hsame]
      simp [hij]

/-- The samples of a period, input by input. -/
theorem sampleInputs_filter (s : State) (j : Fin 8) :
    s.sampleInputs.capture.filters[j] = if s.canSample j then s.sampledFilter j else s.capture.filters[j] := by
  rw [sampleInputs, foldl_sampleInput_filter _ (List.nodup_finRange 8)]
  simp

/-! ### The end of a load -/

/-- A record taken makes the store one record longer at most. -/
theorem takeRecord_total_le (s : State) (r : EventRecord) : (s.takeRecord r).store.total ≤ s.store.total + 1 := by
  unfold takeRecord
  split
  · exact Nat.le_succ _
  · rw [setStore_store]
    unfold EventStore.take
    repeat' split
    · exact Nat.le_succ _
    · simp only [EventStore.total, List.length_append, List.length_singleton]
      omega
    · rw [look_total]
      simp only [EventStore.total, length_insertByKey]
      omega

theorem ownNote_total_le (s : State) (code : NoteCode) (detail tag : Byte) :
    (s.ownNote code detail tag).store.total ≤ s.store.total + 1 := takeRecord_total_le s _

/-- The body read asks for the bytes after the head (R169). -/
def bodyRead (head : List Byte) : BusRead := ⟨Config.memoryAddress, 0, 4, bodyCount head⟩

theorem bodyDone_of_body {s : State} {head body : List Byte} (h : s.loader.read = .body head)
    (hlength : body.length = bodyCount head) : s.bodyDone body =
      if imageFault (head ++ body) = .none then
        (s.endRead ((bodyRead head).answered (Config.recoveryClocks s.freeIndex) body)).loadGood (configOf (head ++ body))
      else (s.endRead ((bodyRead head).answered (Config.recoveryClocks s.freeIndex) body)).loadFault (imageFault (head ++ body)) := by
  have hbus : s.loader.read.bus = some (bodyRead head) := by rw [h]; rfl
  unfold bodyDone
  rw [hbus, h]
  simp only [if_pos hlength]
  cases imageFault (head ++ body) <;> rfl

/-- The station at the end of a good load, before the first samples (R175). -/
def started (s : State) (c : StationConfig) : State :=
  ((s.setLoader ⟨.loaded, .none, 0, .none, s.loader.bus⟩).setConfig c).startClock.safeOutputs.startLine.enterListening

theorem loadGood_eq (s : State) (c : StationConfig) : s.loadGood c = (s.started c).sampleInputs := rfl

/-- The station enters LISTENING, with its note and the latch (R16, R17). -/
theorem enterListening_eq (s : State) : s.enterListening =
    ((s.setAgreement { s.agreement with
      state := .listening, listenCount := 6, founder := none, adjustCount := 0, driftCount := 0, clampCount := 0, progress := 0
      lonelyCount := 0 }).ownNote .agreement (BitVec.ofNat 8 1) 0).setLatch := by
  simp [enterListening, enterAgreement, AgreementState.code]

/-- The blocks at the values with which the station starts, before its note (R14, R17, R79, R123, R140, R175). -/
def awake (s : State) (c : StationConfig) : State :=
  ((((((s.setLoader ⟨.loaded, .none, 0, .none, s.loader.bus⟩).setConfig c).setClock { LineClock.reset with running := true }).setOutputs
    (Vector.ofFn fun i => Output.safe c.outputs[i])).setFramer
      { s.framer with receiver := .skipping, symbol := .none, silence := 0, quietFound := false }).setAccess
        { s.access with monitor := .gap, gapCount := 0 }).setAgreement { s.agreement with
          state := .listening, listenCount := 6, founder := none, adjustCount := 0, driftCount := 0, clampCount := 0, progress := 0
          lonelyCount := 0 }

theorem started_eq (s : State) (c : StationConfig) :
    s.started c = ((s.awake c).ownNote .agreement (BitVec.ofNat 8 1) 0).setLatch := by
  rw [started, enterListening_eq]
  rfl

section Started

variable (u : State) (c : StationConfig)

/-- The note and the latch come over the values of the blocks. -/
theorem started_frame : Frame [.store, .latch] (u.awake c) (u.started c) := by
  rw [started_eq]
  exact ((ownNote_frame _ _ _ _).mono).trans ((setLatch_frame _).mono)

theorem loadGood_frame : Frame [.store, .latch, .filters, .sampled] (u.awake c) (u.loadGood c) :=
  (started_frame u c).mono.trans ((sampleInputs_frame _).mono)

theorem loadGood_config : (u.loadGood c).config = c := (loadGood_frame u c).same .config

theorem loadGood_tap : (u.loadGood c).tap = { u.tap with latch := true, setSinceTake := true } := by
  refine (sampleInputs_frame (u.started c)).tap.trans ?_
  rw [started_eq]
  exact congrArg (fun x : Tap => { x with latch := true, setSinceTake := true })
    (ownNote_frame (u.awake c) .agreement (BitVec.ofNat 8 1) 0).tap

/-- Every output is SAFE, at its safe level (R79). -/
theorem loadGood_output (i : Fin 8) : (u.loadGood c).outputs[i] = ⟨.safe, (c.outputs[i]).safeActive, none, none⟩ := by
  have houtputs : (u.loadGood c).outputs = (u.awake c).outputs := (loadGood_frame u c).same .outputs
  rw [houtputs]
  simp [awake, Output.safe]

/-- The first samples give the inputs in use their stable levels (R90). -/
theorem loadGood_filter (i : Fin 8) (hsampled : u.sampled = 0) (hselection : (c.inputs[i]).selection ≠ .off)
    (hnone : (u.capture.filters[i]).stable = none) : (u.loadGood c).capture.filters[i] =
      { u.capture.filters[i] with stable := some (u.inPins.getLsbD i.val), condition := .stable } := by
  have hframe := started_frame u c
  have hclock : (u.started c).clock = (u.awake c).clock := hframe.same .clock
  have hcapture : (u.started c).capture = u.capture := hframe.capture
  have hpins : (u.started c).inPins = u.inPins := hframe.same .inPins
  have hsampled' : (u.started c).sampled = u.sampled := hframe.same .sampled
  have hconfig : (u.started c).config = c := hframe.same .config
  have hcan : (u.started c).canSample i = true := by
    rw [canSample, hclock, hsampled', hsampled, hconfig]
    simpa [awake] using hselection
  rw [loadGood_eq, sampleInputs_filter, if_pos hcan, sampledFilter, hcapture, hpins]
  exact InputFilter.sample_first _ hnone

/-- The start makes one note. -/
theorem loadGood_total_le : (u.loadGood c).store.total ≤ u.store.total + 1 := by
  have hsampled : (u.loadGood c).store = (u.started c).store := (sampleInputs_frame _).same .store
  have hnoted : (u.started c).store = ((u.awake c).ownNote .agreement (BitVec.ofNat 8 1) 0).store := by
    rw [started_eq]
    rfl
  have hbefore : (u.awake c).store = u.store := rfl
  rw [hsampled, hnoted, ← hbefore]
  exact ownNote_total_le _ _ _ _

end Started

end State

/-- Settles O54. -/
theorem bodyReadEndsTheLoad : Obligations.BodyReadEndsTheLoad := by
  intro s head body hheld hread hlength htx
  have hcount : body.length = bodyCount head := by
    rw [bodyCount, headLength, ← hlength, Nat.add_sub_cancel]
  have hdone := bodyDone_of_body (s := inPeriod s) hread hcount
  refine ⟨_, answeredRead_of_clocks 4 (bodyCount head) (Config.recoveryClocks s.freeIndex) body, fun hfault => ?_, fun hgood => ?_⟩
  · rw [if_neg hfault] at hdone
    exact (next_unlessHeld hheld _).trans (congrArg _ hdone)
  · rw [if_pos hgood] at hdone
    generalize configOf (head ++ body) = c at hdone ⊢
    have hbefore : ∃ u : State, u = (inPeriod s).endRead ((bodyRead head).answered (Config.recoveryClocks s.freeIndex) body) :=
      ⟨_, rfl⟩
    obtain ⟨u, hu⟩ := hbefore
    have htap : u.tap = s.tap := by rw [hu]; rfl
    have hcapture : u.capture = s.capture := by rw [hu]; rfl
    have hpins : u.inPins = s.inPins := by rw [hu]; rfl
    have hsampled : u.sampled = s.sampled := by rw [hu]; rfl
    have hstore : u.store = s.store := by rw [hu]; rfl
    have hbus : u.loader.bus = s.loader.bus ++ (bodyRead head).answered (Config.recoveryClocks s.freeIndex) body := by rw [hu]; rfl
    have htx' : u.access.tx = .off := by rw [hu]; exact htx
    have hframe := loadGood_frame u c
    have hloader : (u.loadGood c).loader = ⟨.loaded, .none, 0, .none, u.loader.bus⟩ := hframe.same .loader
    have hagreement := hframe.agreement
    have hmonitor : _ ∧ _ := hframe.same .monitor
    have htransmitter : _ ∧ _ := hframe.same .tx
    have htotal := loadGood_total_le u c
    rw [hstore] at htotal
    refine ⟨u.loadGood c, (next_unlessHeld hheld _).trans (congrArg _ (hdone.trans (by rw [hu]; rfl))), hloader.trans (by rw [hbus]; rfl),
      loadGood_config u c, hframe.same .clock, congrArg Agreement.state hagreement, congrArg Agreement.founder hagreement,
      congrArg Agreement.listenCount hagreement, congrArg Agreement.adjustCount hagreement, congrArg Agreement.clampCount hagreement,
      congrArg Agreement.driftCount hagreement, fun i => ?_, hframe.same .receiver, hmonitor.1, hmonitor.2.1,
      htransmitter.1.trans htx', (loadGood_tap u c).trans (by rw [htap]), fun i hzero hselection hnone => ?_, ?_⟩
    · rw [loadGood_config]
      exact loadGood_output u c i
    · rw [loadGood_config] at hselection
      rw [loadGood_filter u c i (hsampled.trans hzero) hselection (by rwa [hcapture]), hpins]
      exact ⟨rfl, rfl⟩
    · rw [Nat.add_comm, Nat.add_comm s.store.lane.length]
      exact htotal

end Sys2Proof.Machine

/-! Frames as bytes (11.3): the bodies of sent frames give back their records, and pass a receiver's checks. -/

namespace Sys2Proof.Machine

set_option Elab.async false

open Safety

/-! ### Line times in bytes -/

/-- A phase within the round is carried as it is (R134). -/
theorem carriedTime_of_lt {len : Nat} {t : LineTime} (h : t.phase < len) : carriedTime len t.round.toNat t.phase = t := by
  have hdiv : ((0 : Nat) + (t.phase : Int)) / (len : Int) = 0 := Int.ediv_eq_zero_of_lt (by omega) (by omega)
  have hmod : ((0 : Nat) + (t.phase : Int)) % (len : Int) = t.phase := by
    rw [Int.emod_eq_of_lt (by omega) (by omega)]
    omega
  rw [carriedTime, timeAdd, hdiv, hmod]
  simp

theorem numAt_round (a b : Byte) (t : LineTime) (phase : Nat) :
    numAt (a :: b :: (leBytes 3 t.round.toNat ++ leBytes 3 phase)) 2 3 = t.round.toNat := by
  have hfield : fieldAt (a :: b :: (leBytes 3 t.round.toNat ++ leBytes 3 phase)) 2 3 = leBytes 3 t.round.toNat := rfl
  rw [numAt, hfield, leValue_leBytes]
  exact Nat.mod_eq_of_lt t.round.isLt

theorem numAt_phase (a b : Byte) (round phase : Nat) :
    numAt (a :: b :: (leBytes 3 round ++ leBytes 3 phase)) 5 3 = phase % 256 ^ 3 := by
  have hfield : fieldAt (a :: b :: (leBytes 3 round ++ leBytes 3 phase)) 5 3 = leBytes 3 phase := rfl
  rw [numAt, hfield, leValue_leBytes]

/-! ### Entries of 8 bytes -/

theorem length_armEntry (r : ArmRecord) : (armEntry r).length = 8 := rfl

theorem length_eventEntry (e : SharedEdge) : (eventEntry e).length = 8 := rfl

theorem entries8_flatMap {α : Type} {f : α → List Byte} (hf : ∀ x, (f x).length = 8) (l : List α) :
    entries8 l.length (l.flatMap f) = l.map f := by
  induction l with
  | nil => rfl
  | cons x l ih =>
    rw [List.length_cons, entries8, List.flatMap_cons, List.take_left' (hf x), List.drop_left' (hf x), ih, List.map_cons]

theorem length_flatMap_of_length_eq {α : Type} {f : α → List Byte} (hf : ∀ x, (f x).length = 8) (l : List α) :
    (l.flatMap f).length = 8 * l.length := by
  induction l with
  | nil => rfl
  | cons x l ih => rw [List.flatMap_cons, List.length_append, hf x, ih, List.length_cons]; omega

/-- The count byte that begins a body (11.3). -/
theorem toNat_count {n : Nat} (h : n ≤ 8) : (BitVec.ofNat 8 n).toNat = n := by
  rw [BitVec.toNat_ofNat]
  omega

/-! ### The records of an entry -/

theorem channelByte_fields (channel : Fin 8) (edge : Edge) (sure : Bool) :
    channelOf (channelByte channel edge sure) = channel ∧ edgeOf (channelByte channel edge sure) = edge ∧
      sureOf (channelByte channel edge sure) = sure := by
  revert channel
  cases edge <;> cases sure <;> decide

/-- The entry of an EVENT frame is read as the record it was made of (R178). -/
theorem eventEntry_read {len : Nat} {e : SharedEdge} (hlen : len ≤ 2097152) (h : e.stamp.phase < len) :
    (⟨channelOf (byteAt (eventEntry e) 0), edgeOf (byteAt (eventEntry e) 0), sureOf (byteAt (eventEntry e) 0),
      byteAt (eventEntry e) 1, carriedTime len (numAt (eventEntry e) 2 3) (numAt (eventEntry e) 5 3)⟩ : SharedEdge) = e := by
  obtain ⟨hchannel, hedge, hsure⟩ := channelByte_fields e.channel e.edge e.sure
  have hround : numAt (eventEntry e) 2 3 = e.stamp.round.toNat := numAt_round _ _ _ _
  have hphase : numAt (eventEntry e) 5 3 = e.stamp.phase := by
    rw [show numAt (eventEntry e) 5 3 = e.stamp.phase % 256 ^ 3 from numAt_phase _ _ _ _]
    omega
  rw [hround, hphase, carriedTime_of_lt h]
  show (⟨channelOf (channelByte e.channel e.edge e.sure), edgeOf (channelByte e.channel e.edge e.sure),
    sureOf (channelByte e.channel e.edge e.sure), e.tag, e.stamp⟩ : SharedEdge) = e
  rw [hchannel, hedge, hsure]

/-- The entry of an ARM frame is read as the arm it was made of (R178). -/
theorem armEntry_read {len : Nat} {r : ArmRecord} (hlen : len ≤ 2097152) (h : r.action.phase < len) :
    (⟨byteAt (armEntry r) 0, byteAt (armEntry r) 1,
      carriedTime len (numAt (armEntry r) 2 3) (numAt (armEntry r) 5 3 % 2 ^ 21)⟩ : ReceivedArm) = ⟨r.id, r.tag, r.action⟩ := by
  have hround : numAt (armEntry r) 2 3 = r.action.round.toNat := numAt_round _ _ _ _
  have hphase : numAt (armEntry r) 5 3 % 2 ^ 21 = r.action.phase := by
    rw [show numAt (armEntry r) 5 3 = r.action.phase % 2 ^ 21 % 256 ^ 3 from numAt_phase _ _ _ _]
    omega
  rw [hround, hphase, carriedTime_of_lt h]
  rfl

/-- Settles O55. -/
theorem frameBodiesGiveBackTheirRecords : Obligations.FrameBodiesGiveBackTheirRecords := by
  intro len _ hlen
  refine ⟨fun rs hcount hphase => ?_, fun es hcount hphase => ?_, fun rs hcount => ?_⟩
  · have hbody : entries8 (byteAt (armBody rs) 0).toNat ((armBody rs).drop 1) = rs.map armEntry := by
      rw [show byteAt (armBody rs) 0 = BitVec.ofNat 8 rs.length from rfl, toNat_count (by omega)]
      exact entries8_flatMap length_armEntry rs
    rw [armEntries, hbody, List.map_map]
    exact List.map_congr_left fun r hr => armEntry_read hlen (hphase r hr)
  · have hbody : entries8 (byteAt (eventBody es) 0).toNat ((eventBody es).drop 1) = es.map eventEntry := by
      rw [show byteAt (eventBody es) 0 = BitVec.ofNat 8 es.length from rfl, toNat_count (by omega)]
      exact entries8_flatMap length_eventEntry es
    rw [eventEntries, hbody, List.map_map]
    exact (List.map_congr_left fun e he => eventEntry_read hlen (hphase e he)).trans (List.map_id es)
  · rw [cancelIds, show byteAt (cancelBody rs) 0 = BitVec.ofNat 8 rs.length from rfl, toNat_count hcount]
    exact List.take_of_length_le (by simp [cancelBody])

/-- Settles O56. -/
theorem sentFramesPassTheReceiversChecks : Obligations.SentFramesPassTheReceiversChecks := by
  refine ⟨fun kind id body hlow hhigh hbody => ?_, fun state founder stamp hunset hlistening hlow hhigh => ?_,
    fun rs hlow hhigh htags => ?_, fun es hlow hhigh => ?_, fun rs hlow hhigh => ?_⟩
  · exact (State.frameOf_spec (rfl : FrameOf (frameBytes kind id body) kind.code id body) hbody hlow hhigh).1
  · have hfounder : validStationId founder = true := (Laws.Checks.validStationId_iff founder).2 ⟨hlow, hhigh⟩
    have hstate : (senderStateOf (BitVec.ofNat 8 state.code)).isSome = true := by
      cases state
      case unset => exact absurd rfl hunset
      case listening => exact absurd rfl hlistening
      all_goals rfl
    simp only [bodyWellFormed, Bool.and_eq_true]
    exact ⟨⟨by simp [timeBody, length_timeBytes], hstate⟩, hfounder⟩
  · have hcount : (byteAt (armBody rs) 0).toNat = rs.length := toNat_count (by omega)
    have hlength : (armBody rs).length = 1 + 8 * rs.length := by
      rw [armBody, List.length_cons, length_flatMap_of_length_eq length_armEntry, Nat.add_comm]
    simp only [bodyWellFormed, hcount, hlength, Bool.and_eq_true, decide_eq_true_eq, beq_self_eq_true, List.all_eq_true]
    refine ⟨⟨⟨⟨by omega, hlow⟩, hhigh⟩, trivial⟩, fun e he => ?_⟩
    rw [show (armBody rs).drop 1 = rs.flatMap armEntry from rfl, entries8_flatMap length_armEntry, List.mem_map] at he
    obtain ⟨r, hr, rfl⟩ := he
    exact bne_iff_ne.2 (htags r hr)
  · have hcount : (byteAt (eventBody es) 0).toNat = es.length := toNat_count (by omega)
    have hlength : (eventBody es).length = 1 + 8 * es.length := by
      rw [eventBody, List.length_cons, length_flatMap_of_length_eq length_eventEntry, Nat.add_comm]
    simp only [bodyWellFormed, hcount, hlength, Bool.and_eq_true, decide_eq_true_eq, beq_self_eq_true]
    exact ⟨⟨⟨by omega, hlow⟩, hhigh⟩, trivial⟩
  · have hcount : (byteAt (cancelBody rs) 0).toNat = rs.length := toNat_count hhigh
    have hlength : (cancelBody rs).length = 1 + rs.length := by
      rw [cancelBody, List.length_cons, List.length_map, Nat.add_comm]
    simp only [bodyWellFormed, hcount, hlength, Bool.and_eq_true, decide_eq_true_eq, beq_self_eq_true]
    exact ⟨⟨⟨by omega, hlow⟩, hhigh⟩, trivial⟩

end Sys2Proof.Machine

/-! The rules of the Event Store (chapter 6) and of the Schedule (chapter 4): insertion, looks and notes, and expiry with its notes. -/

namespace Sys2Proof.Machine

set_option Elab.async false

open Safety

theorem earlier_self (len : Nat) (t : LineTime) : earlier len t t = false := by simp [earlier, timeDiff_self]

/-! ### Insertion in order -/

theorem insertEntry_split (len : Nat) (e : ScheduleEntry) (l : List ScheduleEntry) : ∃ before after, l = before ++ after ∧
    insertEntry len e l = before ++ e :: after ∧ (∀ x ∈ before, later len x.due e.due = false) ∧
      ∀ x ∈ after.head?, later len x.due e.due = true := by
  induction l with
  | nil => exact ⟨[], [], rfl, rfl, by simp, by simp⟩
  | cons x l ih =>
    cases hlater : later len x.due e.due with
    | true => exact ⟨[], x :: l, rfl, if_pos hlater, by simp, by simpa using hlater⟩
    | false =>
      obtain ⟨before, after, hsplit, hinsert, hbefore, hafter⟩ := ih
      refine ⟨x :: before, after, by rw [hsplit, List.cons_append], ?_, ?_, hafter⟩
      · rw [insertEntry, if_neg (by simp [hlater]), hinsert, List.cons_append]
      · simpa [hlater] using hbefore

/-- An entry earlier than every other stands first. -/
theorem insertEntry_first {len : Nat} {e : ScheduleEntry} {l : List ScheduleEntry} (h : ∀ x ∈ l, later len x.due e.due = true) :
    insertEntry len e l = e :: l := by
  cases l with
  | nil => rfl
  | cons x l => exact if_pos (h x List.mem_cons_self)

theorem insertByKey_split (len : Nat) (now : LineTime) (r : EventRecord) (l : List EventRecord) : ∃ before after, l = before ++ after ∧
    insertByKey len now r l = before ++ r :: after ∧ (∀ x ∈ before, keyLater len now x r = false) ∧
      ∀ x ∈ after.head?, keyLater len now x r = true := by
  induction l with
  | nil => exact ⟨[], [], rfl, rfl, by simp, by simp⟩
  | cons x l ih =>
    cases hlater : keyLater len now x r with
    | true => exact ⟨[], x :: l, rfl, if_pos hlater, by simp, by simpa using hlater⟩
    | false =>
      obtain ⟨before, after, hsplit, hinsert, hbefore, hafter⟩ := ih
      refine ⟨x :: before, after, by rw [hsplit, List.cons_append], ?_, ?_, hafter⟩
      · rw [insertByKey, if_neg (by simp [hlater]), hinsert, List.cons_append]
      · simpa [hlater] using hbefore

/-! ### The Event Store -/

theorem mem_insertByKey {len : Nat} {now : LineTime} {r x : EventRecord} {l : List EventRecord} (h : x ∈ insertByKey len now r l) :
    x ∈ r :: l := by
  obtain ⟨before, after, rfl, hinsert, -, -⟩ := insertByKey_split len now r l
  rw [hinsert] at h
  simp only [List.mem_append, List.mem_cons] at h ⊢
  tauto

theorem settled_iff (len horizon : Nat) (now : LineTime) (r : EventRecord) :
    settled len horizon now r = true ↔ timeDiff len now r.stamp ≤ -((horizon * len : Nat) : Int) := by
  simp [settled]

theorem settled_eq_false {len horizon : Nat} {now : LineTime} {r : EventRecord}
    (h : -((horizon * len : Nat) : Int) < timeDiff len now r.stamp) : settled len horizon now r = false := by
  rw [Bool.eq_false_iff, ne_eq, settled_iff]
  omega

theorem ageMark_eq_some (len : Nat) (now : LineTime) (mark : Option LineTime) (m : LineTime) :
    ageMark len now mark = some m ↔ mark = some m ∧ -(8388607 * (len : Int)) < timeDiff len now m := by
  rw [ageMark, Option.filter_eq_some_iff, decide_eq_true_eq]

/-- A mark that has not reached its age stays (R105). -/
theorem ageMark_of_young {len : Nat} {now : LineTime} {mark : Option LineTime}
    (h : ∀ m, mark = some m → -(8388607 * (len : Int)) < timeDiff len now m) : ageMark len now mark = mark := by
  cases mark with
  | none => rfl
  | some m => exact (ageMark_eq_some len now _ m).2 ⟨rfl, h m rfl⟩

theorem markAfter_eq (mark : Option LineTime) (moved : List EventRecord) :
    markAfter mark moved = if moved = [] then mark else moved.getLast?.map (·.stamp) := by
  unfold markAfter
  split
  next h => rw [if_pos (List.getLast?_eq_none_iff.1 h)]
  next r h =>
    have hne : moved ≠ [] := fun h' => by simp [h'] at h
    rw [if_neg hne, h]
    rfl

/-- A look at which no record has reached the horizon tests the mark's age alone (R105). -/
theorem EventStore.look_of_young {len horizon : Nat} {now : LineTime} {st : EventStore}
    (h : ∀ x ∈ st.settling.head?, settled len horizon now x = false) :
    st.look len horizon now = { st with mark := ageMark len now st.mark } := by
  have htake : st.settling.takeWhile (settled len horizon now) = [] := by
    cases hs : st.settling with
    | nil => rfl
    | cons x l => exact List.takeWhile_cons_of_neg (by simp [h x (by simp [hs])])
  have hdrop : st.settling.dropWhile (settled len horizon now) = st.settling := by
    cases hs : st.settling with
    | nil => rfl
    | cons x l => exact List.dropWhile_cons_of_neg (by simp [h x (by simp [hs])])
  simp [EventStore.look, htake, hdrop, markAfter_eq]

section Take

variable {len horizon : Nat} {now : LineTime} {r : EventRecord} {st : EventStore}

theorem EventStore.take_full (h : 128 ≤ st.total) : st.take len horizon now r = { st with gap := .pending } := if_pos h

theorem EventStore.take_late (h : st.total < 128) (hlate : beforeMark len now st.mark r = true) :
    st.take len horizon now r = { st with lane := st.lane ++ [{ r with late := true }] } := by
  rw [EventStore.take, if_neg (Nat.not_le.2 h), if_pos hlate]

theorem EventStore.take_settling (h : st.total < 128) (hlate : beforeMark len now st.mark r = false) :
    st.take len horizon now r = EventStore.look len horizon now { st with settling := insertByKey len now r st.settling } := by
  rw [EventStore.take, if_neg (Nat.not_le.2 h), if_neg (by simp [hlate])]

theorem beforeMark_some {m : LineTime} : beforeMark len now (some m) r = decide (timeDiff len now r.stamp < timeDiff len now m) := rfl

theorem beforeMark_eq_false (h : ∀ m, st.mark = some m → timeDiff len now m ≤ timeDiff len now r.stamp) :
    beforeMark len now st.mark r = false := by
  cases hmark : st.mark with
  | none => rfl
  | some m => simpa [beforeMark_some] using h m hmark

end Take

namespace State

theorem takeRecord_of_unset {s : State} (h : s.agreement.state = .unset) (r : EventRecord) : s.takeRecord r = s := if_pos h

theorem takeRecord_of_set {s : State} (h : s.agreement.state ≠ .unset) (r : EventRecord) :
    s.takeRecord r = s.setStore (s.store.take s.len s.config.horizon s.storeNow r) := if_neg h

/-- What a record comes to does not turn on the handling of a period that has ended. -/
theorem takeRecord_setLateHandling (s : State) (late : Bool) (r : EventRecord) :
    (s.setLateHandling late).takeRecord r = (s.takeRecord r).setLateHandling late := by
  by_cases h : s.agreement.state = .unset
  · rw [takeRecord_of_unset h, takeRecord_of_unset (s := s.setLateHandling late) h]
  · rw [takeRecord_of_set h, takeRecord_of_set (s := s.setLateHandling late) h]
    rfl

theorem foldl_takeRecord_setLateHandling (rs : List EventRecord) (s : State) (late : Bool) :
    rs.foldl takeRecord (s.setLateHandling late) = (rs.foldl takeRecord s).setLateHandling late := by
  induction rs generalizing s with
  | nil => rfl
  | cons r rs ih => rw [List.foldl_cons, List.foldl_cons, takeRecord_setLateHandling, ih]

theorem takeRecord_setSchedule (s : State) (es : List ScheduleEntry) (r : EventRecord) :
    (s.setSchedule es).takeRecord r = (s.takeRecord r).setSchedule es := by
  by_cases h : s.agreement.state = .unset
  · rw [takeRecord_of_unset h, takeRecord_of_unset (s := s.setSchedule es) h]
  · rw [takeRecord_of_set h, takeRecord_of_set (s := s.setSchedule es) h]
    rfl

end State

open State

/-- Settles O29. -/
theorem settlingReleasesRecordsAtTheHorizon : Obligations.SettlingReleasesRecordsAtTheHorizon := by
  intro s now hheld hnow
  refine ⟨s.store.settling.takeWhile (settled s.len s.config.horizon now), s.store.settling.dropWhile (settled s.len s.config.horizon now),
    List.takeWhile_append_dropWhile.symm, fun r hr => ?_, fun r hr => ?_,
    ageMark s.len now (markAfter s.store.mark (s.store.settling.takeWhile (settled s.len s.config.horizon now))), ?_, fun m => ?_⟩
  · exact (settled_iff ..).1 (List.mem_takeWhile_imp hr)
  · have hnot := List.head?_dropWhile_not (settled s.len s.config.horizon now) s.store.settling
    rw [Option.mem_def.1 hr] at hnot
    have hr' : settled s.len s.config.horizon now r = false := by simpa using hnot
    rw [Bool.eq_false_iff, ne_eq, settled_iff] at hr'
    omega
  · refine (next_unlessHeld hheld _).trans (congrArg _ ?_)
    rw [hnow]
    rfl
  · rw [ageMark_eq_some, markAfter_eq]

/-! ### The end of a handling (R133, R134) -/

theorem Frame.framer {ps : List Part} {s t : State} (h : Frame ps s t)
    (hps : ∀ p ∈ [Part.receiver, .startCount, .symbol, .silence, .buffers, .ripe, .counters, .engine], p ∉ ps := by decide) :
    t.framer = s.framer := by
  have hreceiver : t.framer.receiver = s.framer.receiver := h.same .receiver (hps _ (by decide))
  have hstart : t.framer.startCount = s.framer.startCount := h.same .startCount (hps _ (by decide))
  have hsymbol : t.framer.symbol = s.framer.symbol := h.same .symbol (hps _ (by decide))
  obtain ⟨hsilence, hquiet⟩ : t.framer.silence = s.framer.silence ∧ t.framer.quietFound = s.framer.quietFound :=
    h.same .silence (hps _ (by decide))
  obtain ⟨hA, hB, hfirst⟩ : t.framer.bufferA = s.framer.bufferA ∧ t.framer.bufferB = s.framer.bufferB ∧
    t.framer.aFirst = s.framer.aFirst := h.same .buffers (hps _ (by decide))
  have hripe : t.framer.ripe = s.framer.ripe := h.same .ripe (hps _ (by decide))
  have hcounters : t.framer.counters = s.framer.counters := h.same .counters (hps _ (by decide))
  have hengine : t.framer.engine = s.framer.engine := h.same .engine (hps _ (by decide))
  rw [show t.framer = ⟨t.framer.receiver, t.framer.startCount, t.framer.symbol, t.framer.silence, t.framer.quietFound,
    t.framer.bufferA, t.framer.bufferB, t.framer.aFirst, t.framer.ripe, t.framer.counters, t.framer.engine⟩ from rfl, hreceiver,
    hstart, hsymbol, hsilence, hquiet, hA, hB, hfirst, hripe, hcounters, hengine]

namespace State

/-- A handling that ends hands its frame over, and leaves the Framer as `HandlingEnds` says. -/
theorem exec_frameHandlingEnd {s : State} {f : ReceivedFrame} {after : Framer} (h : HandlingEnds s f after) :
    exec .frameHandlingEnd s = .next (((s.handOver f).setFramer after).setLateHandling false) := by
  obtain ⟨hheld, hripe, hbuffer⟩ := h
  have hframer : (s.handOver f).framer = s.framer := (handOver_frame s f).framer
  refine (congrArg Host.Outcome.next (whileReleased_of_released hheld _)).trans
    (congrArg (fun t : State => Host.Outcome.next (t.setLateHandling false)) ?_)
  unfold endHandling
  rw [if_pos hripe]
  rcases hbuffer with ⟨hA, rfl⟩ | ⟨hA, hB, rfl⟩
  · simp only [hA, hframer]
    cases hB : s.framer.bufferB <;> simp [takeBuffer]
  · cases hA' : s.framer.bufferA with
    | handling g => exact absurd hA' (hA g)
    | free | full g =>
      simp only [hB, hframer]
      simp [takeBuffer, hA']

/-- The sender's entry is LIVE with the station's own founder (R63, R107). -/
theorem onOwnTimeline_iff (s : State) (sender : StationId) : s.onOwnTimeline sender = true ↔
    (s.peerOf sender).state = .live ∧ ∃ founder, (s.peerOf sender).founder = some founder ∧ s.agreement.founder = some founder := by
  simp only [onOwnTimeline, Bool.and_eq_true, beq_iff_eq, Option.isSome_iff_exists]
  constructor
  · rintro ⟨⟨hlive, founder, hfounder⟩, hown⟩
    exact ⟨hlive, founder, hfounder, hown ▸ hfounder⟩
  · rintro ⟨hlive, founder, hfounder, hown⟩
    exact ⟨⟨hlive, founder, hfounder⟩, hfounder.trans hown.symm⟩

theorem takeRecord_onOwnTimeline (s : State) (r : EventRecord) (sender : StationId) :
    (s.takeRecord r).onOwnTimeline sender = s.onOwnTimeline sender := by
  rw [takeRecord_eq]
  rfl

/-- The entries of an EVENT frame become records whose quality is settled as the frame is taken (R107). -/
theorem foldl_receivedRecord (es : List SharedEdge) (sender : StationId) (s : State) :
    es.foldl (fun s e => s.takeRecord (s.receivedRecord sender e)) s = (es.map (s.receivedRecord sender)).foldl takeRecord s := by
  induction es generalizing s with
  | nil => rfl
  | cons e es ih =>
    have hsame : (s.takeRecord (s.receivedRecord sender e)).receivedRecord sender = s.receivedRecord sender := by
      funext e'
      simp only [receivedRecord, takeRecord_onOwnTimeline]
    rw [List.foldl_cons, ih, hsame, List.map_cons, List.foldl_cons]

end State

open State

/-- Settles O30. -/
theorem storeTakesARecordByThreeTests : Obligations.StoreTakesARecordByThreeTests := by
  refine ⟨fun s f after own hends hkind hown => ?_, fun s r now hnow => ?_⟩
  · have htimeline : s.onOwnTimeline f.sender = own := by
      rw [Bool.eq_iff_iff, onOwnTimeline_iff, hown]
    have hover : s.handOver f = s.takeEventFrame f.sender (eventEntries s.len f.body) := by simp [handOver, hkind]
    refine ⟨fun hset => ?_, fun hunset => ?_⟩
    · rw [exec_frameHandlingEnd hends, hover, takeEventFrame, if_neg hset, foldl_receivedRecord, foldl_takeRecord_setLateHandling]
      have hrecord : s.receivedRecord f.sender = fun e : SharedEdge =>
          (⟨.edge e.channel e.edge, f.sender, e.sure && own, e.tag, e.stamp, false, false, false⟩ : EventRecord) := by
        funext e
        rw [receivedRecord, htimeline]
      rw [hrecord]
      rfl
    · rw [exec_frameHandlingEnd hends, hover, takeEventFrame, if_pos hunset]
      rfl
  · have hstoreNow : s.storeNow = now := hnow.symm
    refine ⟨fun hunset => takeRecord_of_unset hunset r, fun hset hfull => ?_, fun m hset hroom hmark hlate => ?_,
      fun hset hroom hmark => ⟨fun hyoung => ?_, fun hempty hold hmarked => ?_⟩⟩
    · rw [takeRecord_of_set hset, EventStore.take_full hfull]
    · rw [takeRecord_of_set hset, hstoreNow, EventStore.take_late hroom]
      rw [hmark, beforeMark_some]
      exact decide_eq_true hlate
    · obtain ⟨before, after, hsplit, hinsert, hbefore, hafter⟩ := insertByKey_split s.len now r s.store.settling
      refine ⟨before, after, hsplit, ?_, hbefore, hafter⟩
      rw [takeRecord_of_set hset, hstoreNow, EventStore.take_settling hroom (beforeMark_eq_false fun m hm => (hmark m hm).1),
        EventStore.look_of_young, ageMark_of_young fun m hm => (hmark m hm).2, hinsert]
      exact fun x hx => settled_eq_false (hyoung x (mem_insertByKey (List.mem_of_mem_head? hx)))
    · rw [takeRecord_of_set hset, hstoreNow, EventStore.take_settling hroom (beforeMark_eq_false fun m hm => (hmark m hm).1), hempty]
      have hsettled : settled s.len s.config.horizon now r = true := (settled_iff ..).2 hold
      have hage : ageMark s.len now (some r.stamp) = some r.stamp := (ageMark_eq_some ..).2 ⟨rfl, hmarked⟩
      simp [EventStore.look, insertByKey, hsettled, markAfter_eq, hage, hempty]

end Sys2Proof.Machine

/-! The Schedule's looks and insertions (4.2 to 4.4), the actions of the outputs (4.8), and the expiry of an arm (3.5). -/

namespace Sys2Proof.Machine

set_option Elab.async false

open Safety

namespace State

/-! ### The Schedule's look (R72) -/

theorem entryReached_of_earlier {s : State} {e : ScheduleEntry} (h : earlier s.len s.now e.due = true) : s.entryReached e = false := by
  simp [entryReached, reached, h]

theorem entryReached_of_not_earlier {s : State} {e : ScheduleEntry} (h : earlier s.len s.now e.due = false) : s.entryReached e = true := by
  simp [entryReached, reached, h]

/-- Nothing is taken where the head is not reached. -/
theorem lookSchedule_of_young {s : State} (h : ∀ x ∈ s.schedule.head?, earlier s.len s.now x.due = true) : s.lookSchedule = s := by
  unfold lookSchedule
  split
  · cases hs : s.schedule with
    | nil =>
      rw [List.takeWhile_nil, List.dropWhile_nil, List.foldl_nil, ← hs]
      rfl
    | cons x l =>
      have hx := entryReached_of_earlier (h x (by simp [hs]))
      rw [List.takeWhile_cons_of_neg (by simp [hx]), List.dropWhile_cons_of_neg (by simp [hx]), ← hs]
      rfl
  · rfl

/-- In UNSET and LISTENING nothing is taken (R72, R77). -/
theorem lookSchedule_of_idle {s : State} (h : s.agreement.state = .unset ∨ s.agreement.state = .listening) : s.lookSchedule = s := by
  rcases h with h | h <;> simp [lookSchedule, acting, h]

/-- One reached head is taken where the entry after it is not reached. -/
theorem lookSchedule_one {s : State} {e : ScheduleEntry} {rest : List ScheduleEntry} (hstate : Acting s ∨ s.agreement.state = .adrift)
    (hs : s.schedule = e :: rest) (he : earlier s.len s.now e.due = false)
    (hrest : ∀ x ∈ rest.head?, earlier s.len s.now x.due = true) : s.lookSchedule = (s.setSchedule rest).takeEntry e := by
  have hlooks : (s.acting || s.agreement.state == .adrift) = true := by
    rw [Bool.or_eq_true, acting_iff, beq_iff_eq]
    exact hstate
  have hreached := entryReached_of_not_earlier he
  have htake : rest.takeWhile s.entryReached = [] ∧ rest.dropWhile s.entryReached = rest := by
    cases hr : rest with
    | nil => exact ⟨rfl, rfl⟩
    | cons x l =>
      have hx := entryReached_of_earlier (hrest x (by simp [hr]))
      exact ⟨List.takeWhile_cons_of_neg (by simp [hx]), List.dropWhile_cons_of_neg (by simp [hx])⟩
  rw [lookSchedule, if_pos hlooks, hs, List.takeWhile_cons_of_pos hreached, List.dropWhile_cons_of_pos hreached, htake.1, htake.2]
  rfl

theorem takeEntry_of_acting {s : State} (h : Acting s) (e : ScheduleEntry) : s.takeEntry e = s.execute e :=
  if_pos ((acting_iff s).2 h)

theorem takeEntry_of_adrift {s : State} (h : s.agreement.state = .adrift) (e : ScheduleEntry) : s.takeEntry e = s.entryNote .missed e :=
  if_neg (by simp [acting, h])

theorem entryNote_eq (s : State) (code : NoteCode) (e : ScheduleEntry) :
    s.entryNote code e = s.takeRecord (noteNow s code (BitVec.ofNat 8 e.output.val) e.sender e.tag) := rfl

/-! ### Insertion requests (R69, R70) -/

/-- A request not reached is inserted in its place. -/
theorem insertAndLook_ahead {s : State} {e : ScheduleEntry} (hs : ∀ x ∈ s.schedule, earlier s.len s.now x.due = true)
    (he : earlier s.len s.now e.due = true) : s.insertAndLook e = s.setSchedule (insertEntry s.len e s.schedule) := by
  refine lookSchedule_of_young fun x hx => ?_
  rcases (mem_insertEntry s.len e x s.schedule).1 (List.mem_of_mem_head? hx) with rfl | hx
  · exact he
  · exact hs x hx

section DueNow

variable {s : State} {e : ScheduleEntry}

/-- A request due now, before every entry, is taken at once (R69, R72). -/
theorem insertAndLook_now (hs : ∀ x ∈ s.schedule, earlier s.len s.now x.due = true) (he : e.due = s.now)
    (hlater : ∀ x ∈ s.schedule, later s.len x.due s.now = true) (hstate : Acting s ∨ s.agreement.state = .adrift) :
    s.insertAndLook e = s.takeEntry e := by
  have hfirst : insertEntry s.len e s.schedule = e :: s.schedule := insertEntry_first (by rwa [he])
  refine (lookSchedule_one (s := s.setSchedule (insertEntry s.len e s.schedule)) (e := e) (rest := s.schedule) hstate hfirst ?_
    fun x hx => hs x (List.mem_of_mem_head? hx)).trans rfl
  exact he ▸ earlier_self _ _

theorem insertAndLook_idle (hlater : ∀ x ∈ s.schedule, later s.len x.due e.due = true)
    (hstate : s.agreement.state = .unset ∨ s.agreement.state = .listening) :
    s.insertAndLook e = s.setSchedule (e :: s.schedule) := by
  have hfirst : insertEntry s.len e s.schedule = e :: s.schedule := insertEntry_first hlater
  refine (lookSchedule_of_idle (s := s.setSchedule (insertEntry s.len e s.schedule)) hstate).trans ?_
  rw [hfirst]

end DueNow

section Requests

variable {s : State} {e : ScheduleEntry}

theorem insertRequest_missed (h : earlier s.len e.due s.now = true) : s.insertRequest e = s.entryNote .missed e := if_pos h

theorem insertRequest_room (h : earlier s.len e.due s.now = false) (hroom : s.schedule.length < 32) :
    s.insertRequest e = s.insertAndLook e := by
  rw [insertRequest, if_neg (by simp [h]), if_pos hroom]

theorem insertRequest_full (h : earlier s.len e.due s.now = false) (hfull : s.schedule.length = 32) :
    s.insertRequest e = s.insertFull e := by
  rw [insertRequest, if_neg (by simp [h]), if_neg (by simp [hfull])]

variable {kept : List ScheduleEntry} {last : ScheduleEntry}

theorem insertFull_evicts (hs : s.schedule = kept ++ [last]) (h : earlier s.len e.due last.due = true) :
    s.insertFull e = ((s.entryNote .evicted last).setSchedule kept).insertAndLook e := by
  have hnote : (s.setSchedule kept).entryNote .evicted last = (s.entryNote .evicted last).setSchedule kept :=
    takeRecord_setSchedule s kept _
  simp [insertFull, hs, h, hnote]

theorem insertFull_refuses (hs : s.schedule = kept ++ [last]) (h : earlier s.len e.due last.due = false) :
    s.insertFull e = s.entryNote .scheduleFull e := by
  simp [insertFull, hs, h]

end Requests

end State

open State

/-- Settles O22. -/
theorem insertionRequestsFollowTheirDueTime : Obligations.InsertionRequestsFollowTheirDueTime := by
  intro s e hs
  refine ⟨insertRequest_missed, fun hahead hearly hroom => ?_, fun kept last hlast hfull hearly => ⟨fun hahead hbefore => ?_,
    fun hafter => ?_, fun hnow hlater hacting => ?_⟩, fun hnow hlater hroom => ?_⟩
  · obtain ⟨before, after, hsplit, hinsert, hbefore, hafter⟩ := insertEntry_split s.len e s.schedule
    refine ⟨before, after, hsplit, ?_, hbefore, hafter⟩
    rw [insertRequest_room hearly hroom, insertAndLook_ahead hs hahead, hinsert]
  · obtain ⟨before, after, hsplit, hinsert, hbefore', hafter⟩ := insertEntry_split s.len e kept
    refine ⟨before, after, hsplit, ?_, hbefore', hafter⟩
    have hframe := entryNote_frame s .evicted last
    have hclock : (s.entryNote .evicted last).clock = s.clock := hframe.same .clock
    have hconfig : (s.entryNote .evicted last).config = s.config := hframe.same .config
    rw [insertRequest_full hearly hfull, insertFull_evicts hlast hbefore, insertAndLook_ahead, ← hinsert, ← entryNote_eq]
    · simp [len, hconfig]
    all_goals simp only [len, now, setSchedule_config, setSchedule_clock, setSchedule_schedule, hclock, hconfig]
    · exact fun x hx => hs x (by simp [hlast, hx])
    · exact hahead
  · rw [insertRequest_full hearly hfull, insertFull_refuses hlast hafter, entryNote_eq]
  · have hlast' : last ∈ s.schedule := by simp [hlast]
    have hframe := entryNote_frame s .evicted last
    have hclock : (s.entryNote .evicted last).clock = s.clock := hframe.same .clock
    have hconfig : (s.entryNote .evicted last).config = s.config := hframe.same .config
    have hacting' : Acting ((s.entryNote .evicted last).setSchedule kept) := by
      simpa only [Acting, setSchedule_agreement, hframe.agreement_state] using hacting
    rw [insertRequest_full hearly hfull, insertFull_evicts hlast (hnow ▸ hs last hlast'), insertAndLook_now _ _ _ (.inl hacting'),
      takeEntry_of_acting hacting', ← entryNote_eq]
    all_goals simp only [len, now, setSchedule_config, setSchedule_clock, setSchedule_schedule, hclock, hconfig]
    · exact fun x hx => hs x (by simp [hlast, hx])
    · exact hnow
    · exact fun x hx => hlater x (by simp [hlast, hx])
  · have hearly : earlier s.len e.due s.now = false := hnow ▸ earlier_self _ _
    rw [insertRequest_room hearly hroom]
    refine ⟨fun hacting => ?_, fun hadrift => ?_, fun hidle => insertAndLook_idle (hnow ▸ hlater) hidle⟩
    · rw [insertAndLook_now hs hnow hlater (.inl hacting), takeEntry_of_acting hacting]
    · rw [insertAndLook_now hs hnow hlater (.inr hadrift), takeEntry_of_adrift hadrift, entryNote_eq]

/-! ### The actions of an output (R80 to R86) -/

section Actions

variable {c : OutputConfig} {len : Nat} {now due : LineTime} {o : Output}

theorem Output.begin_of_driven (h : o.condition ≠ .undriven) : o.begin = { o with condition := .acting } := by
  obtain ⟨condition, level, pulseEnd, latchRound⟩ := o
  cases condition with
  | undriven => exact absurd rfl h
  | safe => rfl
  | acting => rfl

theorem Output.act_set (hmode : c.mode = .level) (h : o.condition ≠ .undriven) :
    o.act c len now due .set = { o with condition := .acting, level := true } := by
  simp only [Output.act, hmode, Output.begin_of_driven h, Output.levelAct]

theorem Output.act_clear (hmode : c.mode = .level) (h : o.condition ≠ .undriven) :
    o.act c len now due .clear = { o with condition := .acting, level := false } := by
  simp only [Output.act, hmode, Output.begin_of_driven h, Output.levelAct]

theorem Output.act_toggle (hmode : c.mode = .level) (h : o.condition ≠ .undriven) :
    o.act c len now due .toggle = { o with condition := .acting, level := !o.level } := by
  simp only [Output.act, hmode, Output.begin_of_driven h, Output.levelAct]

theorem Output.act_fire (hmode : c.mode = .pulse) (h : o.condition ≠ .undriven) :
    o.act c len now due .fire =
      { o with condition := .acting, level := true, pulseEnd := some (timeAdd len now c.width) } := by
  simp only [Output.act, hmode, Output.begin_of_driven h]

theorem Output.act_round (hmode : c.mode = .round) (h : o.condition ≠ .undriven) :
    o.act c len now due .set =
      { o with condition := .acting, level := decide (due.round = now.round), latchRound := some due.round } := by
  simp only [Output.act, hmode, Output.begin_of_driven h, beq_eq_decide]

end Actions

namespace State

/-- The output that an entry acts on, after its action (R80). -/
def actedOutput (s : State) (e : ScheduleEntry) : Output :=
  (s.outputs[e.output]).act (s.config.outputs[e.output]) s.len s.now e.due e.action

theorem execute_silent {s : State} {e : ScheduleEntry} (h : (s.config.outputs[e.output]).log = false) :
    s.execute e = s.setOutputs (s.outputs.set e.output.val (s.actedOutput e)) := if_neg (ne_true_of_eq_false h)

theorem takeRecord_setOutputs (s : State) (os : Vector Output 8) (r : EventRecord) :
    (s.setOutputs os).takeRecord r = (s.takeRecord r).setOutputs os := by
  by_cases h : s.agreement.state = .unset
  · rw [takeRecord_of_unset h, takeRecord_of_unset (s := s.setOutputs os) h]
  · rw [takeRecord_of_set h, takeRecord_of_set (s := s.setOutputs os) h]
    rfl

/-- An output that logs leaves an ACTED note of the action (R72). -/
theorem execute_logged {s : State} {e : ScheduleEntry} (h : (s.config.outputs[e.output]).log = true) :
    s.execute e = (s.setOutputs (s.outputs.set e.output.val (s.actedOutput e))).setStore
      (s.takeRecord (noteNow s .acted (BitVec.ofNat 8 e.output.val) e.sender e.tag)).store := by
  have hexecute : s.execute e = (s.setOutputs (s.outputs.set e.output.val (s.actedOutput e))).takeRecord
      (noteNow s .acted (BitVec.ofNat 8 e.output.val) e.sender e.tag) := if_pos h
  rw [hexecute, takeRecord_setOutputs, takeRecord_eq]
  rfl

end State

/-- Settles O26. -/
theorem dueEntryIsExecutedOrMissed : Obligations.DueEntryIsExecutedOrMissed := by
  refine ⟨fun s e rest hheld hstate hs he hrest => ?_, fun s e rest hheld hadrift hs he hrest => ?_⟩
  · have hacting : Acting (inPeriod s) := hstate
    have hlook : (inPeriod s).lookSchedule = ((inPeriod s).setSchedule rest).execute e := by
      rw [lookSchedule_one (s := inPeriod s) (.inl hacting) hs he hrest]
      exact takeEntry_of_acting (s := (inPeriod s).setSchedule rest) hacting e
    have hactions := fun h : (s.outputs[e.output]).condition ≠ .undriven => h
    suffices hexecuted : ∃ t, ((inPeriod s).setSchedule rest).execute e = t ∧
        t = (((inPeriod s).setSchedule rest).setOutputs (s.outputs.set e.output.val (s.actedOutput e))).setStore t.store ∧
        ((s.config.outputs[e.output]).log = false → t.store = s.store) ∧
        ((s.config.outputs[e.output]).log = true →
          t.store = (s.takeRecord (noteNow s .acted (BitVec.ofNat 8 e.output.val) e.sender e.tag)).store) by
      obtain ⟨t, ht, hframe, hsilent, hlogged⟩ := hexecuted
      refine ⟨t, s.actedOutput e, (next_unlessHeld hheld _).trans (congrArg _ (hlook.trans ht)), hframe, hsilent, hlogged,
        fun hdriven => ⟨fun hmode haction => ?_, fun hmode haction => ?_, fun hmode haction => ?_, fun hmode haction => ?_,
        fun hmode haction => ?_⟩⟩
      all_goals rw [actedOutput, haction]
      · exact Output.act_set hmode hdriven
      · exact Output.act_clear hmode hdriven
      · exact Output.act_toggle hmode hdriven
      · exact Output.act_fire hmode hdriven
      · exact Output.act_round hmode hdriven
    cases hlog : (s.config.outputs[e.output]).log with
    | false => exact ⟨_, execute_silent (s := (inPeriod s).setSchedule rest) hlog, rfl, fun _ => rfl, fun h => by simp at h⟩
    | true =>
      have hstore : (((inPeriod s).setSchedule rest).takeRecord
          (noteNow s .acted (BitVec.ofNat 8 e.output.val) e.sender e.tag)).store =
            (s.takeRecord (noteNow s .acted (BitVec.ofNat 8 e.output.val) e.sender e.tag)).store := by
        rw [takeRecord_setSchedule, takeRecord_setLateHandling]
        rfl
      exact ⟨_, execute_logged (s := (inPeriod s).setSchedule rest) hlog, rfl, fun h => by simp at h, fun _ => hstore⟩
  · refine (next_unlessHeld hheld _).trans (congrArg _ ?_)
    rw [lookSchedule_one (s := inPeriod s) (.inr hadrift) hs he hrest,
      takeEntry_of_adrift (s := (inPeriod s).setSchedule rest) hadrift, entryNote_eq]
    simp only [noteNow, setSchedule_agreement, setLateHandling_agreement, hadrift]
    rfl

/-! ### ARM_EXPIRED (R53, R54) -/

namespace State

/-- The station after the reports that follow ARM_EXPIRED, from what the expiry leaves. -/
theorem reported_of_expired {s u : State} (harms : u = ((s.setArms u.arms).setCapture u.capture).setStore u.store) :
    u.refreshTx = (((s.setArms u.refreshTx.arms).setCapture u.refreshTx.capture).setStore u.refreshTx.store).setAccess
      u.refreshTx.access ∧ Reported s u.refreshTx := by
  have hreported := refreshTx_reported u
  have haccess : u.access = s.access := by rw [harms]; rfl
  refine ⟨?_, ?_⟩
  · rw [refreshTx_eq]
    exact congrArg (fun v : State => v.setAccess { u.access with
      reportA := u.classA
      tx := if u.access.tx = .idle ∨ u.access.tx = .waiting then (if u.classA || u.classB then .waiting else .idle)
        else u.access.tx }) harms
  · rw [Reported, ← haccess]
    exact hreported

theorem armPassed_iff (s : State) (r : ArmRecord) :
    s.armPassed r = true ↔ later s.len s.clock.now r.action = true ∧ ¬CarriesArm s r.id := by
  rw [← carriesArm_iff, armPassed, Bool.and_eq_true, Bool.not_eq_true', Bool.not_eq_true]
  rfl

theorem armStepped_iff (s : State) (r : ArmRecord) :
    s.armStepped r = true ↔ earlier s.len r.action s.clock.now = true ∧ ¬CarriesArm s r.id := by
  rw [← carriesArm_iff, armStepped, Bool.and_eq_true, Bool.not_eq_true', Bool.not_eq_true]
  rfl

/-- What is looked at in another reading and found unchanged leaves the station as it was. -/
theorem atReading_of_same {s : State} {t : LineTime} {f : State → State}
    (h : f (s.setClock { s.clock with now := t, handed := some s.storeNow }) =
      s.setClock { s.clock with now := t, handed := some s.storeNow }) : s.atReading t f = s := by
  rw [atReading, atReadings, h]
  rfl

section ExpireArmOf

variable {s : State} {r : ArmRecord} {before after : List ArmRecord}

/-- A record whose action time has passed expires, whether or not a step has been handed over (R53). -/
theorem expireArmOf_passed (hids : (s.arms.outbox.map (·.id)).Nodup) (hsplit : s.arms.outbox = before ++ r :: after)
    (hpassed : s.armPassed r = true) : s.expireArmOf r.id = s.expireArm r := by
  have hmem : r ∈ s.arms.outbox := by simp [hsplit]
  have hlooked : (s.expireWhere fun x => x.id == r.id && s.armPassed x) = s.expireArm r :=
    expireWhere_one hids hsplit fun x hx => by
      rw [Bool.and_eq_true, beq_iff_eq]
      exact ⟨fun h => h.1, fun h => ⟨h, eq_of_id_eq hids hx hmem h ▸ hpassed⟩⟩
  have hout : ∀ x ∈ (s.expireArm r).arms.outbox, (x.id == r.id) = false := by
    rw [(expireArm_one hids hsplit).1]
    intro x hx
    have hstays := (filter_of_split hids hsplit (p := fun x => x.id == r.id) fun x _ => beq_iff_eq).1
    have hkept : x ∈ s.arms.outbox.filter fun x => !(x.id == r.id) :=
      hstays ▸ (show x ∈ before ++ after from hx)
    simpa using (List.mem_filter.1 hkept).2
  unfold expireArmOf
  simp only [hlooked]
  split
  · rfl
  · exact atReading_of_same (expireWhere_none fun x hx => by rw [hout x hx, Bool.false_and])

/-- A record that the step passes expires at the new line time (R54). -/
theorem expireArmOf_stepped {new : LineTime} (hids : (s.arms.outbox.map (·.id)).Nodup) (hsplit : s.arms.outbox = before ++ r :: after)
    (hnew : s.clock.handed = some new) (hpassed : s.armPassed r = false) (hstepped : earlier s.len r.action new = true)
    (hcarried : ¬CarriesArm s r.id) : s.expireArmOf r.id = s.atReading new fun h => h.expireArm r := by
  have hmem : r ∈ s.arms.outbox := by simp [hsplit]
  have hlooked : (s.expireWhere fun x => x.id == r.id && s.armPassed x) = s := expireWhere_none fun x hx => by
    by_cases hid : x.id = r.id
    · rw [eq_of_id_eq hids hx hmem hid, hpassed, Bool.and_false]
    · rw [beq_eq_false_iff_ne.2 hid, Bool.false_and]
  have hstep : ∀ h : State, h = s.setClock { s.clock with now := new, handed := some s.storeNow } →
      (h.expireWhere fun x => x.id == r.id && h.armStepped x) = h.expireArm r := by
    rintro h rfl
    refine expireWhere_one hids hsplit fun x hx => ?_
    rw [Bool.and_eq_true, beq_iff_eq]
    refine ⟨fun h => h.1, fun h => ⟨h, ?_⟩⟩
    rw [eq_of_id_eq hids hx hmem h]
    exact (armStepped_iff _ r).2 ⟨hstepped, hcarried⟩
  unfold expireArmOf
  simp only [hlooked, hnew]
  exact congrArg (fun h : State => h.setClock s.clock) (hstep _ rfl)

/-- Any other record stays. -/
theorem expireArmOf_none {id : Byte} (hpassed : ∀ x ∈ s.arms.outbox, x.id = id → s.armPassed x = false)
    (hstepped : ∀ x ∈ s.arms.outbox, x.id = id → CarriesArm s id ∨
      ∀ new, s.clock.handed = some new → earlier s.len x.action new = false) : s.expireArmOf id = s := by
  have hlooked : (s.expireWhere fun x => x.id == id && s.armPassed x) = s := expireWhere_none fun x hx => by
    by_cases hid : x.id = id
    · rw [hpassed x hx hid, Bool.and_false]
    · rw [beq_eq_false_iff_ne.2 hid, Bool.false_and]
  unfold expireArmOf
  simp only [hlooked]
  split
  · rfl
  next new hnew =>
    refine atReading_of_same (expireWhere_none fun x hx => ?_)
    by_cases hid : x.id = id
    · rw [Bool.and_eq_false_iff, Bool.eq_false_iff (b := armStepped _ x), ne_eq, armStepped_iff]
      refine .inr fun ⟨hearlier, hcarried⟩ => ?_
      rcases hstepped x hx hid with hcarries | hlate
      · exact hcarried (hid ▸ hcarries)
      · have hfalse := hlate new hnew
        exact absurd (hearlier.symm.trans hfalse) (by decide)
    · rw [beq_eq_false_iff_ne.2 hid, Bool.false_and]

/-- The note of an expiry is the Event Store's record at the line time it goes by. -/
theorem expiryNote_store_at {new : LineTime} (hnew : s.storeNow = new) (h : r.effective = false) :
    ((s.setClock { s.clock with now := new, handed := some s.storeNow }).expiryNote r).store =
      (s.takeRecord ⟨.note .armExpired r.id, s.config.id, s.agreement.state == .alone || s.agreement.state == .locked, r.tag, new,
        false, false, false⟩).store := by
  rw [expiryNote_of_not_effective _ h]
  subst hnew
  by_cases hunset : s.agreement.state = .unset
  · rw [takeRecord_of_unset hunset,
      takeRecord_of_unset (s := s.setClock { s.clock with now := s.storeNow, handed := some s.storeNow }) hunset]
    rfl
  · rw [takeRecord_of_set hunset,
      takeRecord_of_set (s := s.setClock { s.clock with now := s.storeNow, handed := some s.storeNow }) hunset]
    rfl

end ExpireArmOf

end State

/-- Settles O28. -/
theorem passedArmExpires : Obligations.PassedArmExpires := by
  have expired : ∀ (s u : State), s.resetHeld = false → ∀ id, (inPeriod s).expireArmOf id = u →
      exec (.armExpired id) s = .next u.refreshTx := fun s u hheld id hu =>
    (next_unlessHeld hheld _).trans (congrArg (fun v : State => Host.Outcome.next v.refreshTx) hu)
  refine ⟨fun s r before after hheld hids hsplit hlater hcarried => ?_,
    fun s r before after new hheld hids hsplit hnew hpassed hearlier hcarried => ?_, fun s id hheld hstays => ?_⟩
  · have hpassed : (inPeriod s).armPassed r = true := (armPassed_iff (inPeriod s) r).2 ⟨hlater, hcarried⟩
    obtain ⟨harms, hreleased, hout, hflight, hstore, hframe⟩ := expireArm_one (s := inPeriod s) hids.1 hsplit
    obtain ⟨hform, hreported⟩ := reported_of_expired (s := inPeriod s) hframe
    have hrefresh := refreshTx_frame ((inPeriod s).expireArm r)
    have hcapture := hrefresh.capture
    have hstore' : ((inPeriod s).expireArm r).refreshTx.store = ((inPeriod s).expiryNote r).store :=
      Eq.trans (hrefresh.same .store) hstore
    refine ⟨_, expired s _ hheld r.id (expireArmOf_passed (s := inPeriod s) hids.1 hsplit hpassed), hrefresh.arms.trans harms,
      (congrArg Capture.outbox hcapture).trans hout, (congrArg Capture.inFlight hcapture).trans hflight, fun j => ?_, hform, hreported,
      fun heff => ?_, fun heff => ?_⟩
    · rw [hcapture]
      exact hreleased j
    · rw [hstore', expiryNote_of_effective _ heff]
      rfl
    · rw [hstore', expiryNote_of_not_effective _ heff, takeRecord_setLateHandling]
      rfl
  · have hpassed' : (inPeriod s).armPassed r = false := by
      rw [Bool.eq_false_iff, ne_eq, armPassed_iff]
      exact fun h => absurd (h.1.symm.trans hpassed) (by decide)
    have hstoreNow : (inPeriod s).storeNow = new := storeNow_of_some _ new hnew
    let h := (inPeriod s).setClock { s.clock with now := new, handed := some (inPeriod s).storeNow }
    obtain ⟨harms, hreleased, hout, hflight, hstore, hframe⟩ := expireArm_one (s := h) hids.1 hsplit
    have hback : (h.expireArm r).setClock s.clock =
        (((inPeriod s).setArms (h.expireArm r).arms).setCapture (h.expireArm r).capture).setStore (h.expireArm r).store :=
      congrArg (fun v : State => v.setClock s.clock) hframe
    obtain ⟨hform, hreported⟩ := reported_of_expired (s := inPeriod s) (u := (h.expireArm r).setClock s.clock) hback
    have hrefresh := refreshTx_frame ((h.expireArm r).setClock s.clock)
    have hcapture := hrefresh.capture
    have hstore' : ((h.expireArm r).setClock s.clock).refreshTx.store = (h.expiryNote r).store :=
      Eq.trans (hrefresh.same .store) hstore
    refine ⟨_, expired s _ hheld r.id (expireArmOf_stepped (s := inPeriod s) hids.1 hsplit hnew hpassed' hearlier hcarried),
      hrefresh.arms.trans harms, (congrArg Capture.outbox hcapture).trans hout, (congrArg Capture.inFlight hcapture).trans hflight,
      fun j => ?_, hform, hreported, fun heff => ?_, fun heff => ?_⟩
    · refine (congrArg (fun c : Capture => c.filters[j]) hcapture).trans (hreleased j)
    · refine hstore'.trans ?_
      rw [expiryNote_of_effective _ heff]
      rfl
    · refine hstore'.trans ((expiryNote_store_at hstoreNow heff).trans ?_)
      rw [takeRecord_setLateHandling]
      rfl
  · have hnone : (inPeriod s).expireArmOf id = inPeriod s := by
      refine expireArmOf_none (fun x hx hid => ?_) fun x hx hid => (hstays x hx hid).imp_right fun h => h.2
      rw [Bool.eq_false_iff, ne_eq, armPassed_iff]
      intro ⟨hlater, hcarried⟩
      rcases hstays x hx hid with hcarries | ⟨hearly, -⟩
      · exact hcarried (hid ▸ hcarries)
      · exact absurd (hlater.symm.trans hearly) (by decide)
    refine ⟨_, expired s _ hheld id hnone, ?_, refreshTx_reported (inPeriod s)⟩
    rw [refreshTx_eq]
    rfl

end Sys2Proof.Machine

/-! Changes aside: what the Schedule and the Arm Unit do when a part of the station that they neither read nor write is
another. -/

namespace Sys2Proof.Machine

set_option Elab.async false

open Safety

theorem Frame.access {ps : List Part} {s t : State} (h : Frame ps s t)
    (hps : ∀ p ∈ [Part.monitor, .rotation, .tx, .collisions], p ∉ ps := by decide) : t.access = s.access := by
  obtain ⟨hmonitor, hgap, hindex, hcount, htaken⟩ : t.access.monitor = s.access.monitor ∧ t.access.gapCount = s.access.gapCount ∧
    t.access.slotIndex = s.access.slotIndex ∧ t.access.slotCount = s.access.slotCount ∧
      t.access.slotTaken = s.access.slotTaken := h.same .monitor (hps _ (by decide))
  have hrotation : t.access.rotation = s.access.rotation := h.same .rotation (hps _ (by decide))
  obtain ⟨htx, hreport⟩ : t.access.tx = s.access.tx ∧ t.access.reportA = s.access.reportA := h.same .tx (hps _ (by decide))
  obtain ⟨hyield, hcollisions, hmute⟩ : t.access.yield = s.access.yield ∧ t.access.collisions = s.access.collisions ∧
    t.access.mute = s.access.mute := h.same .collisions (hps _ (by decide))
  rw [show t.access = ⟨t.access.monitor, t.access.gapCount, t.access.slotIndex, t.access.slotCount, t.access.slotTaken,
    t.access.rotation, t.access.tx, t.access.yield, t.access.collisions, t.access.mute, t.access.reportA⟩ from rfl, hmonitor, hgap,
    hindex, hcount, htaken, hrotation, htx, hreport, hyield, hcollisions, hmute]

/-- `g` changes a part of the station that the Schedule, the Output Stage and the Event Store neither read nor write. -/
structure Aside (g : State → State) : Prop where
  clock : ∀ s, (g s).clock = s.clock
  agreement : ∀ s, (g s).agreement = s.agreement
  config : ∀ s, (g s).config = s.config
  schedule : ∀ s, (g s).schedule = s.schedule
  outputs : ∀ s, (g s).outputs = s.outputs
  store : ∀ s, (g s).store = s.store
  setStore : ∀ s x, (g s).setStore x = g (s.setStore x)
  setOutputs : ∀ s x, (g s).setOutputs x = g (s.setOutputs x)
  setSchedule : ∀ s x, (g s).setSchedule x = g (s.setSchedule x)

/-- `g` changes a part of the station that is outside the Arm Unit and the Capture Unit. -/
structure BesideArms (g : State → State) : Prop where
  arms : ∀ s, (g s).arms = s.arms
  capture : ∀ s, (g s).capture = s.capture
  setArms : ∀ s x, (g s).setArms x = g (s.setArms x)
  setCapture : ∀ s x, (g s).setCapture x = g (s.setCapture x)

/-- `g` changes a part of the station that none of these units touches. -/
structure AsideArms (g : State → State) : Prop extends Aside g, BesideArms g

theorem besideArms_setStore (x : EventStore) : BesideArms (State.setStore · x) where
  arms _ := rfl
  capture _ := rfl
  setArms _ _ := rfl
  setCapture _ _ := rfl

theorem aside_setArms (x : Arms) : Aside (State.setArms · x) where
  clock _ := rfl
  agreement _ := rfl
  config _ := rfl
  schedule _ := rfl
  outputs _ := rfl
  store _ := rfl
  setStore _ _ := rfl
  setOutputs _ _ := rfl
  setSchedule _ _ := rfl

theorem aside_setCapture (x : Capture) : Aside (State.setCapture · x) where
  clock _ := rfl
  agreement _ := rfl
  config _ := rfl
  schedule _ := rfl
  outputs _ := rfl
  store _ := rfl
  setStore _ _ := rfl
  setOutputs _ _ := rfl
  setSchedule _ _ := rfl

/-- The Framer, the Access Unit and the mark of a late handling are aside of all these. -/
theorem asideArms_line (f : Framer) (a : Access) (late : Bool) :
    AsideArms fun s => ((s.setFramer f).setAccess a).setLateHandling late where
  clock _ := rfl
  agreement _ := rfl
  config _ := rfl
  schedule _ := rfl
  outputs _ := rfl
  store _ := rfl
  setStore _ _ := rfl
  setOutputs _ _ := rfl
  setSchedule _ _ := rfl
  arms _ := rfl
  capture _ := rfl
  setArms _ _ := rfl
  setCapture _ _ := rfl

theorem asideArms_late (late : Bool) : AsideArms (State.setLateHandling · late) where
  clock _ := rfl
  agreement _ := rfl
  config _ := rfl
  schedule _ := rfl
  outputs _ := rfl
  store _ := rfl
  setStore _ _ := rfl
  setOutputs _ _ := rfl
  setSchedule _ _ := rfl
  arms _ := rfl
  capture _ := rfl
  setArms _ _ := rfl
  setCapture _ _ := rfl

theorem foldl_aside {α : Type} {g : State → State} {f : State → α → State} (h : ∀ s a, f (g s) a = g (f s a)) (as : List α)
    (s : State) : as.foldl f (g s) = g (as.foldl f s) := by
  induction as generalizing s with
  | nil => rfl
  | cons a as ih => rw [List.foldl_cons, List.foldl_cons, h, ih]

theorem ite_aside {c d : Prop} [Decidable c] [Decidable d] {g : State → State} {a b a' b' : State} (hc : c ↔ d)
    (ha : a' = g a) (hb : b' = g b) : (if c then a' else b') = g (if d then a else b) := by
  rw [ha, hb, apply_ite g]
  exact ite_congr (propext hc) (fun _ => rfl) fun _ => rfl

namespace Aside

variable {g : State → State} (h : Aside g) (s : State)

include h

theorem len : (g s).len = s.len := by rw [State.len, h.config]; rfl

theorem now : (g s).now = s.now := congrArg LineClock.now (h.clock s)

theorem storeNow : (g s).storeNow = s.storeNow := by rw [State.storeNow, h.clock]; rfl

theorem acting : (g s).acting = s.acting := by rw [State.acting, h.agreement]; rfl

theorem sureState : (g s).sureState = s.sureState := by rw [State.sureState, h.agreement]; rfl

theorem noteNow (code : NoteCode) (detail : Byte) (origin : StationId) (tag : Byte) :
    noteNow (g s) code detail origin tag = Safety.noteNow s code detail origin tag := by
  rw [Safety.noteNow, h.agreement, h.clock]
  rfl

theorem takeRecord (r : EventRecord) : (g s).takeRecord r = g (s.takeRecord r) := by
  unfold State.takeRecord
  refine ite_aside (by rw [h.agreement]) rfl ?_
  rw [h.len, h.config, h.storeNow, h.store, h.setStore]

theorem note (code : NoteCode) (origin : StationId) (detail tag : Byte) :
    (g s).note code origin detail tag = g (s.note code origin detail tag) := by
  rw [State.note, h.now, h.sureState, h.takeRecord]
  rfl

theorem entryNote (code : NoteCode) (e : ScheduleEntry) : (g s).entryNote code e = g (s.entryNote code e) := h.note s ..

theorem execute (e : ScheduleEntry) : (g s).execute e = g (s.execute e) := by
  unfold State.execute
  simp only [h.outputs, h.config, h.len, h.now, h.setOutputs]
  exact ite_aside Iff.rfl (h.entryNote _ ..) rfl

theorem takeEntry (e : ScheduleEntry) : (g s).takeEntry e = g (s.takeEntry e) := by
  unfold State.takeEntry
  exact ite_aside (by rw [h.acting]) (h.execute s e) (h.entryNote s ..)

theorem entryReached : (g s).entryReached = s.entryReached := by
  funext e
  rw [State.entryReached, h.len, h.now]
  rfl

theorem lookSchedule : (g s).lookSchedule = g s.lookSchedule := by
  unfold State.lookSchedule
  refine ite_aside (by rw [h.acting, h.agreement]) ?_ rfl
  rw [h.schedule, h.entryReached, h.setSchedule, foldl_aside h.takeEntry]

theorem insertAndLook (e : ScheduleEntry) : (g s).insertAndLook e = g (s.insertAndLook e) := by
  rw [State.insertAndLook, h.schedule, h.len, h.setSchedule, h.lookSchedule]
  rfl

theorem insertFull (e : ScheduleEntry) : (g s).insertFull e = g (s.insertFull e) := by
  unfold State.insertFull
  rw [h.schedule]
  cases s.schedule.getLast? with
  | none => rfl
  | some last =>
    refine ite_aside (by rw [h.len]) ?_ (h.entryNote s ..)
    rw [h.setSchedule, h.entryNote, h.insertAndLook]

theorem insertRequest (e : ScheduleEntry) : (g s).insertRequest e = g (s.insertRequest e) := by
  unfold State.insertRequest
  exact ite_aside (by rw [h.len, h.now]) (h.entryNote s ..)
    (ite_aside (by rw [h.schedule]) (h.insertAndLook s e) (h.insertFull s e))

theorem requestOf : (g s).requestOf = s.requestOf := by
  funext sender id tag action b
  rw [State.requestOf, h.len]
  rfl

theorem applyBindings (sender : StationId) (id tag : Byte) (action : LineTime) :
    (g s).applyBindings sender id tag action = g (s.applyBindings sender id tag action) := by
  rw [State.applyBindings, h.config, h.requestOf, foldl_aside h.insertRequest]
  rfl

end Aside

namespace BesideArms

variable {g : State → State} (h : BesideArms g) (s : State)

include h

theorem releaseArm (r : ArmRecord) : (g s).releaseArm r = g (s.releaseArm r) := by
  unfold State.releaseArm
  cases r.source with
  | tap => rfl
  | input i => exact (congrArg _ (by rw [h.capture])).trans (h.setCapture s _)

theorem removeArms (p : ArmRecord → Bool) : (g s).removeArms p = g (s.removeArms p) := by
  rw [State.removeArms, h.arms, h.setArms, foldl_aside h.releaseArm]
  rfl

theorem updateArm (id : Byte) (f : ArmRecord → ArmRecord) : (g s).updateArm id f = g (s.updateArm id f) := by
  rw [State.updateArm, h.arms, h.setArms]
  rfl

end BesideArms

namespace AsideArms

variable {g : State → State} (h : AsideArms g) (s : State)

include h

theorem setHistory (sender : StationId) (es : List HistoryEntry) : (g s).setHistory sender es = g (s.setHistory sender es) := by
  rw [State.setHistory, h.arms, h.setArms]
  rfl

theorem historyOf (sender : StationId) : (g s).historyOf sender = s.historyOf sender := by
  rw [State.historyOf, h.arms]
  rfl

theorem acceptArm (sender : StationId) (id tag : Byte) (action : LineTime) :
    (g s).acceptArm sender id tag action = g (s.acceptArm sender id tag action) := by
  rw [State.acceptArm, h.historyOf, h.setHistory, h.applyBindings]
  rfl

theorem cancelArm (sender : StationId) (id : Byte) : (g s).cancelArm sender id = g (s.cancelArm sender id) := by
  rw [State.cancelArm, State.removeOrigin, h.schedule, h.historyOf, h.setSchedule, h.setHistory]
  rfl

theorem onOwnTimeline (sender : StationId) : (g s).onOwnTimeline sender = s.onOwnTimeline sender := by
  rw [State.onOwnTimeline, State.peerOf, h.agreement]
  rfl

theorem takeArm (sender : StationId) (a : ReceivedArm) : State.takeArm sender (g s) a = g (State.takeArm sender s a) := by
  unfold State.takeArm
  rw [h.onOwnTimeline, h.historyOf, h.len, h.now]
  exact ite_aside Iff.rfl (h.note s ..) (ite_aside Iff.rfl rfl (ite_aside Iff.rfl (h.note s ..)
    (ite_aside Iff.rfl (h.note s ..) (h.acceptArm s ..))))

theorem armSent (round : Round) (a : CarriedArm) : State.armSent round (g s) a = g (State.armSent round s a) := by
  unfold State.armSent
  simp only [h.updateArm, h.config, h.acceptArm, h.len, h.now]
  split
  · exact h.removeArms _ _
  · exact h.removeArms _ _

theorem cancelSent (round : Round) (a : CarriedCancel) : State.cancelSent round (g s) a = g (State.cancelSent round s a) := by
  unfold State.cancelSent
  simp only [h.arms, h.config, h.setArms, h.cancelArm]
  split
  · rw [h.arms, h.setArms]
  · rw [h.arms, h.setArms]

end AsideArms

end Sys2Proof.Machine

/-! Records that leave the arm outbox together, as passed or with a step (R45, R53, R54). -/

namespace Sys2Proof.Machine

set_option Elab.async false

open Safety

namespace State

theorem removeArms_outbox_eq (s : State) (p : ArmRecord → Bool) :
    (s.removeArms p).arms.outbox = s.arms.outbox.filter fun r => !p r := by
  rw [removeArms_eq]
  rfl

/-- Which records leave is a matter of the records that are there. -/
theorem removeArms_congr {s : State} {p q : ArmRecord → Bool} (h : ∀ r ∈ s.arms.outbox, p r = q r) :
    s.removeArms p = s.removeArms q := by
  have hleave : s.arms.outbox.filter p = s.arms.outbox.filter q := List.filter_congr h
  have hstay : (s.arms.outbox.filter fun r => !p r) = s.arms.outbox.filter fun r => !q r :=
    List.filter_congr fun r hr => by rw [h r hr]
  rw [removeArms, removeArms, hleave, hstay]

theorem removeArms_removeArms_filters (s : State) (p q : ArmRecord → Bool) (j : Fin 8) :
    ((s.removeArms p).removeArms q).capture.filters[j] = (s.removeArms fun r => p r || q r).capture.filters[j] := by
  have hfirst := removeArms_filters s p j
  rw [removeArms_filters (s.removeArms p), removeArms_filters s fun r => p r || q r, removeArms_outbox_eq]
  by_cases hp : ∃ r ∈ s.arms.outbox, p r = true ∧ r.source ≠ .tap ∧ (s.capture.filters[j]).outstanding = some r.id
  · rw [if_pos hp] at hfirst
    obtain ⟨r, hr, hpr, hrest⟩ := hp
    refine ((if_neg ?_).trans hfirst).trans (if_pos ⟨r, hr, by rw [hpr, Bool.true_or], hrest⟩).symm
    rintro ⟨x, -, -, -, hx⟩
    rw [hfirst] at hx
    simp at hx
  · rw [if_neg hp] at hfirst
    rw [hfirst]
    refine if_congr ⟨?_, ?_⟩ rfl rfl
    · rintro ⟨r, hr, hqr, hrest⟩
      exact ⟨r, (List.mem_filter.1 hr).1, by rw [hqr, Bool.or_true], hrest⟩
    · rintro ⟨r, hr, hpq, hrest⟩
      have hnot : p r = false := Bool.eq_false_iff.2 fun hpr => hp ⟨r, hr, hpr, hrest⟩
      exact ⟨r, List.mem_filter.2 ⟨hr, by rw [hnot]; rfl⟩, by rwa [hnot, Bool.false_or] at hpq, hrest⟩

/-- Records that leave in two goes leave as in one. -/
theorem removeArms_removeArms (s : State) (p q : ArmRecord → Bool) :
    (s.removeArms p).removeArms q = s.removeArms fun r => p r || q r := by
  have hfilters : ((s.removeArms p).removeArms q).capture.filters = (s.removeArms fun r => p r || q r).capture.filters :=
    Vector.ext fun j hj => removeArms_removeArms_filters s p q ⟨j, hj⟩
  have houtbox : ((s.removeArms p).arms.outbox.filter fun r => !q r) = s.arms.outbox.filter fun r => !(p r || q r) := by
    rw [removeArms_outbox_eq, List.filter_filter]
    refine List.filter_congr fun r _ => ?_
    rw [Bool.not_or, Bool.and_comm]
  rw [removeArms_eq (s.removeArms p) q, removeArms_eq s fun r => p r || q r, hfilters, houtbox, removeArms_eq s p]
  rfl

theorem removeArms_setStore (s : State) (x : EventStore) (p : ArmRecord → Bool) :
    (s.setStore x).removeArms p = (s.removeArms p).setStore x := (besideArms_setStore x).removeArms s p

theorem takeRecord_removeArms (s : State) (p : ArmRecord → Bool) (r : EventRecord) :
    (s.removeArms p).takeRecord r = (s.takeRecord r).removeArms p := by
  rw [takeRecord_eq s r, removeArms_setStore, removeArms_eq s p, (aside_setCapture _).takeRecord, (aside_setArms _).takeRecord,
    takeRecord_eq s r]
  rfl

theorem expiryNote_removeArms (s : State) (p : ArmRecord → Bool) (r : ArmRecord) :
    (s.removeArms p).expiryNote r = (s.expiryNote r).removeArms p := by
  cases h : r.effective with
  | true => rw [expiryNote_of_effective _ h, expiryNote_of_effective _ h]
  | false =>
    rw [expiryNote_of_not_effective _ h, expiryNote_of_not_effective _ h, takeRecord_removeArms, removeArms_eq s p]
    rfl

/-- The ARM-EXPIRED note of a record, as the station's state gives it (R53, R54). -/
def expiredNote (s : State) (r : ArmRecord) : EventRecord := noteNow s .armExpired r.id s.config.id r.tag

theorem foldl_expiryNote (rs : List ArmRecord) (s : State) :
    rs.foldl expiryNote s = ((rs.filter fun r => !r.effective).map s.expiredNote).foldl takeRecord s := by
  induction rs generalizing s with
  | nil => rfl
  | cons r rs ih =>
    rw [List.foldl_cons, ih]
    cases h : r.effective with
    | true => rw [expiryNote_of_effective _ h, List.filter_cons_of_neg (by simp [h])]
    | false =>
      have hsame : (s.expiryNote r).expiredNote = s.expiredNote := by
        rw [expiryNote_eq]
        rfl
      rw [List.filter_cons_of_pos (by simp [h]), List.map_cons, List.foldl_cons, hsame, expiryNote_of_not_effective _ h]
      rfl

theorem foldl_expireArm (rs : List ArmRecord) (s : State) :
    rs.foldl expireArm s = (rs.foldl expiryNote s).removeArms fun x => rs.any fun r => x.id == r.id := by
  induction rs using List.reverseRecOn generalizing s with
  | nil => exact (removeArms_none fun x _ => rfl).symm
  | append_singleton rs r ih =>
    rw [List.foldl_append, List.foldl_cons, List.foldl_nil, ih, expireArm_eq, expiryNote_removeArms, removeArms_removeArms,
      List.foldl_append, List.foldl_cons, List.foldl_nil]
    simp only [List.any_append, List.any_cons, List.any_nil, Bool.or_false]

/-- Records that leave as passed: their notes are taken, oldest first, and they leave the outbox (R45, R53, R54). -/
theorem expireWhere_eq {s : State} (hids : (s.arms.outbox.map (·.id)).Nodup) (p : ArmRecord → Bool) :
    s.expireWhere p =
      ((((s.arms.outbox.filter fun r => p r && !r.effective).map s.expiredNote).foldl takeRecord s)).removeArms p := by
  have hnotes : ((s.arms.outbox.filter p).filter fun r => !r.effective) = s.arms.outbox.filter fun r => p r && !r.effective := by
    rw [List.filter_filter]
    exact List.filter_congr fun r _ => Bool.and_comm ..
  rw [expireWhere, foldl_expireArm, foldl_expiryNote, hnotes]
  have houtbox : ((((s.arms.outbox.filter fun r => p r && !r.effective).map s.expiredNote).foldl takeRecord s)).arms.outbox =
      s.arms.outbox := (Frame.foldl takeRecord_frame _ s).same .outbox
  refine removeArms_congr fun x hx => ?_
  rw [houtbox] at hx
  rw [Bool.eq_iff_iff, List.any_eq_true]
  constructor
  · rintro ⟨r, hr, hid⟩
    obtain ⟨hr, hp⟩ := List.mem_filter.1 hr
    rwa [eq_of_id_eq hids hx hr (by simpa using hid)]
  · exact fun hp => ⟨x, List.mem_filter.2 ⟨hx, hp⟩, by simp⟩

end State

end Sys2Proof.Machine

/-! What a handled ARM, CANCEL or TIME frame does (R19 to R24, R62 to R66). -/

namespace Sys2Proof.Machine

set_option Elab.async false

open Safety

/-! ### The arm history -/

theorem makeRoom_eq (es : List HistoryEntry) : makeRoom es = if 8 ≤ es.length then es.drop 1 else es := rfl

/-- In a list whose other entries are not of the id, the entry of the id is alone in its place. -/
theorem historyFilter_split {id : Byte} {before after : List HistoryEntry} {e : HistoryEntry} (hid : e.id = id)
    (hothers : ∀ x ∈ before ++ after, x.id ≠ id) : (before ++ e :: after).filter (fun x => x.id != id) = before ++ after := by
  have hbefore : before.filter (fun x => x.id != id) = before :=
    List.filter_eq_self.2 fun x hx => bne_iff_ne.2 (hothers x (List.mem_append_left _ hx))
  have hafter : after.filter (fun x => x.id != id) = after :=
    List.filter_eq_self.2 fun x hx => bne_iff_ne.2 (hothers x (List.mem_append_right _ hx))
  rw [List.filter_append, List.filter_cons_of_neg (by simp [hid]), hbefore, hafter]

theorem enterHistory_of_absent {id : Byte} (tag : Byte) (action : LineTime) {es : List HistoryEntry} (h : ∀ e ∈ es, e.id ≠ id) :
    enterHistory id tag action es = (if 8 ≤ es.length then es.drop 1 else es) ++ [⟨id, .accepted tag action⟩] := by
  rw [enterHistory, List.filter_eq_self.2 fun e he => bne_iff_ne.2 (h e he), makeRoom_eq]

theorem enterHistory_of_present {id : Byte} (tag : Byte) (action : LineTime) {before after : List HistoryEntry}
    {e : HistoryEntry} (hid : e.id = id) (hothers : ∀ x ∈ before ++ after, x.id ≠ id) :
    enterHistory id tag action (before ++ e :: after) =
      (if 8 ≤ (before ++ after).length then (before ++ after).drop 1 else before ++ after) ++ [⟨id, .accepted tag action⟩] := by
  rw [enterHistory, historyFilter_split hid hothers, makeRoom_eq]

theorem cancelHistory_of_absent {id : Byte} {es : List HistoryEntry} (h : ∀ e ∈ es, e.id ≠ id) :
    cancelHistory id es = (if 8 ≤ es.length then es.drop 1 else es) ++ [⟨id, .placeholder⟩] := by
  rw [cancelHistory, if_neg (by simpa using h), makeRoom_eq]

/-- An entry that is there is cancelled in its place. -/
theorem cancelHistory_of_present {id : Byte} {before after : List HistoryEntry} {e : HistoryEntry} (hid : e.id = id)
    (hothers : ∀ x ∈ before ++ after, x.id ≠ id) : cancelHistory id (before ++ e :: after) = before ++ e.cancel :: after := by
  have unchanged : ∀ xs : List HistoryEntry, xs ⊆ before ++ after →
      xs.map (fun x => if x.id == id then x.cancel else x) = xs := fun xs hxs =>
    (List.map_congr_left fun x hx => if_neg (by simpa using hothers x (hxs hx))).trans (List.map_id _)
  rw [cancelHistory, if_pos (by simp [hid]), List.map_append, List.map_cons, if_pos (by simpa using hid),
    unchanged before (List.subset_append_left _ _), unchanged after (List.subset_append_right _ _)]

theorem HistoryEntry.cancel_accepted {e : HistoryEntry} {tag : Byte} {action : LineTime} (h : e.status = .accepted tag action) :
    e.cancel = ⟨e.id, .cancelled tag action⟩ := by
  simp [HistoryEntry.cancel, h]

theorem HistoryEntry.cancel_of_not_accepted {e : HistoryEntry} (h : ∀ tag action, e.status ≠ .accepted tag action) :
    e.cancel = e := by
  unfold HistoryEntry.cancel
  split
  next tag action haccepted => exact absurd haccepted (h tag action)
  · rfl

theorem HistoryEntry.cancel_not_accepted (e : HistoryEntry) (tag : Byte) (action : LineTime) :
    e.cancel.status ≠ .accepted tag action := by
  unfold HistoryEntry.cancel
  split
  · simp
  next hother => exact hother tag action

/-- The entry of a cancelled id is not ACCEPTED. -/
theorem cancelHistory_not_accepted {id : Byte} {es : List HistoryEntry} {h : HistoryEntry} (hh : h ∈ cancelHistory id es)
    (hid : h.id = id) (tag : Byte) (action : LineTime) : h.status ≠ .accepted tag action := by
  unfold cancelHistory at hh
  split at hh
  · obtain ⟨x, hx, rfl⟩ := List.mem_map.1 hh
    by_cases hxid : x.id = id
    · rw [if_pos (by simpa using hxid)]
      exact x.cancel_not_accepted tag action
    · rw [if_neg (by simpa using hxid)] at hid
      exact absurd hid hxid
  next habsent =>
    rcases List.mem_append.1 hh with hh | hh
    · exact absurd (List.any_eq_true.2 ⟨h, State.mem_makeRoom hh, by simpa using hid⟩) habsent
    · obtain rfl := List.mem_singleton.1 hh
      simp

/-- After the cancels of several ids, the entry of none of them is ACCEPTED. -/
theorem cancelHistories_not_accepted (ids : List Byte) (es : List HistoryEntry) {h : HistoryEntry}
    (hh : h ∈ ids.foldl (fun es id => cancelHistory id es) es) (hid : h.id ∈ ids) (tag : Byte) (action : LineTime) :
    h.status ≠ .accepted tag action := by
  induction ids using List.reverseRecOn with
  | nil => simp at hid
  | append_singleton ids id ih =>
    rw [List.foldl_append, List.foldl_cons, List.foldl_nil] at hh
    by_cases hlast : h.id = id
    · exact cancelHistory_not_accepted hh hlast tag action
    · exact ih (State.mem_cancelHistory hh hlast) (by simpa [hlast] using hid)

/-- The entry of an id in a list of distinct ids. -/
theorem findHistory_eq_some {id : Byte} {es : List HistoryEntry} {h : HistoryEntry} (hids : (es.map (·.id)).Nodup) (hh : h ∈ es)
    (hid : h.id = id) : findHistory id es = some h := by
  induction es with
  | nil => simp at hh
  | cons e es ih =>
    obtain ⟨hnew, hrest⟩ := List.nodup_cons.1 (List.map_cons .. ▸ hids)
    rcases List.mem_cons.1 hh with rfl | hh
    · simp [findHistory, hid]
    · have hne : e.id ≠ id := fun he => hnew (List.mem_map.2 ⟨h, hh, hid.trans he.symm⟩)
      exact (List.find?_cons_of_neg (by simpa using hne)).trans (ih hrest hh)

theorem findHistory_eq_none {id : Byte} {es : List HistoryEntry} (h : ∀ e ∈ es, e.id ≠ id) : findHistory id es = none :=
  List.find?_eq_none.2 (by simpa using h)

theorem isNewArm_of_entry {tag : Byte} {action : LineTime} {h : HistoryEntry} :
    isNewArm tag action (some h) = true ↔
      h.status ≠ .accepted tag action ∧ h.status ≠ .cancelled tag action ∧ h.status ≠ .placeholder := by
  unfold isNewArm
  obtain ⟨id, status⟩ := h
  cases status with
  | accepted t a => simp [imp_iff_not_or]
  | cancelled t a => simp [imp_iff_not_or]
  | placeholder => simp

/-- Whether an arm is new: its id is unknown, or was used for another arm (R63). -/
theorem isNewArm_findHistory {id tag : Byte} {action : LineTime} {es : List HistoryEntry} (hids : (es.map (·.id)).Nodup) :
    isNewArm tag action (findHistory id es) = true ↔ ∀ h ∈ es, h.id = id →
      h.status ≠ .accepted tag action ∧ h.status ≠ .cancelled tag action ∧ h.status ≠ .placeholder := by
  by_cases hpresent : ∃ h ∈ es, h.id = id
  · obtain ⟨h, hh, hid⟩ := hpresent
    rw [findHistory_eq_some hids hh hid, isNewArm_of_entry]
    refine ⟨fun hnew x hx hxid => ?_, fun hall => hall h hh hid⟩
    have hsame : some x = some h := (findHistory_eq_some hids hx hxid).symm.trans (findHistory_eq_some hids hh hid)
    rwa [Option.some.inj hsame]
  · have habsent : ∀ h ∈ es, h.id ≠ id := fun h hh hid => hpresent ⟨h, hh, hid⟩
    rw [findHistory_eq_none habsent]
    exact ⟨fun _ h hh hid => absurd hid (habsent h hh), fun _ => rfl⟩

namespace State

/-! ### CANCEL frames -/

/-- The cancels of several ids, taken together (R66). -/
theorem foldl_cancelArm (sender : StationId) (ids : List Byte) (s : State) :
    ids.foldl (fun s id => s.cancelArm sender id) s =
      (s.setSchedule (s.schedule.filter fun e => !(e.sender == sender && ids.contains e.armId))).setHistory sender
        (ids.foldl (fun es id => cancelHistory id es) (s.historyOf sender)) := by
  induction ids generalizing s with
  | nil =>
    have hall : (s.schedule.filter fun e => !(e.sender == sender && ([] : List Byte).contains e.armId)) = s.schedule := by simp
    rw [hall]
    simp [setHistory, historyOf, setArms, setSchedule]
  | cons id ids ih =>
    have hschedule : (s.cancelArm sender id).schedule = s.schedule.filter fun e => !(e.sender == sender && e.armId == id) := rfl
    have hhistory : (s.cancelArm sender id).historyOf sender = cancelHistory id (s.historyOf sender) :=
      historyOf_setHistory ..
    rw [List.foldl_cons, ih, hschedule, hhistory, List.filter_filter]
    have hsame : (fun e : ScheduleEntry => !(e.sender == sender && ids.contains e.armId) && !(e.sender == sender && e.armId == id)) =
        fun e => !(e.sender == sender && (id :: ids).contains e.armId) := by
      funext e
      rw [List.contains_cons]
      cases e.sender == sender <;> cases e.armId == id <;> simp
    rw [hsame, List.foldl_cons]
    simp [cancelArm, setHistory, setArms, setSchedule, removeOrigin]

/-! ### ARM frames -/

theorem latestAction_eq (t : LineTime) : latestAction t = timeAddRounds t 250 := rfl

section TakeArm

variable {s : State} {sender : StationId} {a : ReceivedArm}

theorem takeArm_of_foreign (h : (s.peerOf sender).state ≠ .live ∨ (s.peerOf sender).founder ≠ s.agreement.founder) :
    takeArm sender s a = s.takeRecord (noteNow s .armForeign a.id sender a.tag) := by
  have hforeign : ¬s.onOwnTimeline sender = true := by
    rw [onOwnTimeline_iff]
    rintro ⟨hlive, own, hfounder, hown⟩
    exact h.elim (· hlive) (· (hfounder.trans hown.symm))
  rw [takeArm, if_pos (by simpa using hforeign), note_eq_noteNow]

theorem takeArm_of_known (htimeline : s.onOwnTimeline sender = true)
    (h : isNewArm a.tag a.action (findHistory a.id (s.historyOf sender)) = false) : takeArm sender s a = s := by
  rw [takeArm, htimeline, h]
  rfl

variable (htimeline : s.onOwnTimeline sender = true)
  (hnew : isNewArm a.tag a.action (findHistory a.id (s.historyOf sender)) = true)

include htimeline hnew

theorem takeArm_of_new : takeArm sender s a =
    if earlier s.len a.action s.now then s.note .armLate sender a.id a.tag
    else if later s.len a.action (latestAction s.now) then s.note .armFar sender a.id a.tag
    else s.acceptArm sender a.id a.tag a.action := by
  rw [takeArm, htimeline, hnew]
  rfl

theorem takeArm_of_late (h : earlier s.len a.action s.clock.now = true) :
    takeArm sender s a = s.takeRecord (noteNow s .armLate a.id sender a.tag) := by
  rw [takeArm_of_new htimeline hnew, State.now, if_pos h, note_eq_noteNow]

theorem takeArm_of_far (h : earlier s.len a.action s.clock.now = false)
    (hfar : later s.len a.action (timeAddRounds s.clock.now 250) = true) :
    takeArm sender s a = s.takeRecord (noteNow s .armFar a.id sender a.tag) := by
  rw [takeArm_of_new htimeline hnew, State.now, if_neg (ne_true_of_eq_false h), latestAction_eq, if_pos hfar, note_eq_noteNow]

theorem takeArm_of_within (h : earlier s.len a.action s.clock.now = false)
    (hfar : later s.len a.action (timeAddRounds s.clock.now 250) = false) :
    takeArm sender s a = s.acceptArm sender a.id a.tag a.action := by
  rw [takeArm_of_new htimeline hnew, State.now, if_neg (ne_true_of_eq_false h), latestAction_eq, if_neg (ne_true_of_eq_false hfar)]

end TakeArm

/-- An accepted arm is entered in the history, and each binding of its tag makes one request (R44, R64). -/
theorem acceptArm_eq (s : State) (sender : StationId) (id tag : Byte) (action : LineTime) :
    s.acceptArm sender id tag action = (requestsOf s sender id tag action).foldl insertRequest
      (s.setHistory sender (enterHistory id tag action (s.historyOf sender))) := rfl

/-- A request that an empty Schedule takes ahead of its due time. -/
theorem insertRequest_alone {s : State} {e : ScheduleEntry} (hempty : s.schedule = [])
    (hearly : earlier s.len s.now e.due = true) (hlate : earlier s.len e.due s.now = false) :
    (s.insertRequest e).schedule = [e] := by
  rw [insertRequest_room hlate (by simp [hempty]), insertAndLook_ahead (by simp [hempty]) hearly, hempty]
  rfl

theorem requestsOf_of_unbound {s : State} (sender : StationId) (id : Byte) {tag : Byte} (action : LineTime)
    (h : ∀ b ∈ s.config.bindings, b.tag ≠ tag) : requestsOf s sender id tag action = [] := by
  have hnone : (s.config.bindings.zipIdx.filter fun b => b.1.tag == tag) = [] :=
    List.filter_eq_nil_iff.2 fun b hb => by simpa using h b.1 (List.fst_mem_of_mem_zipIdx hb)
  rw [requestsOf, hnone, List.map_nil]

theorem requestsOf_single {s : State} (sender : StationId) (id : Byte) {tag : Byte} (action : LineTime) {b : Binding}
    (hbindings : s.config.bindings = [b]) (htag : b.tag = tag) :
    requestsOf s sender id tag action = [⟨timeAdd s.len action b.offset, b.output, b.action, sender, id, tag, 0⟩] := by
  simp [requestsOf, hbindings, htag]

end State

open State

/-- Settles O23. -/
theorem cancelFrameRemovesByOrigin : Obligations.CancelFrameRemovesByOrigin := by
  refine ⟨fun s f after hends hkind => ?_, fun id es => ⟨cancelHistory_of_absent, ?_⟩⟩
  · have hover : s.handOver f = s.takeCancelFrame f.sender (cancelIds f.body) := by simp [handOver, hkind]
    refine ⟨fun hstate => ⟨?_, fun h hh => cancelHistories_not_accepted _ _ hh⟩, fun hstate => ?_⟩
    · have htakes : (s.acting || s.agreement.state == .adrift) = true := by
        rw [Bool.or_eq_true, acting_iff, beq_iff_eq]
        exact hstate
      rw [exec_frameHandlingEnd hends, hover, takeCancelFrame, if_pos htakes, foldl_cancelArm]
      rfl
    · have hignores : ¬(s.acting || s.agreement.state == .adrift) = true := by
        rw [Bool.or_eq_true, acting_iff, beq_iff_eq]
        rcases hstate with h | h <;> simp [Acting, h]
      rw [exec_frameHandlingEnd hends, hover, takeCancelFrame, if_neg hignores]
      rfl
  · rintro before e after rfl hid hothers
    rw [cancelHistory_of_present hid hothers]
    exact ⟨fun tag action haccepted => by rw [HistoryEntry.cancel_accepted haccepted, hid],
      fun hother => by rw [HistoryEntry.cancel_of_not_accepted hother]⟩

/-- Settles O24. -/
theorem newArmIsEnteredAndBound : Obligations.NewArmIsEnteredAndBound := by
  refine ⟨fun s f after hends hkind => ?_, fun s sender a hdistinct => ⟨takeArm_of_foreign, fun hlive hown => ?_⟩,
    fun id tag action es => ⟨enterHistory_of_absent tag action, ?_⟩⟩
  · have hover : s.handOver f = s.takeArmFrame f.sender (armEntries s.len f.body) := by simp [handOver, hkind]
    refine ⟨fun hacting => ?_, fun hacting => ?_⟩
    · rw [exec_frameHandlingEnd hends, hover, takeArmFrame, if_pos ((acting_iff s).2 hacting)]
      have hsame := foldl_aside (fun u a => (asideArms_late false).takeArm u f.sender a) (armEntries s.len f.body) s
      exact congrArg (fun u : State => Host.Outcome.next (u.setFramer after)) hsame.symm
    · rw [exec_frameHandlingEnd hends, hover, takeArmFrame, if_neg (mt (acting_iff s).1 hacting)]
      rfl
  · have htimeline : s.onOwnTimeline sender = true := (onOwnTimeline_iff s sender).2
      ⟨hlive, hown.imp fun own h => ⟨h.2, h.1⟩⟩
    have hids : ((s.historyOf sender).map (·.id)).Nodup := by
      obtain ⟨-, -, hhistory⟩ := hdistinct
      exact hhistory (stationIx sender)
    refine ⟨fun h hh hid hstatus => takeArm_of_known htimeline ?_, fun hothers => ?_⟩
    · rw [Bool.eq_false_iff, ne_eq, isNewArm_findHistory hids]
      intro hall
      obtain ⟨h1, h2, h3⟩ := hall h hh hid
      exact hstatus.elim h1 (·.elim h2 h3)
    · have hnew := (isNewArm_findHistory hids).2 hothers
      refine ⟨takeArm_of_late htimeline hnew, takeArm_of_far htimeline hnew, fun hlate hfar => ?_⟩
      rw [takeArm_of_within htimeline hnew hlate hfar, acceptArm_eq]
      refine ⟨rfl, fun hunbound => ?_, fun b hbindings htag hempty hearly hlate => ?_⟩
      · rw [requestsOf_of_unbound sender a.id a.action hunbound]
        exact ⟨rfl, rfl⟩
      · rw [requestsOf_single sender a.id a.action hbindings htag]
        exact insertRequest_alone hempty hearly hlate
  · rintro before e after rfl hid hothers
    exact enterHistory_of_present tag action hid hothers

/-! ### TIME frames -/

namespace State

/-- The offset of a TIME frame is the one that `FrameOffset` names. -/
theorem frameOffset_eq {s : State} {f : ReceivedFrame} {x : Option Int} (h : FrameOffset s f x) :
    s.frameOffset f.stamp f.adjust (carriedTime s.len (numAt f.body 2 3) (numAt f.body 5 3)) = x := by
  obtain ⟨d, hd, hx⟩ := h
  have hdiff : timeDiff s.len f.stamp
      (timeAdd s.len (carriedTime s.len (numAt f.body 2 3) (numAt f.body 5 3)) s.config.lineDelay) = d := hd.symm
  unfold frameOffset
  rw [hdiff]
  rcases hx with ⟨hlast, rfl⟩ | ⟨hlast, hx⟩
  · exact if_pos hlast
  refine (if_neg hlast).trans ?_
  rcases hx with ⟨hcount, rfl⟩ | ⟨hcount, hx⟩ | ⟨hne, hmore, rfl⟩
  · exact if_pos hcount.symm
  · have hne : s.agreement.adjustCount ≠ f.adjust := by rw [hcount]; bv_omega
    refine (if_neg hne).trans ((if_pos hcount).trans ?_)
    rcases hx with ⟨c, hlast, rfl⟩ | ⟨hlast, rfl⟩
    · rw [hlast]
    · rw [hlast]
  · exact (if_neg hne.symm).trans (if_neg hmore)

/-- The state byte of a TIME frame (11.3). -/
theorem senderStateOf_eq {b : Byte} {sent : AgreementState} (h : b = 2 ∧ sent = .alone ∨ b = 3 ∧ sent = .gathering ∨
    b = 4 ∧ sent = .locked ∨ b = 5 ∧ sent = .adrift) : senderStateOf b = some sent := by
  rcases h with ⟨rfl, rfl⟩ | ⟨rfl, rfl⟩ | ⟨rfl, rfl⟩ | ⟨rfl, rfl⟩ <;> rfl

theorem handOver_time {s : State} {f : ReceivedFrame} {sent : AgreementState} (hkind : f.kind = .time)
    (hsent : senderStateOf (byteAt f.body 0) = some sent) : s.handOver f = s.takeTimeFrame f.sender sent (byteAt f.body 1)
      (carriedTime s.len (numAt f.body 2 3) (numAt f.body 5 3)) f.stamp f.adjust := by
  unfold handOver
  simp only [hkind, hsent]

theorem takeTimeFrame_of_unset {s : State} (h : s.agreement.state = .unset) (sender : StationId) (state : AgreementState)
    (founder : StationId) (sent stamp : LineTime) (noted : Byte) : s.takeTimeFrame sender state founder sent stamp noted = s :=
  if_pos h

section TakeTimeFrame

variable {s : State} {sender : StationId} {state : AgreementState} {founder : StationId} {sent stamp : LineTime} {noted : Byte}
  {x : Option Int}

/-- A TIME frame that causes no adoption changes its sender's entry alone (R21). -/
theorem takeTimeFrame_of_no_adoption (hset : s.agreement.state ≠ .unset) (hoffset : s.frameOffset stamp noted sent = x)
    (h : (s.peerOf sender).state = .barred ∨ s.adopts state founder = false ∨ x = none) :
    s.takeTimeFrame sender state founder sent stamp noted =
      s.setPeer sender ((s.peerOf sender).heardFrom state founder x s.closingRound) := by
  unfold takeTimeFrame
  simp only [if_neg hset, hoffset]
  by_cases hadopts : (s.peerOf sender).state ≠ .barred ∧ s.adopts state founder = true
  · obtain ⟨hbarred, hadopts⟩ := hadopts
    obtain rfl : x = none := h.elim (absurd · hbarred) (·.resolve_left (by simp [hadopts]))
    simp
  · rw [if_neg hadopts]

/-- A TIME frame that causes an adoption changes its sender's entry first (R24, R25). -/
theorem takeTimeFrame_of_adoption {o : Int} (hset : s.agreement.state ≠ .unset) (hoffset : s.frameOffset stamp noted sent = some o)
    (hbarred : (s.peerOf sender).state ≠ .barred) (hadopts : s.adopts state founder = true) :
    s.takeTimeFrame sender state founder sent stamp noted =
      (s.setPeer sender ((s.peerOf sender).heardFrom state founder (some o) s.closingRound)).adopt founder o := by
  unfold takeTimeFrame
  simp only [if_neg hset, hoffset]
  rw [if_pos ⟨hbarred, hadopts⟩]

/-- Which TIME frames cause no adoption for their sender's state or founder (R24). -/
theorem adopts_eq_false (h : state = .gathering ∨ state = .adrift ∨
    Acting s ∧ ∀ own, s.agreement.founder = some own → own.toNat ≤ founder.toNat) : s.adopts state founder = false := by
  unfold adopts
  rcases h with rfl | rfl | ⟨hacting, hfounder⟩
  · rfl
  · rfl
  · have hlower : (match s.agreement.founder with
        | none => false
        | some own => decide (founder.toNat < own.toNat)) = false := by
      split
      · rfl
      next own hown => exact decide_eq_false (Nat.not_lt.2 (hfounder own hown))
    rcases hacting with hstate | hstate | hstate <;> rw [hstate] <;> exact (congrArg _ hlower).trans (Bool.and_false _)

end TakeTimeFrame

end State

/-! The update of the sender's entry (R21). -/

section HeardFrom

variable (sender : AgreementState) (founder : StationId) (x : Option Int) (round : Round) {p : Peer}

theorem Peer.heardFrom_senderState : (p.heardFrom sender founder x round).senderState = some sender := by
  unfold Peer.heardFrom
  cases p.state <;> cases x <;> rfl

theorem Peer.heardFrom_founder : (p.heardFrom sender founder x round).founder = some founder := by
  unfold Peer.heardFrom
  cases p.state <;> cases x <;> rfl

theorem Peer.heardFrom_barred (h : p.state = .barred) :
    p.heardFrom sender founder x round = { p with senderState := some sender, founder := some founder } := by
  simp only [Peer.heardFrom, h]

/-- An entry that is not BARRED becomes or stays LIVE and heard. -/
theorem Peer.heardFrom_live (h : p.state ≠ .barred) : (p.heardFrom sender founder x round).state = .live ∧
    (p.heardFrom sender founder x round).heard = true ∧ (p.heardFrom sender founder x round).silent = 0 := by
  unfold Peer.heardFrom
  cases hstate : p.state with
  | barred => exact absurd hstate h
  | absent => cases x <;> exact ⟨rfl, rfl, rfl⟩
  | live => cases x <;> exact ⟨hstate, rfl, rfl⟩

theorem Peer.heardFrom_offset (h : p.state ≠ .barred) (o : Int) : (p.heardFrom sender founder (some o) round).fresh = true ∧
    (p.heardFrom sender founder (some o) round).offset = some o ∧
      (p.heardFrom sender founder (some o) round).offsetRound = some round := by
  unfold Peer.heardFrom
  cases hstate : p.state with
  | barred => exact absurd hstate h
  | absent | live => exact ⟨rfl, rfl, rfl⟩

theorem Peer.heardFrom_none (h : p.state ≠ .barred) : (p.heardFrom sender founder .none round).fresh = p.fresh ∧
    (p.heardFrom sender founder .none round).offset = p.offset ∧
      (p.heardFrom sender founder .none round).offsetRound = p.offsetRound := by
  unfold Peer.heardFrom
  cases hstate : p.state with
  | barred => exact absurd hstate h
  | absent | live => exact ⟨rfl, rfl, rfl⟩

theorem Peer.heardFrom_of_live (h : p.state = .live) : (p.heardFrom sender founder x round).strikes = p.strikes ∧
    (p.heardFrom sender founder x round).barred = p.barred := by
  unfold Peer.heardFrom
  cases x <;> simp [h]

theorem Peer.heardFrom_of_absent (h : p.state = .absent) : (p.heardFrom sender founder x round).strikes = 0 ∧
    (p.heardFrom sender founder x round).barred = 0 := by
  unfold Peer.heardFrom
  cases x <;> simp [h]

end HeardFrom

/-- Settles O20. -/
theorem timeFrameUpdatesThePeerEntry : Obligations.TimeFrameUpdatesThePeerEntry := by
  refine ⟨fun s f after sent x hends hkind hset hbyte hx hno => ?_, fun s f after hends hkind hunset => ?_⟩
  · have hover := (handOver_time (s := s) hkind (senderStateOf_eq hbyte)).trans
      (takeTimeFrame_of_no_adoption hset (frameOffset_eq hx) ?_)
    · refine ⟨_, by rw [exec_frameHandlingEnd hends, hover]; rfl, Peer.heardFrom_senderState .., Peer.heardFrom_founder ..,
        Peer.heardFrom_barred _ _ _ _, fun hbarred => ?_, Peer.heardFrom_of_live _ _ _ _, Peer.heardFrom_of_absent _ _ _ _⟩
      obtain ⟨hlive, hheard, hsilent⟩ := Peer.heardFrom_live sent (byteAt f.body 1) x s.closingRound hbarred
      refine ⟨hlive, hheard, hsilent, ?_, ?_⟩
      · rintro o rfl
        exact Peer.heardFrom_offset sent _ _ hbarred o
      · rintro rfl
        exact Peer.heardFrom_none sent _ _ hbarred
    · rcases hno with h | h | h | h | h
      · exact .inr (.inl (adopts_eq_false (.inl h)))
      · exact .inr (.inl (adopts_eq_false (.inr (.inl h))))
      · exact .inl h
      · exact .inr (.inr h)
      · exact .inr (.inl (adopts_eq_false (.inr (.inr h))))
  · have hover : s.handOver f = s := by
      unfold handOver
      simp only [hkind]
      split
      · rfl
      · exact takeTimeFrame_of_unset hunset ..
    rw [exec_frameHandlingEnd hends, hover]
    rfl

end Sys2Proof.Machine

/-! The ends of an attempt to send: what they report to the owners of the content, and to the transmitter (R51, R59, R147 to
R150). -/

namespace Sys2Proof.Machine

set_option Elab.async false

open Safety

/-- In a list of distinct keys split at one element, the others have other keys. -/
theorem key_ne_of_split {α : Type} {key : α → Byte} {xs before after : List α} {r : α} (hids : (xs.map key).Nodup)
    (hsplit : xs = before ++ r :: after) : ∀ x ∈ before ++ after, key x ≠ key r := by
  subst hsplit
  rw [List.map_append, List.map_cons, List.nodup_append, List.nodup_cons] at hids
  obtain ⟨-, ⟨hafter, -⟩, hbefore⟩ := hids
  intro x hx
  rcases List.mem_append.1 hx with hx | hx
  · exact hbefore _ (List.mem_map_of_mem hx) _ List.mem_cons_self
  · exact fun hid => hafter (hid ▸ List.mem_map_of_mem hx)

/-- A change of the element of one key leaves the others in their places. -/
theorem map_of_split {α : Type} {key : α → Byte} {id : Byte} {before after : List α} {r : α} (hid : key r = id)
    (hothers : ∀ x ∈ before ++ after, key x ≠ id) (f : α → α) :
    (before ++ r :: after).map (fun x => if key x == id then f x else x) = before ++ f r :: after := by
  have unchanged : ∀ xs : List α, xs ⊆ before ++ after → xs.map (fun x => if key x == id then f x else x) = xs := fun xs hxs =>
    (List.map_congr_left fun x hx => if_neg (by simpa using hothers x (hxs hx))).trans (List.map_id _)
  rw [List.map_append, List.map_cons, if_pos (by simpa using hid), unchanged before (List.subset_append_left _ _),
    unchanged after (List.subset_append_right _ _)]

theorem map_of_absent {α : Type} {key : α → Byte} {id : Byte} {xs : List α} (h : ∀ x ∈ xs, key x ≠ id) (f : α → α) :
    xs.map (fun x => if key x == id then f x else x) = xs :=
  (List.map_congr_left fun x hx => if_neg (by simpa using h x hx)).trans (List.map_id _)

/-- The element of one key stays or leaves as `q` says, and the others stay. -/
theorem filter_one_of_split {α : Type} {key : α → Byte} {id : Byte} {before after : List α} {r : α} (hid : key r = id)
    (hothers : ∀ x ∈ before ++ after, key x ≠ id) (q : α → Bool) :
    (before ++ r :: after).filter (fun x => !(key x == id && q x)) = if q r then before ++ after else before ++ r :: after := by
  have stays : ∀ xs : List α, xs ⊆ before ++ after → xs.filter (fun x => !(key x == id && q x)) = xs := fun xs hxs =>
    List.filter_eq_self.2 fun x hx => by simp [hothers x (hxs hx)]
  rw [List.filter_append, stays before (List.subset_append_left _ _)]
  cases hq : q r with
  | true => rw [List.filter_cons_of_neg (by simp [hid, hq]), stays after (List.subset_append_right _ _)]; rfl
  | false => rw [List.filter_cons_of_pos (by simp [hq]), stays after (List.subset_append_right _ _)]; rfl

theorem filter_one_of_absent {α : Type} {key : α → Byte} {id : Byte} {xs : List α} (h : ∀ x ∈ xs, key x ≠ id) (q : α → Bool) :
    xs.filter (fun x => !(key x == id && q x)) = xs := List.filter_eq_self.2 fun x hx => by simp [h x hx]

namespace State

/-! ### One arm sent well (R51) -/

/-- The record of an arm with one good send more. -/
def sentOnce (round : Round) (first : Bool) (r : ArmRecord) : ArmRecord :=
  { r with sends := r.sends + 1, effective := r.effective || first, lastRound := some round }

/-- The station with the send of an arm counted, and the arm accepted at its first send. -/
def armCounted (round : Round) (s : State) (a : CarriedArm) : State :=
  if a.first then (s.updateArm a.id (sentOnce round a.first)).acceptArm s.config.id a.id a.tag a.action
  else s.updateArm a.id (sentOnce round a.first)

theorem updateArm_updateArm (s : State) (id : Byte) {f g : ArmRecord → ArmRecord} (hf : ∀ r, (f r).id = r.id) :
    (s.updateArm id f).updateArm id g = s.updateArm id (g ∘ f) := by
  have hmap : (s.arms.outbox.map fun r => if r.id == id then f r else r).map (fun r => if r.id == id then g r else r) =
      s.arms.outbox.map fun r => if r.id == id then (g ∘ f) r else r := by
    rw [List.map_map]
    refine List.map_congr_left fun r _ => ?_
    by_cases hid : r.id = id
    · simp [hid, hf]
    · simp [hid]
  exact congrArg (fun rs => s.setArms { s.arms with outbox := rs }) hmap

theorem armSent_eq (round : Round) (s : State) (a : CarriedArm) : armSent round s a =
    (armCounted round s a).removeArms fun r => r.id == a.id && (s.config.sendCount ≤ r.sends || passed s.len s.now r.action) := by
  unfold armSent armCounted
  cases hfirst : a.first with
  | true =>
    have hboth := updateArm_updateArm s a.id (f := fun r => { r with sends := r.sends + 1, lastRound := some round })
      (g := fun r => { r with effective := true }) fun _ => rfl
    have hsame : ((fun r : ArmRecord => { r with effective := true }) ∘
        fun r : ArmRecord => { r with sends := r.sends + 1, lastRound := some round }) = sentOnce round true := by
      funext r
      simp [sentOnce]
    simp only [if_true, hboth, hsame]
  | false =>
    have hsame : (fun r : ArmRecord => { r with sends := r.sends + 1, lastRound := some round }) = sentOnce round false := by
      funext r
      simp [sentOnce]
    simp only [Bool.false_eq_true, if_false, hsame]

/-- The accepted arm leaves the outbox and the inputs as they are. -/
theorem armCounted_kept (round : Round) (s : State) (a : CarriedArm) :
    (armCounted round s a).arms.outbox = (s.updateArm a.id (sentOnce round a.first)).arms.outbox ∧
      (armCounted round s a).arms.cancels = s.arms.cancels ∧ (armCounted round s a).arms.nextId = s.arms.nextId ∧
      (armCounted round s a).capture = s.capture := by
  unfold armCounted
  split
  · have hframe := acceptArm_frame (s.updateArm a.id (sentOnce round a.first)) s.config.id a.id a.tag a.action
    exact ⟨hframe.same .outbox, hframe.same .cancels, hframe.same .nextId, hframe.capture⟩
  · exact ⟨rfl, rfl, rfl, rfl⟩

/-- A first send enters the arm in the own history, and gives the Schedule its requests. -/
theorem armCounted_first (round : Round) (s : State) {a : CarriedArm} (h : a.first = true) :
    (armCounted round s a).arms.history = s.arms.history.set (stationIx s.config.id).val
      (enterHistory a.id a.tag a.action (s.historyOf s.config.id)) ∧
    (∀ u, u = (requestsOf s s.config.id a.id a.tag a.action).foldl insertRequest s →
      (armCounted round s a).schedule = u.schedule ∧ (armCounted round s a).outputs = u.outputs ∧
        (armCounted round s a).store = u.store) := by
  have hcounted : armCounted round s a = (s.updateArm a.id (sentOnce round a.first)).acceptArm s.config.id a.id a.tag a.action :=
    if_pos h
  have hhistory := acceptArm_history (s.updateArm a.id (sentOnce round a.first)) s.config.id a.id a.tag a.action
  refine ⟨(congrArg (fun t : State => t.arms.history) hcounted).trans hhistory, ?_⟩
  rintro u rfl
  obtain ⟨x, hx⟩ : ∃ x, (s.updateArm a.id (sentOnce round a.first)).setHistory s.config.id
      (enterHistory a.id a.tag a.action (s.historyOf s.config.id)) = s.setArms x := ⟨_, rfl⟩
  have hrequests : armCounted round s a =
      (requestsOf s s.config.id a.id a.tag a.action).foldl insertRequest (s.setArms x) := by
    rw [hcounted, acceptArm_eq, ← hx]
    rfl
  have haside := aside_setArms x
  rw [hrequests, foldl_aside (fun u e => haside.insertRequest u e)]
  exact ⟨rfl, rfl, rfl⟩

theorem armCounted_again (round : Round) (s : State) {a : CarriedArm} (h : a.first = false) :
    armCounted round s a = s.updateArm a.id (sentOnce round a.first) := if_neg (by simp [h])

end State

open State

/-- What a good send does to its arm (R44, R45, R51). -/
theorem armSent_effects {s v u : State} {round : Round} {a : CarriedArm} (hdistinct : ArmIdsDistinct s)
    (hv : v = State.armSent round s a) (hu : u = (requestsOf s s.config.id a.id a.tag a.action).foldl State.insertRequest s) :
    v.arms.cancels = s.arms.cancels ∧ v.arms.nextId = s.arms.nextId ∧ v.capture.outbox = s.capture.outbox ∧
    (a.first = true →
      v.arms.history = s.arms.history.set (stationIx s.config.id).val
        (enterHistory a.id a.tag a.action (s.historyOf s.config.id)) ∧
      v.schedule = u.schedule ∧ v.outputs = u.outputs ∧ v.store = u.store) ∧
    (a.first = false →
      v.arms.history = s.arms.history ∧ v.schedule = s.schedule ∧ v.outputs = s.outputs ∧ v.store = s.store) ∧
    ((∀ r ∈ s.arms.outbox, r.id ≠ a.id) → v.arms.outbox = s.arms.outbox ∧ v.capture = s.capture) ∧
    ∀ before r after, s.arms.outbox = before ++ r :: after → r.id = a.id →
      (s.config.sendCount ≤ r.sends + 1 ∨ later s.len s.clock.now r.action = true →
        v.arms.outbox = before ++ after ∧ Released s v r) ∧
      (r.sends + 1 < s.config.sendCount → later s.len s.clock.now r.action = false →
        v.arms.outbox = before ++
          { r with sends := r.sends + 1, effective := r.effective || a.first, lastRound := some round } :: after ∧
        v.capture = s.capture) := by
  obtain ⟨houtbox, hcancels, hnext, hcapture⟩ := armCounted_kept round s a
  obtain ⟨w, hw⟩ : ∃ w, w = armCounted round s a := ⟨_, rfl⟩
  rw [armSent_eq, ← hw] at hv
  rw [← hw] at houtbox hcancels hnext hcapture
  have hframe : Frame [.outbox, .filters] w v := hv ▸ removeArms_frame w _
  refine ⟨(hframe.same .cancels).trans hcancels, Eq.trans (hframe.same .nextId) hnext,
    Eq.trans (hframe.same .events) (congrArg Capture.outbox hcapture), fun hfirst => ?_, fun hagain => ?_, fun habsent => ?_,
    fun before r after hsplit hid => ?_⟩
  · obtain ⟨hhistory, hrest⟩ := armCounted_first round s hfirst
    obtain ⟨hschedule, houtputs, hstore⟩ := hrest u hu
    rw [← hw] at hhistory hschedule houtputs hstore
    exact ⟨Eq.trans (hframe.same .history) hhistory, Eq.trans (hframe.same .schedule) hschedule,
      Eq.trans (hframe.same .outputs) houtputs, Eq.trans (hframe.same .store) hstore⟩
  · have hw' := hw.trans (armCounted_again round s hagain)
    exact ⟨Eq.trans (hframe.same .history) (hw' ▸ rfl), Eq.trans (hframe.same .schedule) (hw' ▸ rfl),
      Eq.trans (hframe.same .outputs) (hw' ▸ rfl), Eq.trans (hframe.same .store) (hw' ▸ rfl)⟩
  · have hsame : w.arms.outbox = s.arms.outbox := houtbox.trans (map_of_absent habsent _)
    have hnone : v = w := hv.trans (removeArms_none fun x hx => by simp [habsent x (hsame ▸ hx)])
    rw [hnone]
    exact ⟨hsame, hcapture⟩
  · obtain ⟨hids, -, -⟩ := hdistinct
    have hothers : ∀ x ∈ before ++ after, x.id ≠ a.id := hid ▸ key_ne_of_split hids hsplit
    have hcount : w.arms.outbox = before ++ sentOnce round a.first r :: after :=
      houtbox.trans ((congrArg (List.map _) hsplit).trans (map_of_split (key := ArmRecord.id) hid hothers _))
    have hidsW : (w.arms.outbox.map (·.id)).Nodup := by
      rw [hcount]
      rw [hsplit] at hids
      simpa [sentOnce] using hids
    refine ⟨fun hleaves => ?_, fun hmore hnot => ?_⟩
    · have hp : ∀ x ∈ w.arms.outbox, (x.id == a.id && (s.config.sendCount ≤ x.sends || passed s.len s.now x.action)) = true ↔
          x.id = (sentOnce round a.first r).id := by
        intro x hx
        constructor
        · intro h
          obtain ⟨hxid, -⟩ := Bool.and_eq_true_iff.1 h
          exact (beq_iff_eq.1 hxid).trans hid.symm
        · intro hxid
          have hxr := eq_of_id_eq hidsW hx (by simp [hcount]) hxid
          rw [hxr, Bool.and_eq_true, Bool.or_eq_true, decide_eq_true_eq, beq_iff_eq]
          exact ⟨hid, hleaves⟩
      obtain ⟨harms, hreleased⟩ := removeArms_one hidsW hcount hp
      rw [← hv] at harms hreleased
      refine ⟨congrArg Arms.outbox harms, fun j => ?_⟩
      rw [hreleased j, hcapture]
      rfl
    · have hnone : v = w := hv.trans (removeArms_none fun x hx => by
        by_cases hxid : x.id = a.id
        · have hxr := eq_of_id_eq hidsW hx (r' := sentOnce round a.first r) (by simp [hcount]) (hxid.trans hid.symm)
          have hstays : (decide (s.config.sendCount ≤ r.sends + 1) || passed s.len s.now r.action) = false := by
            rw [Bool.or_eq_false_iff, decide_eq_false_iff_not]
            exact ⟨Nat.not_le.2 hmore, hnot⟩
          rw [hxr]
          exact (congrArg _ hstays).trans (Bool.and_false _)
        · simp [hxid])
      rw [hnone]
      exact ⟨hcount, hcapture⟩

/-- What a good send does to its cancel (R59). -/
theorem cancelSent_effects {s v : State} {round : Round} {a : CarriedCancel} (hdistinct : ArmIdsDistinct s)
    (hv : v = State.cancelSent round s a) :
    v.arms.outbox = s.arms.outbox ∧ v.arms.nextId = s.arms.nextId ∧
    (a.first = true →
      v.schedule = s.schedule.filter (fun x => !(x.sender == s.config.id && x.armId == a.id)) ∧
      v.arms.history = s.arms.history.set (stationIx s.config.id).val
        (cancelHistory a.id (s.historyOf s.config.id))) ∧
    (a.first = false → v.schedule = s.schedule ∧ v.arms.history = s.arms.history) ∧
    ((∀ r ∈ s.arms.cancels, r.id ≠ a.id) → v.arms.cancels = s.arms.cancels) ∧
    ∀ before r after, s.arms.cancels = before ++ r :: after → r.id = a.id →
      (s.config.sendCount ≤ r.sends + 1 → v.arms.cancels = before ++ after) ∧
      (r.sends + 1 < s.config.sendCount →
        v.arms.cancels = before ++ { r with sends := r.sends + 1, lastRound := some round } :: after) := by
  subst hv
  have hcancels : (State.cancelSent round s a).arms.cancels =
      (s.arms.cancels.map fun r => if r.id == a.id then { r with sends := r.sends + 1, lastRound := some round } else r).filter
        fun r => !(r.id == a.id && s.config.sendCount ≤ r.sends) := by
    unfold State.cancelSent
    split <;> rfl
  have hframe := cancelSent_frame round s a
  refine ⟨hframe.same .outbox, hframe.same .nextId, fun hfirst => ?_, fun hagain => ?_, fun habsent => ?_,
    fun before r after hsplit hid => ?_⟩
  · unfold State.cancelSent
    simp only [hfirst, if_true]
    exact ⟨rfl, rfl⟩
  · unfold State.cancelSent
    simp only [hagain, Bool.false_eq_true, if_false]
    exact ⟨rfl, rfl⟩
  · rw [hcancels, map_of_absent habsent, filter_one_of_absent habsent]
  · obtain ⟨-, hids, -⟩ := hdistinct
    have hothers : ∀ x ∈ before ++ after, x.id ≠ a.id := hid ▸ key_ne_of_split hids hsplit
    have hkept := filter_one_of_split (key := CancelRecord.id) (r := { r with sends := r.sends + 1, lastRound := some round }) hid
      hothers fun r => s.config.sendCount ≤ r.sends
    rw [hcancels, hsplit, map_of_split (key := CancelRecord.id) hid hothers, hkept]
    exact ⟨fun h => if_pos (decide_eq_true h), fun h => if_neg (by simpa using h)⟩

/-! ### The good end (R147, R149) -/

namespace State

/-- The station as a frame ends well, before its owner is told (R147). -/
def ended (s : State) : State :=
  ((s.setFramer { s.framer with engine := none }).setAccess
    { s.access with rotation := s.config.id, collisions := 0 }).setLateHandling false

/-- The station once the owner of a frame that ended well is told, and the transmitter has left SENDING (R149). -/
def reportedSent (s : State) (kind : FrameKind) : State := ((s.ended.reportSent kind).setTx .idle).refreshTx

theorem exec_frameGoodEnd {s : State} {e : Engine} (hheld : s.resetHeld = false) (hengine : s.framer.engine = some e)
    (hcourse : e.course = .frame) (hindex : e.index = e.bytes.length + 1) (hage : e.age = 40) (hwell : e.readWell = true)
    (horphan : e.orphan = false) : exec .frameGoodEnd s = .next (s.reportedSent e.kind) := by
  have hshut : e.atShut = true := by simp [Engine.atShut, hcourse, hindex]
  refine (next_unlessHeld hheld _).trans (congrArg Host.Outcome.next ?_)
  have hengine' : (inPeriod s).framer.engine = some e := hengine
  unfold endFrame
  simp only [hengine']
  rw [if_pos ⟨hcourse, hshut, hage⟩, if_neg (by simp [horphan]), if_pos hwell]
  rfl

theorem armsSentWell_inFlight (s : State) : s.armsSentWell.arms.inFlight = .none := by
  unfold armsSentWell
  split
  · assumption
  · rfl
  · rfl

theorem armsSentWell_of_arms {s : State} {round : Round} {carried : List CarriedArm} (h : s.arms.inFlight = .arms round carried) :
    s.armsSentWell = (carried.foldl (armSent round) s).clearInFlight := by
  unfold armsSentWell
  rw [h]

theorem armsSentWell_of_cancels {s : State} {round : Round} {carried : List CarriedCancel}
    (h : s.arms.inFlight = .cancels round carried) : s.armsSentWell = (carried.foldl (cancelSent round) s).clearInFlight := by
  unfold armsSentWell
  rw [h]

/-- The report and the transmitter touch the Access Unit alone. -/
theorem reportedSent_eq (s : State) (kind : FrameKind) : s.reportedSent kind = (s.ended.reportSent kind).setAccess
    { s.access with
      rotation := s.config.id, collisions := 0, reportA := (s.reportedSent kind).classA
      tx := if (s.reportedSent kind).classA || (s.reportedSent kind).classB then .waiting else .idle } := by
  have haccess : (s.ended.reportSent kind).access = s.ended.access := (reportSent_frame s.ended kind).access
  unfold reportedSent
  rw [refreshTx_eq, setTx]
  simp only [haccess]
  rfl

end State

/-- Settles O41. -/
theorem goodEndReportsToTheOwner : Obligations.GoodEndReportsToTheOwner := by
  intro s e hheld hengine hcourse hindex hage hwell horphan
  have hframe := reportSent_frame s.ended e.kind
  have heq := reportedSent_eq s e.kind
  refine ⟨_, exec_frameGoodEnd hheld hengine hcourse hindex hage hwell horphan, ?_, ?_, fun hkind => ?_, fun hkind => ?_, fun hkind => ?_,
    ?_, ?_, ?_⟩
  · rw [heq]
    exact hframe.framer
  · exact congrArg State.access heq
  · rw [heq, hkind]
    refine ⟨rfl, rfl, fun htime => ?_, fun htime => ?_⟩
    · exact congrArg (fun x => { s.agreement with timeFrame := TimeFrame.sent x }) htime
    · exact congrArg (fun x => { s.agreement with timeFrame := TimeFrame.sent x }) htime
  · rw [heq, hkind]
    exact ⟨rfl, rfl, rfl⟩
  · have hsent : s.ended.reportSent e.kind = s.ended.armsSentWell := by rcases hkind with h | h <;> rw [h] <;> rfl
    have harms := armsSentWell_frame s.ended
    rw [heq, hsent]
    exact ⟨harms.agreement, armsSentWell_inFlight s.ended, harms.same .nextId⟩
  · rw [heq]
    exact hframe.same .clock
  · rw [heq]
    exact hframe.tap
  · rw [heq]
    exact hframe.same .config

/-- Settles O42. -/
theorem firstGoodSendMakesTheArmEffective : Obligations.FirstGoodSendMakesTheArmEffective := by
  refine ⟨fun s e hheld hengine hcourse hindex hage hwell horphan => ?_, fun s v u round a => armSent_effects,
    fun s v round a => cancelSent_effects⟩
  have haside := asideArms_line { s.framer with engine := none } { s.access with rotation := s.config.id, collisions := 0 } false
  refine ⟨fun round carried hkind hflight => ?_, fun round carried hkind hflight => ?_⟩
  · have hsent := foldl_aside (fun u a => haside.armSent u round a) carried s
    have hreport := (armsSentWell_of_arms (s := s.ended) hflight).trans (congrArg clearInFlight hsent)
    refine ⟨_, _, exec_frameGoodEnd hheld hengine hcourse hindex hage hwell horphan, rfl, ?_⟩
    rw [reportedSent_eq, hkind, show s.ended.reportSent .arm = _ from hreport]
    exact ⟨rfl, rfl, rfl, rfl, rfl⟩
  · have hsent := foldl_aside (fun u a => haside.cancelSent u round a) carried s
    have hreport := (armsSentWell_of_cancels (s := s.ended) hflight).trans (congrArg clearInFlight hsent)
    refine ⟨_, _, exec_frameGoodEnd hheld hengine hcourse hindex hage hwell horphan, rfl, ?_⟩
    have hframe := Frame.foldl (cancelSent_frame round) carried s
    rw [reportedSent_eq, hkind, show s.ended.reportSent .cancel = _ from hreport]
    exact ⟨rfl, rfl, hframe.same .outputs, hframe.capture, hframe.same .store⟩

/-! ### The collision's end (R148 to R150) -/

namespace State

/-- What the Event Store makes of a record is a matter of the store, its time, the horizon and whether the station is UNSET. -/
theorem takeRecord_store_congr {s t : State} (hstate : t.agreement.state = s.agreement.state) (hconfig : t.config = s.config)
    (hnow : t.storeNow = s.storeNow) (hstore : t.store = s.store) (r : EventRecord) :
    (t.takeRecord r).store = (s.takeRecord r).store := by
  have hlen : t.len = s.len := by rw [State.len, hconfig]; rfl
  by_cases hunset : s.agreement.state = .unset
  · rw [takeRecord_of_unset hunset, takeRecord_of_unset (hstate.trans hunset), hstore]
  · rw [takeRecord_of_set hunset, takeRecord_of_set (hstate ▸ hunset), hlen, hconfig, hnow, hstore]
    rfl

theorem storeNow_of_clock {s t : State} (h : t.clock = s.clock) : t.storeNow = s.storeNow := by
  rw [State.storeNow, h]
  rfl

theorem foldl_takeRecord_store_congr (rs : List EventRecord) {s t : State} (hstate : t.agreement.state = s.agreement.state)
    (hconfig : t.config = s.config) (hnow : t.storeNow = s.storeNow) (hstore : t.store = s.store) :
    (rs.foldl takeRecord t).store = (rs.foldl takeRecord s).store := by
  induction rs generalizing s t with
  | nil => exact hstore
  | cons r rs ih =>
    have hs := takeRecord_frame s r
    have ht := takeRecord_frame t r
    refine ih (ht.agreement_state.trans (hstate.trans hs.agreement_state.symm))
      (Eq.trans (ht.same .config) (hconfig.trans (Eq.symm (hs.same .config)))) ?_ (takeRecord_store_congr hstate hconfig hnow hstore r)
    rw [storeNow_of_clock (ht.same .clock), storeNow_of_clock (hs.same .clock), hnow]

/-- A collision reported to the Arm Unit: the records that have passed in the flight leave, the inputs released (R52, R59). -/
theorem armsCollided_effects {s : State} {expired : List ArmRecord} (hids : (s.arms.outbox.map (·.id)).Nodup)
    (harms : ∀ round carried, s.arms.inFlight = .arms round carried →
      expired = s.arms.outbox.filter fun r => later s.len s.clock.now r.action && carried.any fun a => a.id == r.id)
    (hnone : (∀ round carried, s.arms.inFlight ≠ .arms round carried) → expired = []) :
    s.armsCollided.arms = { s.arms with inFlight := .none, outbox := s.arms.outbox.filter fun r => !expired.contains r } ∧
    (∀ j : Fin 8, s.armsCollided.capture.filters[j] =
      if ∃ r ∈ expired, r.source ≠ .tap ∧ (s.capture.filters[j]).outstanding = some r.id then
        { s.capture.filters[j] with outstanding := none } else s.capture.filters[j]) ∧
    s.armsCollided.store = (((expired.filter fun r => !r.effective).map s.expiredNote).foldl takeRecord s).store := by
  cases hflight : s.arms.inFlight with
  | none =>
    obtain rfl := hnone (by simp [hflight])
    have hsame : s.armsCollided = s := by unfold armsCollided; rw [hflight]
    rw [hsame]
    refine ⟨?_, by simp, rfl⟩
    rw [← hflight]
    simp
  | cancels round carried =>
    obtain rfl := hnone (by simp [hflight])
    have hcleared : s.armsCollided = s.clearInFlight := by unfold armsCollided; rw [hflight]
    rw [hcleared]
    exact ⟨by simp [clearInFlight], by simp [clearInFlight], rfl⟩
  | arms round carried =>
    obtain ⟨p, hp⟩ : ∃ p : ArmRecord → Bool, p = fun r => s.clearInFlight.armPassed r && carried.any fun a => a.id == r.id := ⟨_, rfl⟩
    have hexpired : expired = s.arms.outbox.filter p := by
      rw [harms round carried hflight, hp]
      refine List.filter_congr fun r _ => ?_
      have hpassed : s.clearInFlight.armPassed r = later s.len s.clock.now r.action := Bool.and_true _
      rw [hpassed]
    have hcollided : s.armsCollided = s.clearInFlight.expireWhere p := by
      unfold armsCollided
      rw [hflight, hp]
    have hnotes : (expired.filter fun r => !r.effective) = s.arms.outbox.filter fun r => p r && !r.effective := by
      rw [hexpired, List.filter_filter]
      exact List.filter_congr fun r _ => Bool.and_comm ..
    have haside := aside_setArms { s.arms with inFlight := .none }
    have hfold := foldl_aside (fun u r => haside.takeRecord u r) ((expired.filter fun r => !r.effective).map s.expiredNote) s
    have heq : s.armsCollided = ((((expired.filter fun r => !r.effective).map s.expiredNote).foldl takeRecord s).setArms
        { s.arms with inFlight := .none }).removeArms p := by
      rw [hcollided, expireWhere_eq (s := s.clearInFlight) hids, ← hfold, hnotes]
      rfl
    obtain ⟨v, hv⟩ : ∃ v, v = ((expired.filter fun r => !r.effective).map s.expiredNote).foldl takeRecord s := ⟨_, rfl⟩
    have hcapture : v.capture = s.capture := hv ▸ (Frame.foldl takeRecord_frame _ s).capture
    rw [← hv] at heq ⊢
    refine ⟨?_, fun j => ?_, ?_⟩
    · have hstay : (s.arms.outbox.filter fun r => !p r) = s.arms.outbox.filter fun r => !expired.contains r := by
        refine List.filter_congr fun r hr => congrArg (!·) ?_
        rw [Bool.eq_iff_iff, List.contains_iff_mem, hexpired, List.mem_filter]
        exact ⟨fun h => ⟨hr, h⟩, fun h => h.2⟩
      rw [heq, removeArms_eq, ← hstay]
      rfl
    · rw [heq, removeArms_filters]
      refine if_congr ⟨?_, ?_⟩ (by rw [setArms_capture, hcapture]) (by rw [setArms_capture, hcapture])
      · rintro ⟨r, hr, hpr, htap, hout⟩
        rw [setArms_capture, hcapture] at hout
        exact ⟨r, hexpired ▸ List.mem_filter.2 ⟨hr, hpr⟩, htap, hout⟩
      · rintro ⟨r, hr, htap, hout⟩
        obtain ⟨hr, hpr⟩ := List.mem_filter.1 (hexpired ▸ hr)
        exact ⟨r, hr, hpr, htap, by rwa [setArms_capture, hcapture]⟩
    · rw [heq, removeArms_eq]
      rfl

/-- The station as a QUASH ends, before the owner of the content is told (R148). -/
def quashed (s : State) : State :=
  ((s.setFramer { s.framer with engine := none }).setAccess
    { s.access with collisions := s.access.collisions + 1, yield := true }).setLateHandling false

theorem exec_quashEnd {s : State} {e : Engine} (hheld : s.resetHeld = false) (hengine : s.framer.engine = some e)
    (hcourse : e.course = .quash) (hage : e.age = 40) (horphan : e.orphan = false) :
    exec .quashEnd s = .next ((inPeriod s).collisionEnd e.kind).refreshTx := by
  refine (next_unlessHeld hheld _).trans (congrArg Host.Outcome.next ?_)
  have hengine' : (inPeriod s).framer.engine = some e := hengine
  unfold endQuash
  simp only [hengine']
  rw [if_pos ⟨hcourse, hage⟩, if_neg (by simp [horphan])]

theorem collisionEnd_eq (s : State) (kind : FrameKind) : (inPeriod s).collisionEnd kind =
    if 8 ≤ s.access.collisions + 1 then (s.quashed.reportCollided kind).muteTx else (s.quashed.reportCollided kind).setTx .idle := by
  have haccess : (s.quashed.reportCollided kind).access = s.quashed.access := (reportCollided_frame s.quashed kind).access
  have hcount : (s.quashed.reportCollided kind).access.collisions = s.access.collisions + 1 := by rw [haccess]; rfl
  exact if_congr (by rw [← hcount]; rfl) rfl rfl

section CollisionEnded

variable (w : State)

theorem muteTx_refreshTx_access : w.muteTx.refreshTx.access =
    { w.access with tx := .muted, mute := 16, collisions := 0, reportA := w.muteTx.refreshTx.classA } := by
  have haccess : w.muteTx.access = { w.access with tx := .muted, mute := 16, collisions := 0 } := by
    unfold muteTx
    rw [ownNote, note, takeRecord_eq]
    rfl
  have hreported := refreshTx_reported w.muteTx
  rw [Reported, haccess] at hreported
  exact hreported

theorem setTx_refreshTx_access : (w.setTx .idle).refreshTx.access =
    { w.access with
      reportA := (w.setTx .idle).refreshTx.classA
      tx := if (w.setTx .idle).refreshTx.classA || (w.setTx .idle).refreshTx.classB then .waiting else .idle } :=
  (refreshTx_reported (w.setTx .idle)).trans rfl

theorem muteTx_tap : w.muteTx.tap = { w.tap with latch := true, setSinceTake := true } := by
  unfold muteTx
  rw [ownNote, note, takeRecord_eq]
  rfl

theorem muteTx_store : w.muteTx.store = (w.takeRecord (noteNow w .muted 0 w.config.id 0)).store :=
  takeRecord_store_congr (s := w) (t := w.setAccess { w.access with tx := .muted, mute := Config.muteRounds, collisions := 0 }) rfl rfl
    rfl rfl _

end CollisionEnded

end State

/-- `u` is `s` with a collision reported to the owner of the content, the records `expired` having passed in the flight (R39, R52,
R59, R98). -/
structure CollisionReported (s u : State) (kind : FrameKind) (expired : List ArmRecord) : Prop where
  own : kind = .arm ∨ kind = .cancel →
    u.arms = { s.arms with inFlight := .none, outbox := s.arms.outbox.filter fun r => !expired.contains r }
  others : kind = .time ∨ kind = .event → u.arms = s.arms
  filters : ∀ j : Fin 8, u.capture.filters[j] =
    if ∃ r ∈ expired, r.source ≠ .tap ∧ (s.capture.filters[j]).outstanding = some r.id then
      { s.capture.filters[j] with outstanding := none } else s.capture.filters[j]
  event : kind = .event → u.capture.inFlight = 0
  notEvent : kind ≠ .event → u.capture.inFlight = s.capture.inFlight
  notTime : kind ≠ .time → u.agreement = s.agreement
  time : kind = .time → (s.agreement.timeFrame = .inFlight ∨ s.agreement.timeFrame = .inFlightPending) →
    u.agreement = { s.agreement with timeFrame := .pending }
  store : u.store = (((expired.filter fun r => !r.effective).map s.expiredNote).foldl takeRecord s).store

/-- The records of which R52 holds, as `expired` names them. -/
def ExpiredInFlight (s : State) (kind : FrameKind) (expired : List ArmRecord) : Prop :=
  (∀ round carried, kind = .arm ∨ kind = .cancel → s.arms.inFlight = .arms round carried →
    expired = s.arms.outbox.filter fun r => later s.len s.clock.now r.action && carried.any fun a => a.id == r.id) ∧
  ((∀ round carried, s.arms.inFlight ≠ .arms round carried) ∨ kind = .time ∨ kind = .event → expired = [])

theorem collisionReported_arms {s : State} {kind : FrameKind} {expired : List ArmRecord} (hids : (s.arms.outbox.map (·.id)).Nodup)
    (h : ExpiredInFlight s kind expired) (hkind : kind = .arm ∨ kind = .cancel) : CollisionReported s s.armsCollided kind expired := by
  obtain ⟨harms, hnone⟩ := h
  obtain ⟨hleft, hfilters, hstore⟩ := armsCollided_effects hids (fun round carried => harms round carried hkind) fun h => hnone (.inl h)
  have hframe := armsCollided_frame s
  have hnotTime : kind ≠ .time := by rcases hkind with h | h <;> simp [h]
  have hnotEvent : kind ≠ .event := by rcases hkind with h | h <;> simp [h]
  exact ⟨fun _ => hleft, fun h => absurd h (by simp [hnotTime, hnotEvent]), hfilters, fun h => absurd h hnotEvent,
    fun _ => hframe.same .eventsInFlight, fun _ => hframe.agreement, fun h => absurd h hnotTime, hstore⟩

theorem collisionReported {s : State} {kind : FrameKind} {expired : List ArmRecord} (hids : (s.arms.outbox.map (·.id)).Nodup)
    (h : ExpiredInFlight s kind expired) : CollisionReported s (s.reportCollided kind) kind expired := by
  cases kind with
  | arm => exact collisionReported_arms hids h (.inl rfl)
  | cancel => exact collisionReported_arms hids h (.inr rfl)
  | time =>
    obtain rfl := h.2 (.inr (.inl rfl))
    refine ⟨by simp, fun _ => rfl, fun j => by simp [reportCollided], by simp, fun _ => rfl, by simp, fun _ htime => ?_, rfl⟩
    have hcollided : s.agreement.timeFrame.collided = .pending := by rcases htime with h | h <;> rw [h] <;> rfl
    exact congrArg (fun x => { s.agreement with timeFrame := x }) hcollided
  | event =>
    obtain rfl := h.2 (.inr (.inr rfl))
    exact ⟨by simp, fun _ => rfl, fun j => by simp [reportCollided, eventsCollided], fun _ => rfl, by simp, fun _ => rfl, by simp, rfl⟩

/-- What the end of a QUASH leaves of the station, but for its Access Unit, tap port and Event Store. -/
structure CollisionEnded (s u : State) (kind : FrameKind) (expired : List ArmRecord) : Prop where
  framer : u.framer = { s.framer with engine := none }
  rotation : u.access.rotation = s.access.rotation
  events : u.capture.outbox = s.capture.outbox
  own : kind = .arm ∨ kind = .cancel →
    u.arms = { s.arms with inFlight := .none, outbox := s.arms.outbox.filter fun r => !expired.contains r }
  others : kind = .time ∨ kind = .event → u.arms = s.arms
  filters : ∀ j : Fin 8, u.capture.filters[j] =
    if ∃ r ∈ expired, r.source ≠ .tap ∧ (s.capture.filters[j]).outstanding = some r.id then
      { s.capture.filters[j] with outstanding := none } else s.capture.filters[j]
  event : kind = .event → u.capture.inFlight = 0
  notEvent : kind ≠ .event → u.capture.inFlight = s.capture.inFlight
  notTime : kind ≠ .time → u.agreement = s.agreement
  time : kind = .time → (s.agreement.timeFrame = .inFlight ∨ s.agreement.timeFrame = .inFlightPending) →
    u.agreement = { s.agreement with timeFrame := .pending }
  rest : u.clock = s.clock ∧ u.schedule = s.schedule ∧ u.outputs = s.outputs

theorem collisionEnded {s u : State} {kind : FrameKind} {expired : List ArmRecord}
    (h : CollisionReported s.quashed (s.quashed.reportCollided kind) kind expired)
    (hend : Frame [.tx, .collisions, .store, .latch] (s.quashed.reportCollided kind) u) : CollisionEnded s u kind expired := by
  have hframe := reportCollided_frame s.quashed kind
  obtain ⟨w, hw⟩ : ∃ w, w = s.quashed.reportCollided kind := ⟨_, rfl⟩
  rw [← hw] at h hend hframe
  have hcapture := hend.capture
  have harms := hend.arms
  have hagreement := hend.agreement
  constructor
  · exact hend.framer.trans hframe.framer
  · exact Eq.trans (hend.same .rotation) (hframe.same .rotation)
  · rw [hcapture]
    exact hframe.same .events
  · exact fun hkind => harms.trans (h.own hkind)
  · exact fun hkind => harms.trans (h.others hkind)
  · intro j
    rw [hcapture]
    exact h.filters j
  · rw [hcapture]
    exact h.event
  · rw [hcapture]
    exact h.notEvent
  · exact fun hkind => hagreement.trans (h.notTime hkind)
  · exact fun hkind hflight => hagreement.trans (h.time hkind hflight)
  · exact ⟨Eq.trans (hend.same .clock) (hframe.same .clock), Eq.trans (hend.same .schedule) (hframe.same .schedule),
      Eq.trans (hend.same .outputs) (hframe.same .outputs)⟩

theorem foldl_takeRecord_quashed (s : State) (rs : List EventRecord) :
    (rs.foldl takeRecord s.quashed).store = (rs.foldl takeRecord s).store := by
  have haside := asideArms_line { s.framer with engine := none }
    { s.access with collisions := s.access.collisions + 1, yield := true } false
  have hfold := foldl_aside (fun u r => haside.takeRecord u r) rs s
  exact (congrArg State.store hfold).trans rfl

section CollisionNotes

variable {s : State} {kind : FrameKind} {expired : List ArmRecord}
  (h : CollisionReported s.quashed (s.quashed.reportCollided kind) kind expired)

include h

/-- The notes of the records that have passed in the flight, in the store of the station before the end. -/
theorem reportCollided_store : (s.quashed.reportCollided kind).store =
    (((expired.filter fun r => !r.effective).map s.expiredNote).foldl takeRecord s).store :=
  h.store.trans (foldl_takeRecord_quashed s _)

/-- The MUTED note comes after them (R150). -/
theorem muted_store : (s.quashed.reportCollided kind).muteTx.store =
    ((((expired.filter fun r => !r.effective).map s.expiredNote).foldl takeRecord s).takeRecord
      (noteNow s .muted 0 s.config.id 0)).store := by
  have hstore := reportCollided_store h
  have hframe := reportCollided_frame s.quashed kind
  have hkept := Frame.foldl takeRecord_frame ((expired.filter fun r => !r.effective).map s.expiredNote) s
  obtain ⟨w, hw⟩ : ∃ w, w = s.quashed.reportCollided kind := ⟨_, rfl⟩
  obtain ⟨v, hv⟩ : ∃ v, v = ((expired.filter fun r => !r.effective).map s.expiredNote).foldl takeRecord s := ⟨_, rfl⟩
  rw [← hw] at hstore hframe
  rw [← hv] at hstore hkept
  rw [← hw, ← hv, muteTx_store]
  have hconfig : w.config = s.config := hframe.same .config
  have hclock : w.clock = s.clock := hframe.same .clock
  have hstate : w.agreement.state = s.agreement.state := hframe.agreement_state
  have hnote : noteNow w .muted 0 w.config.id 0 = noteNow s .muted 0 s.config.id 0 := by
    rw [noteNow, hstate, hconfig, hclock]
    rfl
  rw [hnote]
  exact takeRecord_store_congr (hstate.trans hkept.agreement_state.symm) (hconfig.trans (Eq.symm (hkept.same .config)))
    (storeNow_of_clock (hclock.trans (Eq.symm (hkept.same .clock)))) hstore _

end CollisionNotes

/-- Settles O43. -/
theorem quashEndCountsTheCollision : Obligations.QuashEndCountsTheCollision := by
  intro s e expired hheld hengine hcourse hage horphan hdistinct harms hnone
  obtain ⟨hids, -, -⟩ := hdistinct
  have hreported := collisionReported (s := s.quashed) (kind := e.kind) hids ⟨harms, hnone⟩
  have haccess : (s.quashed.reportCollided e.kind).access = s.quashed.access := (reportCollided_frame s.quashed e.kind).access
  have htap : (s.quashed.reportCollided e.kind).tap = s.tap := (reportCollided_frame s.quashed e.kind).tap
  have hexec := (exec_quashEnd hheld hengine hcourse hage horphan).trans
    (congrArg (fun u : State => Host.Outcome.next u.refreshTx) (collisionEnd_eq s e.kind))
  by_cases hmutes : 8 ≤ s.access.collisions + 1
  · rw [if_pos hmutes] at hexec
    have hrefresh := refreshTx_frame (s.quashed.reportCollided e.kind).muteTx
    obtain ⟨hframer, hrotation, hevents, hown, hothers, hfilters, hevent, hnotEvent, hnotTime, htime, hrest⟩ :=
      collisionEnded hreported ((muteTx_frame _).trans hrefresh.mono)
    have hline := muteTx_refreshTx_access (s.quashed.reportCollided e.kind)
    rw [haccess] at hline
    have hstore := Eq.trans (hrefresh.same .store) (muted_store hreported)
    have hlatch := hrefresh.tap.trans (muteTx_tap _)
    rw [htap] at hlatch
    have hnot : ¬s.access.collisions + 1 < 8 := Nat.not_lt.2 hmutes
    obtain ⟨t, ht⟩ : ∃ t, t = (s.quashed.reportCollided e.kind).muteTx.refreshTx := ⟨_, rfl⟩
    rw [← ht] at hexec hframer hrotation hevents hown hothers hfilters hevent hnotEvent hnotTime htime hrest hline hstore hlatch
    refine ⟨t, hexec, hframer, by rw [hline]; rfl, hrotation, congrArg Access.reportA hline, hevents, hown, hothers, hfilters, hevent,
      hnotEvent, hnotTime, htime, ?_, fun h => absurd h hnot, fun _ => ⟨?_, ?_, ?_, hlatch⟩, hrest⟩
    · rw [if_neg hnot, List.foldl_append]
      exact hstore
    · rw [hline]
    · rw [hline]
    · rw [hline]
  · rw [if_neg hmutes] at hexec
    have hend : Frame [.tx] (s.quashed.reportCollided e.kind) ((s.quashed.reportCollided e.kind).setTx .idle).refreshTx :=
      (setTx_frame _ _).trans (refreshTx_frame _)
    obtain ⟨hframer, hrotation, hevents, hown, hothers, hfilters, hevent, hnotEvent, hnotTime, htime, hrest⟩ :=
      collisionEnded hreported hend.mono
    have hline := setTx_refreshTx_access (s.quashed.reportCollided e.kind)
    rw [haccess] at hline
    have hstore := Eq.trans (hend.same .store) (reportCollided_store hreported)
    have htap' := hend.tap.trans htap
    obtain ⟨t, ht⟩ : ∃ t, t = ((s.quashed.reportCollided e.kind).setTx .idle).refreshTx := ⟨_, rfl⟩
    rw [← ht] at hexec hframer hrotation hevents hown hothers hfilters hevent hnotEvent hnotTime htime hrest hline hstore htap'
    refine ⟨t, hexec, hframer, by rw [hline]; rfl, hrotation, congrArg Access.reportA hline, hevents, hown, hothers, hfilters, hevent,
      hnotEvent, hnotTime, htime, ?_, fun _ => ⟨?_, ?_, congrArg Access.tx hline, htap'⟩, fun h => absurd h hmutes, hrest⟩
    · rw [if_pos (Nat.not_le.1 hmutes), List.append_nil]
      exact hstore
    · rw [hline]
      rfl
    · rw [hline]
      rfl

end Sys2Proof.Machine

/-! The start of a slot (R10, R142, R144, R145). -/

namespace Sys2Proof.Machine

set_option Elab.async false

open Safety

namespace State

/-- The start of a slot now running, as the transmitter finds it: taken from here on. -/
def slotTaken (s : State) : State := ((inPeriod s).setAccess { s.access with slotTaken := true })

theorem slotDue_iff (s : State) : s.slotDue = true ↔ s.access.monitor = .window ∧ s.access.slotCount = 0 ∧ s.access.slotTaken = false := by
  simp [slotDue, and_assoc]

theorem exec_slotStart {s : State} (h : SlotStarting s) : exec .slotStart s = .next
    (if s.access.tx = .waiting ∧ s.framer.engine = none ∧ s.slotBegins = true then s.slotTaken.assemble.refreshTx
      else s.slotTaken) := by
  obtain ⟨hheld, hdue⟩ := h
  exact (next_unlessHeld hheld _).trans (congrArg Host.Outcome.next (if_pos ((slotDue_iff (inPeriod s)).2 hdue)))

theorem exec_slotStart_of_not_due {s : State} (hheld : s.resetHeld = false)
    (h : s.access.monitor ≠ .window ∨ s.access.slotCount ≠ 0 ∨ s.access.slotTaken = true) :
    exec .slotStart s = .next (inPeriod s) := by
  refine (next_unlessHeld hheld _).trans (congrArg Host.Outcome.next (if_neg ?_))
  rw [slotDue_iff]
  rintro ⟨hmonitor, hcount, htaken⟩
  rcases h with h | h | h
  · exact h hmonitor
  · exact h hcount
  · exact absurd (htaken.symm.trans h) (by decide)

/-! ### Which slots are the station's (R142, R144) -/

theorem position_eq {s : State} {k : Nat} (h : (k : Int) = ((s.config.id.toNat : Int) - s.access.rotation.toNat - 1) % 24) :
    s.position = k := by
  rw [position, ← h, Int.toNat_natCast]

section SlotBegins

variable {s : State} {k : Nat} (hk : (k : Int) = ((s.config.id.toNat : Int) - s.access.rotation.toNat - 1) % 24)

include hk

/-- Without the yield flag a frame begins in the class A slot with class A reported, or in the class B slot with class B alone. -/
theorem slotBegins_iff_of_not_yield (hyield : s.access.yield = false) : s.slotBegins = true ↔
    s.access.slotIndex = k ∧ s.access.reportA = true ∨
      s.access.slotIndex = 24 + k ∧ s.classB = true ∧ s.access.reportA = false := by
  simp [slotBegins, hyield, slotA, slotB, position_eq hk, and_assoc]

omit hk in
/-- With the yield flag a frame begins in the late slot, with any content reported. -/
theorem slotBegins_iff_of_yield (hyield : s.access.yield = true) : s.slotBegins = true ↔
    s.access.slotIndex = 48 + (s.config.id.toNat - 1) ∧ (s.access.reportA = true ∨ s.classB = true) := by
  simp [slotBegins, hyield, slotLate, contentPending]

theorem slotBegins_of_slot (h : s.access.yield = false ∧ s.access.slotIndex = k ∧ s.access.reportA = true ∨
      s.access.yield = false ∧ s.access.slotIndex = 24 + k ∧ s.access.reportA = false ∧ s.classB = true ∨
      s.access.yield = true ∧ s.access.slotIndex = 48 + (s.config.id.toNat - 1) ∧
        (s.access.reportA = true ∨ s.classB = true)) : s.slotBegins = true := by
  rcases h with ⟨hyield, hindex, hreport⟩ | ⟨hyield, hindex, hreport, hB⟩ | ⟨hyield, hindex, hcontent⟩
  · exact (slotBegins_iff_of_not_yield hk hyield).2 (.inl ⟨hindex, hreport⟩)
  · exact (slotBegins_iff_of_not_yield hk hyield).2 (.inr ⟨hindex, hB, hreport⟩)
  · exact (slotBegins_iff_of_yield hyield).2 ⟨hindex, hcontent⟩

theorem slotBegins_eq_false (h : s.access.yield = false ∧ s.access.slotIndex ≠ k ∧ s.access.slotIndex ≠ 24 + k ∨
      s.access.yield = false ∧ s.access.slotIndex = k ∧ s.access.reportA = false ∨
      s.access.yield = false ∧ s.access.slotIndex = 24 + k ∧ (s.access.reportA = true ∨ s.classB = false) ∨
      s.access.yield = true ∧ s.access.slotIndex ≠ 48 + (s.config.id.toNat - 1) ∨
      s.access.yield = true ∧ s.access.reportA = false ∧ s.classB = false) : ¬s.slotBegins = true := by
  rcases h with ⟨hyield, h1, h2⟩ | ⟨hyield, hindex, hreport⟩ | ⟨hyield, hindex, h⟩ | ⟨hyield, hindex⟩ | ⟨hyield, hreport, hB⟩
  · rw [slotBegins_iff_of_not_yield hk hyield]
    exact fun h => h.elim (fun h => h1 h.1) fun h => h2 h.1
  · rw [slotBegins_iff_of_not_yield hk hyield, hindex, hreport]
    rintro (⟨-, h⟩ | ⟨h, -⟩)
    · exact absurd h (by decide)
    · omega
  · rw [slotBegins_iff_of_not_yield hk hyield, hindex]
    rintro (⟨h', -⟩ | ⟨-, hB, hA⟩)
    · omega
    · rw [hA, hB] at h
      exact absurd h (by decide)
  · rw [slotBegins_iff_of_yield hyield]
    exact fun h => hindex h.1
  · rw [slotBegins_iff_of_yield hyield, hreport, hB]
    exact fun h => absurd h.2 (by decide)

end SlotBegins

/-! ### The frame that is begun (R145) -/

theorem classA_eq_true_iff (s : State) : s.classA = true ↔ s.eligibleCancels ≠ [] ∨ s.eligibleArms ≠ [] := by
  simp [classA, or_comm]

theorem classB_eq_true_iff (s : State) : s.classB = true ↔ s.agreement.timeFrame = .pending ∨ s.eventsPending = true := by
  simp [classB, timePending]

/-- A frame that is begun, and the reports that follow it. -/
theorem beginFrame_refreshTx (s : State) (kind : FrameKind) (body : List Byte) :
    (s.beginFrame kind body).refreshTx =
      (s.setFramer { s.framer with engine := some ⟨kind,
        (kind.code :: s.config.id :: BitVec.ofNat 8 body.length :: body) ++
          checkBytes (checkOf (kind.code :: s.config.id :: BitVec.ofNat 8 body.length :: body)),
        s.clock.now, 0, 0, false, .frame, false⟩ }).setAccess
      { s.access with tx := .sending, yield := false, reportA := (s.beginFrame kind body).refreshTx.classA } := by
  rw [refreshTx_eq]
  rfl

section Assemble

variable {s : State}

theorem assemble_cancel (hreport : s.access.reportA = true) (h : s.eligibleCancels ≠ []) :
    s.assemble = s.beginCancel (s.eligibleCancels.take 8) := if_pos ⟨hreport, h⟩

theorem assemble_arm (hreport : s.access.reportA = true) (hnone : s.eligibleCancels = []) (h : s.eligibleArms ≠ []) :
    s.assemble = s.beginArm (s.eligibleArms.take 4) :=
  (if_neg fun h' => h'.2 hnone).trans (if_pos ⟨hreport, h⟩)

/-- Where the Arm Unit gives no record, a pending TIME frame is begun, or else an EVENT frame. -/
theorem assemble_of_no_classA (h : s.access.reportA = false ∨ s.classA = false) :
    s.assemble = if s.timePending then s.beginTime else if s.eventsPending then s.beginEvent else s := by
  have hcancels : ¬(s.access.reportA = true ∧ s.eligibleCancels ≠ []) := fun ⟨hreport, hne⟩ =>
    h.elim (fun h => absurd (h.symm.trans hreport) (by decide))
      fun h => absurd (h.symm.trans ((classA_eq_true_iff s).2 (.inl hne))) (by decide)
  have harms : ¬(s.access.reportA = true ∧ s.eligibleArms ≠ []) := fun ⟨hreport, hne⟩ =>
    h.elim (fun h => absurd (h.symm.trans hreport) (by decide))
      fun h => absurd (h.symm.trans ((classA_eq_true_iff s).2 (.inr hne))) (by decide)
  exact (if_neg hcancels).trans (if_neg harms)

end Assemble

/-- Where no row of R145 gives a record, the transmitter goes to IDLE. -/
theorem slotTaken_assemble_of_nothing {s : State} (htx : s.access.tx = .waiting) (hA : s.classA = false) (hB : s.classB = false) :
    s.slotTaken.assemble.refreshTx = (inPeriod s).setAccess { s.access with slotTaken := true, reportA := false, tx := .idle } := by
  obtain ⟨htime, hevents⟩ := Bool.or_eq_false_iff.1 hB
  have hnothing : s.slotTaken.assemble = s.slotTaken :=
    (assemble_of_no_classA (s := s.slotTaken) (.inr hA)).trans ((if_neg (ne_true_of_eq_false htime)).trans
      (if_neg (ne_true_of_eq_false hevents)))
  have hA' : s.slotTaken.classA = false := hA
  have hB' : s.slotTaken.classB = false := hB
  have htx' : s.slotTaken.access.tx = .waiting := htx
  rw [hnothing, refreshTx_eq, hA', hB', htx']
  rfl

end State

open State

/-- The frame that a slot start begins: `t` is `s` with the frame of the first row of R145 whose owner gives a record. -/
def SlotFrame (s t : State) (kind : FrameKind) (body : List Byte) : Prop :=
  t.framer = { s.framer with engine := some ⟨kind,
    (kind.code :: s.config.id :: BitVec.ofNat 8 body.length :: body) ++
      checkBytes (checkOf (kind.code :: s.config.id :: BitVec.ofNat 8 body.length :: body)),
    s.clock.now, 0, 0, false, .frame, false⟩ } ∧
  t.access = { s.access with tx := .sending, yield := false, slotTaken := true, reportA := t.classA } ∧
  (s.access.reportA = true → s.eligibleCancels ≠ [] →
    kind = .cancel ∧ body = cancelBody (s.eligibleCancels.take 8) ∧
    t.arms.inFlight =
      .cancels s.clock.now.round ((s.eligibleCancels.take 8).map fun r => ⟨r.id, r.sends == 0⟩)) ∧
  (s.access.reportA = true → s.eligibleCancels = [] → s.eligibleArms ≠ [] →
    kind = .arm ∧ body = armBody (s.eligibleArms.take 4) ∧
    t.arms.inFlight =
      .arms s.clock.now.round ((s.eligibleArms.take 4).map fun r => ⟨r.id, r.tag, r.action, r.sends == 0⟩)) ∧
  (s.access.reportA = false ∨ s.classA = false → s.agreement.timeFrame = .pending → kind = .time ∧
    body = BitVec.ofNat 8 s.agreement.state.code :: s.agreement.founder.getD 0 :: timeBytes s.clock.now ∧
    t.agreement = { s.agreement with timeFrame := .inFlight }) ∧
  (s.access.reportA = false ∨ s.classA = false → s.agreement.timeFrame ≠ .pending → kind = .event ∧
    body = eventBody (s.capture.outbox.take 5) ∧
    t.capture = { s.capture with inFlight := (s.capture.outbox.take 5).length }) ∧
  (kind = .cancel ∨ kind = .arm → t = ((((inPeriod s).setArms { s.arms with inFlight := t.arms.inFlight }).setFramer
    t.framer).setAccess t.access)) ∧
  (kind = .time → t = (((inPeriod s).setAgreement t.agreement).setFramer t.framer).setAccess t.access) ∧
  (kind = .event → t = (((inPeriod s).setCapture t.capture).setFramer t.framer).setAccess t.access)

section SlotFrame

variable {s : State}

/-- With class A reported and a record eligible, neither lower row is reached. -/
theorem reportsA_of_eligible (hreport : s.access.reportA = true) (h : s.eligibleCancels ≠ [] ∨ s.eligibleArms ≠ []) :
    ¬(s.access.reportA = false ∨ s.classA = false) := by
  rw [hreport, (classA_eq_true_iff s).2 h]
  decide

theorem slotFrame_cancel (hreport : s.access.reportA = true) (h : s.eligibleCancels ≠ []) :
    SlotFrame s s.slotTaken.assemble.refreshTx .cancel (cancelBody (s.eligibleCancels.take 8)) := by
  have hline := beginFrame_refreshTx (s.slotTaken.setArms { s.arms with
    inFlight := .cancels s.clock.now.round ((s.eligibleCancels.take 8).map fun r => ⟨r.id, r.sends == 0⟩) }) .cancel
    (cancelBody (s.eligibleCancels.take 8))
  rw [assemble_cancel (s := s.slotTaken) hreport h]
  obtain ⟨t, ht⟩ : ∃ t, t = (s.slotTaken.beginCancel (s.slotTaken.eligibleCancels.take 8)).refreshTx := ⟨_, rfl⟩
  rw [← ht]
  replace hline := ht.trans hline
  have hlower := reportsA_of_eligible hreport (.inl h)
  refine ⟨congrArg State.framer hline, (congrArg State.access hline).trans (by rw [ht]; rfl), fun _ _ => ⟨rfl, rfl, ?_⟩,
    fun _ hnone => absurd hnone h, fun h => absurd h hlower, fun h => absurd h hlower, fun _ => ?_, by simp, by simp⟩
  · exact congrArg (fun u : State => u.arms.inFlight) hline
  · rw [hline]
    rfl

theorem slotFrame_arm (hreport : s.access.reportA = true) (hnone : s.eligibleCancels = []) (h : s.eligibleArms ≠ []) :
    SlotFrame s s.slotTaken.assemble.refreshTx .arm (armBody (s.eligibleArms.take 4)) := by
  have hline := beginFrame_refreshTx (s.slotTaken.setArms { s.arms with
    inFlight := .arms s.clock.now.round ((s.eligibleArms.take 4).map fun r => ⟨r.id, r.tag, r.action, r.sends == 0⟩) }) .arm
    (armBody (s.eligibleArms.take 4))
  rw [assemble_arm (s := s.slotTaken) hreport hnone h]
  obtain ⟨t, ht⟩ : ∃ t, t = (s.slotTaken.beginArm (s.slotTaken.eligibleArms.take 4)).refreshTx := ⟨_, rfl⟩
  rw [← ht]
  replace hline := ht.trans hline
  have hlower := reportsA_of_eligible hreport (.inr h)
  refine ⟨congrArg State.framer hline, (congrArg State.access hline).trans (by rw [ht]; rfl), fun _ hne => absurd hnone hne,
    fun _ _ _ => ⟨rfl, rfl, ?_⟩, fun h => absurd h hlower, fun h => absurd h hlower, fun _ => ?_, by simp, by simp⟩
  · exact congrArg (fun u : State => u.arms.inFlight) hline
  · rw [hline]
    rfl

/-- Where the Arm Unit gives no record, neither upper row is reached. -/
theorem not_eligible_of_no_classA (h : s.access.reportA = false ∨ s.classA = false) (hreport : s.access.reportA = true) :
    s.eligibleCancels = [] ∧ s.eligibleArms = [] := by
  have hA : ¬s.classA = true := h.elim (fun h => absurd (h.symm.trans hreport) (by decide)) fun h => by simp [h]
  rw [classA_eq_true_iff, not_or, not_ne_iff, not_ne_iff] at hA
  exact hA

theorem slotFrame_time (h : s.access.reportA = false ∨ s.classA = false) (htime : s.agreement.timeFrame = .pending) :
    SlotFrame s s.slotTaken.assemble.refreshTx .time
      (BitVec.ofNat 8 s.agreement.state.code :: s.agreement.founder.getD 0 :: timeBytes s.clock.now) := by
  have hline := beginFrame_refreshTx (s.slotTaken.setAgreement { s.agreement with timeFrame := .inFlight }) .time
    (timeBody s.agreement.state (s.agreement.founder.getD 0) s.clock.now)
  rw [assemble_of_no_classA (s := s.slotTaken) h, if_pos (show s.slotTaken.timePending = true from beq_iff_eq.2 htime)]
  obtain ⟨t, ht⟩ : ∃ t, t = s.slotTaken.beginTime.refreshTx := ⟨_, rfl⟩
  rw [← ht]
  replace hline := ht.trans hline
  refine ⟨congrArg State.framer hline, (congrArg State.access hline).trans (by rw [ht]; rfl),
    fun hreport hne => absurd (not_eligible_of_no_classA h hreport).1 hne,
    fun hreport _ hne => absurd (not_eligible_of_no_classA h hreport).2 hne, fun _ _ => ⟨rfl, rfl, ?_⟩,
    fun _ hne => absurd htime hne, by simp, fun _ => ?_, by simp⟩
  · exact congrArg State.agreement hline
  · rw [hline]
    rfl

theorem slotFrame_event (h : s.access.reportA = false ∨ s.classA = false) (htime : s.agreement.timeFrame ≠ .pending)
    (hevents : s.eventsPending = true) :
    SlotFrame s s.slotTaken.assemble.refreshTx .event (eventBody (s.capture.outbox.take 5)) := by
  have hline := beginFrame_refreshTx (s.slotTaken.setCapture { s.capture with inFlight := (s.capture.outbox.take 5).length }) .event
    (eventBody (s.capture.outbox.take 5))
  rw [assemble_of_no_classA (s := s.slotTaken) h, if_neg (show ¬s.slotTaken.timePending = true from mt beq_iff_eq.1 htime),
    if_pos (show s.slotTaken.eventsPending = true from hevents)]
  obtain ⟨t, ht⟩ : ∃ t, t = s.slotTaken.beginEvent.refreshTx := ⟨_, rfl⟩
  rw [← ht]
  replace hline := ht.trans hline
  refine ⟨congrArg State.framer hline, (congrArg State.access hline).trans (by rw [ht]; rfl),
    fun hreport hne => absurd (not_eligible_of_no_classA h hreport).1 hne,
    fun hreport _ hne => absurd (not_eligible_of_no_classA h hreport).2 hne, fun _ htime' => absurd htime' htime,
    fun _ _ => ⟨rfl, rfl, ?_⟩, by simp, by simp, fun _ => ?_⟩
  · exact congrArg State.capture hline
  · rw [hline]
    rfl

/-- The first row of R145 whose owner gives a record makes the frame. -/
theorem slotFrame_exists (h : s.access.reportA = true ∧ s.classA = true ∨ s.classB = true) :
    ∃ kind body, SlotFrame s s.slotTaken.assemble.refreshTx kind body := by
  by_cases hA : s.access.reportA = true ∧ s.classA = true
  · obtain ⟨hreport, hclass⟩ := hA
    by_cases hcancels : s.eligibleCancels = []
    · exact ⟨_, _, slotFrame_arm hreport hcancels
        (((classA_eq_true_iff s).1 hclass).resolve_left fun hne => hne hcancels)⟩
    · exact ⟨_, _, slotFrame_cancel hreport hcancels⟩
  · have hnone : s.access.reportA = false ∨ s.classA = false := by
      rwa [not_and_or, Bool.not_eq_true, Bool.not_eq_true] at hA
    have hB := (classB_eq_true_iff s).1 (h.resolve_left hA)
    by_cases htime : s.agreement.timeFrame = .pending
    · exact ⟨_, _, slotFrame_time hnone htime⟩
    · exact ⟨_, _, slotFrame_event hnone htime (hB.resolve_left htime)⟩

end SlotFrame

/-- Settles O39. -/
theorem slotStartBeginsTheFrame : Obligations.SlotStartBeginsTheFrame := by
  refine ⟨fun s k hstarting hk => ⟨fun htx hengine hslot => ?_, fun hnot => ?_⟩, fun s hheld hnot =>
    exec_slotStart_of_not_due hheld hnot⟩
  · have hexec : exec .slotStart s = .next s.slotTaken.assemble.refreshTx :=
      (exec_slotStart hstarting).trans (congrArg Host.Outcome.next (if_pos ⟨htx, hengine, slotBegins_of_slot hk hslot⟩))
    refine ⟨fun hcontent => ?_, fun hA hB => hexec.trans (congrArg Host.Outcome.next (slotTaken_assemble_of_nothing htx hA hB))⟩
    obtain ⟨kind, body, hframe⟩ := slotFrame_exists hcontent
    exact ⟨_, kind, body, hexec, hframe⟩
  · refine (exec_slotStart hstarting).trans (congrArg Host.Outcome.next (if_neg ?_))
    rintro ⟨htx, hengine, hbegins⟩
    rcases hnot with h | h | h
    · exact h htx
    · exact h hengine
    · exact slotBegins_eq_false hk h hbegins

end Sys2Proof.Machine

/-! An edge that is accepted: its record, its copy, and the arm request of a trigger input (R46, R91 to R100). -/

namespace Sys2Proof.Machine

set_option Elab.async false

open Safety

namespace AsideArms

variable {g : State → State} (h : AsideArms g) (s : State)

include h

theorem expireArm (r : ArmRecord) : (g s).expireArm r = g (s.expireArm r) := by
  have hnote : (g s).expiryNote r = g (s.expiryNote r) := by
    unfold State.expiryNote
    refine ite_aside Iff.rfl rfl ?_
    rw [State.ownNote, h.config, h.note]
    rfl
  rw [State.expireArm_eq, hnote, h.removeArms]
  rfl

theorem stepArms : (g s).stepArms = g s.stepArms := by
  have hpassed : (g s).armStepped = s.armStepped := by
    funext r
    rw [State.armStepped, h.len, h.now, h.arms]
    rfl
  rw [State.stepArms, State.expireWhere, h.arms, hpassed, foldl_aside h.expireArm]
  rfl

end AsideArms

namespace State

/-! ### Samples and due acceptances -/

theorem getLsbD_allSampled (i : Fin 8) : (0xFF : BitVec 8).getLsbD i.val = true := by
  revert i
  decide

theorem sampleInputs_of_sampled {s : State} (h : s.sampled = 0xFF) : s.sampleInputs = s := by
  have hnone : ∀ i : Fin 8, s.sampleInput i = s := fun i => by
    refine sampleInput_of_not_canSample ?_
    have hbit : s.sampled.getLsbD i.val = true := h ▸ getLsbD_allSampled i
    rw [canSample, hbit]
    exact Bool.and_false _
  exact List.foldl_fixed' (fun i => hnone i) _

theorem foldl_skip {α : Type} {f : State → α → State} {s : State} {as : List α} (h : ∀ a ∈ as, f s a = s) : as.foldl f s = s := by
  induction as with
  | nil => rfl
  | cons a as ih =>
    rw [List.foldl_cons, h a List.mem_cons_self]
    exact ih fun b hb => h b (List.mem_cons_of_mem _ hb)

theorem acceptDue_of_stable {s : State} {i : Fin 8} (h : (s.capture.filters[i]).condition = .stable) : ¬s.acceptDue i = true := by
  simp only [acceptDue, InputFilter.holdDone, h, Bool.and_false]
  decide

theorem acceptDue_of_held {s : State} {i : Fin 8} {edge : Edge} {stamp : LineTime} {hold : Nat} {stepped : Bool}
    (hrunning : s.clock.running = true) (hsampled : s.sampled = 0xFF)
    (h : (s.capture.filters[i]).condition = .pending edge stamp hold stepped) (hhold : (s.config.inputs[i]).hold = hold) :
    s.acceptDue i = true := by
  have hbit : s.sampled.getLsbD i.val = true := hsampled ▸ getLsbD_allSampled i
  rw [acceptDue, hrunning, hbit, InputFilter.holdDone, h]
  simpa using hhold.symm

/-- The one acceptance that is due in a period is that of the period. -/
theorem acceptEdges_one {s : State} {i : Fin 8} (judged : LineTime) (hdue : s.acceptDue i = true)
    (hothers : ∀ j, j ≠ i → (s.capture.filters[j]).condition = .stable)
    (hafter : ∀ j : Fin 8, ((acceptEdge judged s i).capture.filters[j]).condition = .stable) :
    s.acceptEdges judged = acceptEdge judged s i := by
  obtain ⟨before, after, hsplit⟩ := List.append_of_mem (List.mem_finRange i)
  have hnodup := List.nodup_finRange 8
  rw [hsplit, List.nodup_append] at hnodup
  obtain ⟨-, -, hapart⟩ := hnodup
  rw [acceptEdges, hsplit, List.foldl_append, foldl_skip fun j hj => if_neg (acceptDue_of_stable
    (hothers j (hapart j hj i List.mem_cons_self))), List.foldl_cons, if_pos hdue]
  exact foldl_skip fun j _ => if_neg (acceptDue_of_stable (hafter j))

/-! ### The record of an edge and its copy (R93, R94, R96) -/

/-- The filter of an input whose edge is accepted. -/
def acceptedFilter (s : State) (i : Fin 8) (edge : Edge) : InputFilter :=
  { s.capture.filters[i] with stable := some (edge == .rise), condition := .stable }

theorem acceptEdge_of_pending {s : State} {i : Fin 8} {edge : Edge} {stamp : LineTime} {hold : Nat} {stepped : Bool}
    (judged : LineTime) (h : (s.capture.filters[i]).condition = .pending edge stamp hold stepped)
    (hselection : (s.config.inputs[i]).selection = .both) :
    acceptEdge judged s i = (s.setFilter i (s.acceptedFilter i edge)).handOn i edge stamp stepped judged := by
  unfold acceptEdge
  simp only [h]
  exact if_pos (by rw [hselection]; cases edge <;> rfl)

theorem exec_edgeAccepted {s : State} (hheld : s.resetHeld = false) (hsampled : s.sampled = 0xFF) :
    exec .edgeAccepted s = .next ((inPeriod s).acceptEdges s.storeNow).refreshTx := by
  refine (next_unlessHeld hheld _).trans (congrArg Host.Outcome.next ?_)
  rw [sampleInputs_of_sampled (s := inPeriod s) hsampled]
  rfl

/-- Whether the edge of an input is copied to the event outbox (R96). -/
def copies (s : State) (i : Fin 8) : Bool :=
  (s.config.inputs[i]).share && s.canShare && s.capture.outbox.length < Config.eventOutboxCapacity

theorem copies_iff {s : State} {i : Fin 8} (hset : s.agreement.state ≠ .unset) : s.copies i = true ↔
    (s.config.inputs[i]).share = true ∧ s.agreement.state ≠ .listening ∧ s.capture.outbox.length < 16 := by
  have hshare : s.canShare = true ↔ s.agreement.state ≠ .listening := by
    rw [canShare, Bool.or_eq_true, acting_iff, beq_iff_eq, Acting]
    cases hstate : s.agreement.state <;> simp_all
  rw [copies, Bool.and_eq_true, Bool.and_eq_true, hshare, decide_eq_true_eq, and_assoc]

/-- The record of an edge, and the copy of a sharing input (R93, R94, R96). -/
def edgeRecorded (s : State) (i : Fin 8) (edge : Edge) (stamp : LineTime) (stepped : Bool) (tag : Byte) : State :=
  (s.setCapture { s.capture with
    outbox := s.capture.outbox ++ (if s.copies i then [⟨i, edge, s.sureState && !stepped, tag, stamp⟩] else []) }).takeRecord
      ⟨.edge i edge, s.config.id, s.sureState && !stepped, tag, stamp, false, false, (s.config.inputs[i]).share && !s.copies i⟩

theorem copied_eq (s : State) (i : Fin 8) (e : SharedEdge) :
    (if s.copies i then s.setCapture { s.capture with outbox := s.capture.outbox ++ [e] } else s) =
      s.setCapture { s.capture with outbox := s.capture.outbox ++ (if s.copies i then [e] else []) } := by
  cases s.copies i with
  | true => rfl
  | false =>
    have hsame : s.capture.outbox ++ (if false = true then [e] else []) = s.capture.outbox := List.append_nil _
    rw [hsame]
    rfl

theorem handOn_of_untagged {s : State} {i : Fin 8} (edge : Edge) (stamp : LineTime) (stepped : Bool) (judged : LineTime)
    (h : (s.config.inputs[i]).tag = 0) : s.handOn i edge stamp stepped judged = s.edgeRecorded i edge stamp stepped 0 := by
  have hquiet : ((s.config.inputs[i]).tag != 0 && triggerIncludes (s.config.inputs[i]).triggerEdges edge) = false := by
    rw [h]
    rfl
  unfold handOn
  simp only [hquiet, Bool.false_eq_true, if_false]
  exact congrArg (fun u : State => u.takeRecord _) (copied_eq s i _)

theorem handOn_of_trigger {s : State} {i : Fin 8} (edge : Edge) (stamp : LineTime) (stepped : Bool) (judged : LineTime) {tag : Byte}
    (h : (s.config.inputs[i]).tag = tag) (htag : tag ≠ 0) (hedges : (s.config.inputs[i]).triggerEdges = .both) :
    s.handOn i edge stamp stepped judged = (s.edgeRecorded i edge stamp stepped tag).requestFromInput i stamp judged := by
  have htriggers : ((s.config.inputs[i]).tag != 0 && triggerIncludes (s.config.inputs[i]).triggerEdges edge) = true := by
    rw [h, hedges]
    cases edge <;> simpa [triggerIncludes] using htag
  subst h
  unfold handOn
  simp only [htriggers, if_true]
  exact congrArg (fun u : State => (u.takeRecord _).requestFromInput i stamp judged) (copied_eq s i _)

theorem sureState_iff (s : State) : s.sureState = true ↔ s.agreement.state = .alone ∨ s.agreement.state = .locked := by
  simp [sureState]

/-- A young record that an empty store takes stands alone in the settling list. -/
theorem takeRecord_empty {s : State} (hset : s.agreement.state ≠ .unset) (hempty : s.store = ⟨[], [], none, .clear⟩)
    {r : EventRecord} (hyoung : -((s.config.horizon * s.len : Nat) : Int) < timeDiff s.len s.storeNow r.stamp) :
    s.takeRecord r = s.setStore ⟨[r], [], none, .clear⟩ := by
  have hsettled : settled s.len s.config.horizon s.storeNow r = false := settled_eq_false hyoung
  rw [takeRecord_of_set hset, hempty, EventStore.take_settling (by decide) rfl, EventStore.look_of_young]
  · rfl
  · simpa [insertByKey] using hsettled

end State

open State

/-- The edge of an input that has no trigger tag (R91 to R96). -/
theorem edgeAccepted_untagged {s : State} {i : Fin 8} {edge : Edge} {stamp : LineTime} {stepped : Bool} {hold : Nat}
    (hheld : s.resetHeld = false) (hrunning : s.clock.running = true) (hsampled : s.sampled = 0xFF)
    (hpending : (s.capture.filters[i]).condition = .pending edge stamp hold stepped) (hhold : (s.config.inputs[i]).hold = hold)
    (hselection : (s.config.inputs[i]).selection = .both) (htag : (s.config.inputs[i]).tag = 0)
    (hothers : ∀ j : Fin 8, j ≠ i → (s.capture.filters[j]).condition = .stable) (hset : s.agreement.state ≠ .unset)
    (hempty : s.store = ⟨[], [], none, .clear⟩)
    (hyoung : -((s.config.horizon * s.len : Nat) : Int) < timeDiff s.len s.storeNow stamp) :
    exec .edgeAccepted s = .next (((inPeriod s).setCapture { s.capture with
          filters := s.capture.filters.set i.val (s.acceptedFilter i edge)
          outbox := s.capture.outbox ++ (if s.copies i then [⟨i, edge, s.sureState && !stepped, 0, stamp⟩] else []) }).setStore
            ⟨[⟨.edge i edge, s.config.id, s.sureState && !stepped, 0, stamp, false, false,
              (s.config.inputs[i]).share && !s.copies i⟩], [], none, .clear⟩).refreshTx := by
  have haccept : acceptEdge s.storeNow (inPeriod s) i = ((inPeriod s).setCapture { s.capture with
      filters := s.capture.filters.set i.val (s.acceptedFilter i edge)
      outbox := s.capture.outbox ++ (if s.copies i then [⟨i, edge, s.sureState && !stepped, 0, stamp⟩] else []) }).setStore
        ⟨[⟨.edge i edge, s.config.id, s.sureState && !stepped, 0, stamp, false, false,
          (s.config.inputs[i]).share && !s.copies i⟩], [], none, .clear⟩ := by
    rw [acceptEdge_of_pending (s := inPeriod s) _ hpending hselection]
    refine (handOn_of_untagged (s := (inPeriod s).setFilter i ((inPeriod s).acceptedFilter i edge)) _ _ _ _ htag).trans ?_
    exact takeRecord_empty (s := ((inPeriod s).setFilter i ((inPeriod s).acceptedFilter i edge)).setCapture _) hset hempty hyoung
  have hdue := acceptDue_of_held (s := inPeriod s) hrunning hsampled hpending hhold
  have hone := acceptEdges_one (s := inPeriod s) s.storeNow hdue hothers fun j => by
    rw [haccept]
    by_cases hj : i = j
    · subst hj
      simp [acceptedFilter]
    · have hne : i.val ≠ j.val := fun h => hj (Fin.ext h)
      simpa [hne] using hothers j (Ne.symm hj)
  rw [exec_edgeAccepted hheld hsampled, hone, haccept]

/-! ### The arms that a step passes (R54) -/

namespace State

theorem foldl_takeRecord_eq (rs : List EventRecord) (s : State) : rs.foldl takeRecord s = s.setStore (rs.foldl takeRecord s).store := by
  induction rs generalizing s with
  | nil => rfl
  | cons r rs ih =>
    rw [List.foldl_cons, ih]
    rw [takeRecord_eq s r]
    rfl

/-- The note of an arm that a step to `new` passes (R54). -/
def steppedNote (s : State) (new : LineTime) (r : ArmRecord) : EventRecord :=
  ⟨.note .armExpired r.id, s.config.id, s.agreement.state == .alone || s.agreement.state == .locked, r.tag, new, false, false, false⟩

/-- The Arm Unit's reaction to a step, made in the reading of the new line time (R54). -/
theorem armsStepped_atReading {s : State} {new : LineTime} (hids : (s.arms.outbox.map (·.id)).Nodup) :
    ArmsStepped s (s.atReading new stepArms) new := by
  obtain ⟨h, hh⟩ : ∃ h, h = s.setClock { s.clock with now := new, handed := some s.storeNow } := ⟨_, rfl⟩
  obtain ⟨v, hv⟩ : ∃ v, v = ((s.arms.outbox.filter fun r => passedBy s new r && !r.effective).map (s.steppedNote new)).foldl takeRecord h :=
    ⟨_, rfl⟩
  have hkept := foldl_takeRecord_eq ((s.arms.outbox.filter fun r => passedBy s new r && !r.effective).map (s.steppedNote new)) h
  rw [← hv] at hkept
  have hcapture : v.capture = s.capture := by rw [hkept, hh]; rfl
  have houtbox : v.arms = s.arms := by rw [hkept, hh]; rfl
  have hstep : h.stepArms = v.removeArms (passedBy s new) := by
    rw [hv, hh]
    exact expireWhere_eq (s := s.setClock { s.clock with now := new, handed := some s.storeNow }) hids (passedBy s new)
  have hstore : v.store = (((s.arms.outbox.filter fun r => passedBy s new r && !r.effective).map (s.steppedNote new)).foldl
      takeRecord s).store := by
    rw [hv]
    exact foldl_takeRecord_store_congr _ (by rw [hh]; rfl) (by rw [hh]; rfl) (by rw [hh]; rfl) (by rw [hh]; rfl)
  have hu : s.atReading new stepArms = (v.removeArms (passedBy s new)).setClock s.clock := by
    rw [← hstep, hh]
    rfl
  have hleft := removeArms_eq v (passedBy s new)
  refine ⟨?_, ?_, ?_, fun j => ?_⟩
  · have hfinal : (v.removeArms (passedBy s new)).setClock s.clock =
        ((s.setArms { s.arms with outbox := s.arms.outbox.filter fun r => !passedBy s new r }).setCapture
          (v.removeArms (passedBy s new)).capture).setStore v.store := by
      rw [hleft, houtbox, hkept, hh]
      rfl
    rw [hu]
    exact hfinal.trans (congrArg (State.setStore _) hstore)
  · rw [hu, hleft, hcapture]
    rfl
  · rw [hu, hleft, hcapture]
    rfl
  · rw [hu]
    refine (removeArms_filters v (passedBy s new) j).trans ?_
    rw [hcapture, houtbox]

/-- The reaction to a step that has come first in the period, where one has (R95, R100). -/
theorem stepArmsFirst_effect {s : State} {judged : LineTime} (hdistinct : judged ≠ s.now → ArmIdsDistinct s) :
    (judged = s.now → s.stepArmsFirst judged = s) ∧ (judged ≠ s.now → ArmsStepped s (s.stepArmsFirst judged) judged) := by
  refine ⟨fun h => if_pos h, fun h => ?_⟩
  obtain ⟨hids, -, -⟩ := hdistinct h
  rw [stepArmsFirst, if_neg h]
  exact armsStepped_atReading hids

theorem stepArmsFirst_inPeriod (s : State) (judged : LineTime) : (inPeriod s).stepArmsFirst judged = inPeriod (s.stepArmsFirst judged) := by
  have hsteps := (asideArms_late false).stepArms (s.setClock { s.clock with now := judged, handed := some s.storeNow })
  exact ite_aside Iff.rfl rfl (congrArg (fun h : State => h.setClock s.clock) hsteps)

/-! ### The checks on an arm request (R46) -/

/-- What the checks of R46 find, in order. -/
def requestRefusal (s : State) (i : Fin 8) (action judged : LineTime) : Option NoteCode :=
  if !s.acting then some .triggerState
  else if earlier s.len action (s.earliestAction judged) then some .triggerLead
  else if later s.len action (latestAction judged) then some .triggerLead
  else if (s.capture.filters[i]).outstanding.isSome then some .triggerBusy
  else if Config.armCapacity ≤ s.arms.outbox.length then some .triggerFull
  else none

theorem checkRequest_eq (s : State) (i : Fin 8) (stamp judged : LineTime) : s.checkRequest i stamp judged =
    match s.requestRefusal i (timeAdd s.len stamp (s.config.inputs[i]).lead) judged with
    | some c => s.takeRecord (noteNow s c (BitVec.ofNat 8 i.val) s.config.id (s.config.inputs[i]).tag)
    | none => s.createArm (s.config.inputs[i]).tag (timeAdd s.len stamp (s.config.inputs[i]).lead) (.input i) := by
  unfold checkRequest requestRefusal
  simp only
  split_ifs <;> rfl

section RequestRefusal

variable {s : State} {i : Fin 8} {action judged : LineTime}

theorem requestRefusal_of_not_acting (h : ¬Acting s) : s.requestRefusal i action judged = some .triggerState :=
  if_pos (by rwa [Bool.not_eq_true', ← Bool.not_eq_true, acting_iff])

variable (hacting : Acting s)

include hacting

theorem requestRefusal_of_acting : s.requestRefusal i action judged =
    if earlier s.len action (timeAdd s.len judged s.config.margin) then some .triggerLead
    else if later s.len action (timeAddRounds judged 250) then some .triggerLead
    else if (s.capture.filters[i]).outstanding.isSome then some .triggerBusy
    else if 8 ≤ s.arms.outbox.length then some .triggerFull
    else none :=
  if_neg (by rwa [Bool.not_eq_true', Bool.not_eq_false, acting_iff])

theorem requestRefusal_of_early (h : earlier s.len action (timeAdd s.len judged s.config.margin) = true) :
    s.requestRefusal i action judged = some .triggerLead := (requestRefusal_of_acting hacting).trans (if_pos h)

variable (hearly : earlier s.len action (timeAdd s.len judged s.config.margin) = false)

include hearly

theorem requestRefusal_of_late (h : later s.len action (timeAddRounds judged 250) = true) :
    s.requestRefusal i action judged = some .triggerLead := by
  rw [requestRefusal_of_acting hacting, if_neg (ne_true_of_eq_false hearly), if_pos h]

variable (hlate : later s.len action (timeAddRounds judged 250) = false)

include hlate

theorem requestRefusal_of_busy (h : (s.capture.filters[i]).outstanding ≠ none) :
    s.requestRefusal i action judged = some .triggerBusy := by
  rw [requestRefusal_of_acting hacting, if_neg (ne_true_of_eq_false hearly), if_neg (ne_true_of_eq_false hlate),
    if_pos (Option.isSome_iff_ne_none.2 h)]

theorem requestRefusal_of_idle (h : (s.capture.filters[i]).outstanding = none) :
    s.requestRefusal i action judged = if 8 ≤ s.arms.outbox.length then some .triggerFull else none := by
  rw [requestRefusal_of_acting hacting, if_neg (ne_true_of_eq_false hearly), if_neg (ne_true_of_eq_false hlate),
    if_neg (by rw [h]; decide)]

end RequestRefusal

/-- The Event Store with the note of a refusal, where there is one. -/
def notedStore (s : State) (code : Option NoteCode) (detail : Byte) (origin : StationId) (tag : Byte) : EventStore :=
  match code with
  | none => s.store
  | some c => (s.takeRecord (noteNow s c detail origin tag)).store

/-- The station after the checks on the request of input `i`, whose edge has been accepted. -/
theorem checkRequest_inPeriod {u : State} {i : Fin 8} {stamp action judged : LineTime} {level : Option Bool} {tag : Byte}
    {code : Option NoteCode} (hfilter : u.capture.filters[i] = ⟨level, .stable, (u.capture.filters[i]).outstanding⟩)
    (haction : action = timeAdd u.len stamp (u.config.inputs[i]).lead) (htag : (u.config.inputs[i]).tag = tag)
    (hcode : code = u.requestRefusal i action judged) :
    (inPeriod u).checkRequest i stamp judged = ((((inPeriod u).setCapture { u.capture with
        filters := u.capture.filters.set i.val ⟨level, .stable,
          if code = none then some u.newArmId else (u.capture.filters[i]).outstanding⟩ }).setArms
        (if code = none then { u.arms with
          outbox := u.arms.outbox ++ [⟨u.newArmId, tag, action, .input i, 0, false, none⟩], nextId := u.newArmId + 1 }
        else u.arms)).setStore
          (u.notedStore code (BitVec.ofNat 8 i.val) u.config.id tag)) := by
  have hcheck := checkRequest_eq (inPeriod u) i stamp judged
  have hsame : (inPeriod u).requestRefusal i (timeAdd u.len stamp (u.config.inputs[i]).lead) judged = code := by
    rw [hcode, haction]
    rfl
  refine hcheck.trans ?_
  refine Eq.trans (b := match code with
    | some c => (inPeriod u).takeRecord (noteNow (inPeriod u) c (BitVec.ofNat 8 i.val) u.config.id (u.config.inputs[i]).tag)
    | none => (inPeriod u).createArm (u.config.inputs[i]).tag (timeAdd u.len stamp (u.config.inputs[i]).lead) (.input i)) ?_ ?_
  · rw [← hsame]
    rfl
  · subst htag haction
    cases code with
    | some c =>
      have hkept : u.capture.filters.set i.val ⟨level, .stable, (u.capture.filters[i]).outstanding⟩ = u.capture.filters := by
        rw [← hfilter]
        exact Vector.set_getElem_self _
      simp only [reduceCtorEq, if_false, hkept]
      have hnoted := (asideArms_late false).takeRecord u
        (noteNow u c (BitVec.ofNat 8 i.val) u.config.id (u.config.inputs[i]).tag)
      refine hnoted.trans ?_
      rw [takeRecord_eq]
      rfl
    | none =>
      have hid : (inPeriod u).newArmId = u.newArmId := newArmId_of_arms rfl
      simp only [if_true]
      rw [createArm, hid]
      have hfilter' : { u.capture.filters[i] with outstanding := some u.newArmId } =
        (⟨level, .stable, some u.newArmId⟩ : InputFilter) := by rw [hfilter]
      rw [← hfilter']
      rfl

theorem edgeRecorded_of_unshared {s : State} {i : Fin 8} (edge : Edge) (stamp : LineTime) (stepped : Bool) (tag : Byte)
    (h : (s.config.inputs[i]).share = false) : s.edgeRecorded i edge stamp stepped tag =
      s.takeRecord ⟨.edge i edge, s.config.id, s.sureState && !stepped, tag, stamp, false, false, false⟩ := by
  have hcopies : s.copies i = false := by rw [copies, h]; rfl
  have hsame : s.capture.outbox ++ (if false = true then [⟨i, edge, s.sureState && !stepped, tag, stamp⟩] else []) =
    s.capture.outbox := List.append_nil _
  rw [edgeRecorded, hcopies, h, hsame]
  rfl

/-- The station with the edge of an unsharing trigger input recorded (R93, R94). -/
def triggerRecorded (s : State) (i : Fin 8) (edge : Edge) (stamp : LineTime) (sure : Bool) (tag : Byte) : State :=
  (s.setCapture { s.capture with filters := s.capture.filters.set i.val (s.acceptedFilter i edge) }).takeRecord
    ⟨.edge i edge, s.config.id, sure, tag, stamp, false, false, false⟩

theorem triggerRecorded_kept (s : State) (i : Fin 8) (edge : Edge) (stamp : LineTime) (sure : Bool) (tag : Byte) :
    Frame [.filters, .store] s (s.triggerRecorded i edge stamp sure tag) ∧
      (s.triggerRecorded i edge stamp sure tag).capture.filters = s.capture.filters.set i.val (s.acceptedFilter i edge) := by
  have hrecorded := takeRecord_frame (s.setCapture { s.capture with filters := s.capture.filters.set i.val (s.acceptedFilter i edge) })
    ⟨.edge i edge, s.config.id, sure, tag, stamp, false, false, false⟩
  exact ⟨((setFilters_frame s _).mono).trans hrecorded.mono, hrecorded.same .filters⟩

/-- The reaction to a step leaves every filter but for its outstanding arm. -/
theorem armsStepped_filter {s u : State} {new : LineTime} (h : ArmsStepped s u new) (j : Fin 8) :
    (u.capture.filters[j]).stable = (s.capture.filters[j]).stable ∧
      (u.capture.filters[j]).condition = (s.capture.filters[j]).condition := by
  obtain ⟨-, -, -, hfilters⟩ := h
  rw [hfilters j]
  split
  · exact ⟨rfl, rfl⟩
  · exact ⟨rfl, rfl⟩

end State

open State

section TriggerEdge

variable {s : State} {i : Fin 8} {edge : Edge} {stamp judged : LineTime} {stepped : Bool} {hold : Nat} {tag : Byte}

/-- The edge of a trigger input that does not share: its record, the arms that a step passes, and its request (R93, R99, R100). -/
theorem acceptEdge_trigger (hpending : (s.capture.filters[i]).condition = .pending edge stamp hold stepped)
    (hselection : (s.config.inputs[i]).selection = .both) (hshare : (s.config.inputs[i]).share = false)
    (htag : (s.config.inputs[i]).tag = tag) (hne : tag ≠ 0) (hedges : (s.config.inputs[i]).triggerEdges = .both) :
    acceptEdge judged (inPeriod s) i =
      (inPeriod ((s.triggerRecorded i edge stamp (s.sureState && !stepped) tag).stepArmsFirst judged)).checkRequest i stamp judged := by
  have hfilter : (inPeriod s).setFilter i ((inPeriod s).acceptedFilter i edge) =
    inPeriod (s.setCapture { s.capture with filters := s.capture.filters.set i.val (s.acceptedFilter i edge) }) := rfl
  rw [acceptEdge_of_pending (s := inPeriod s) _ hpending hselection, hfilter]
  obtain ⟨v, hv⟩ : ∃ v, v = s.setCapture { s.capture with filters := s.capture.filters.set i.val (s.acceptedFilter i edge) } := ⟨_, rfl⟩
  have hconfig : v.config = s.config := by rw [hv]; rfl
  have hrecorded : (inPeriod v).edgeRecorded i edge stamp stepped tag =
      inPeriod (s.triggerRecorded i edge stamp (s.sureState && !stepped) tag) := by
    rw [edgeRecorded_of_unshared (s := inPeriod v) _ _ _ _ (hconfig ▸ hshare), hv]
    exact (asideArms_late false).takeRecord _ _
  rw [← hv, handOn_of_trigger (s := inPeriod v) edge stamp stepped judged (hconfig ▸ htag) hne (hconfig ▸ hedges), hrecorded,
    requestFromInput, stepArmsFirst_inPeriod]

/-- The reaction to a step, where one has come first, leaves the filters stable as they are. -/
theorem triggerStepped_filters {recorded u : State} (hnow : judged = s.clock.now → u = recorded)
    (hstep : judged ≠ s.clock.now → ArmsStepped recorded u judged) (j : Fin 8) :
    (u.capture.filters[j]).stable = (recorded.capture.filters[j]).stable ∧
      (u.capture.filters[j]).condition = (recorded.capture.filters[j]).condition := by
  by_cases h : judged = s.clock.now
  · rw [hnow h]
    exact ⟨rfl, rfl⟩
  · exact armsStepped_filter (hstep h) j

/-- The filters once the edge of input `i` is recorded and a step, where one has come first, has passed its arms. -/
theorem triggerStepped_filters_stable {recorded u : State} (hnow : judged = s.clock.now → u = recorded)
    (hstep : judged ≠ s.clock.now → ArmsStepped recorded u judged)
    (hfilters : recorded.capture.filters = s.capture.filters.set i.val (s.acceptedFilter i edge))
    (hothers : ∀ j : Fin 8, j ≠ i → (s.capture.filters[j]).condition = .stable) :
    u.capture.filters[i] = ⟨some (edge == .rise), .stable, (u.capture.filters[i]).outstanding⟩ ∧
      ∀ j : Fin 8, (u.capture.filters[j]).condition = .stable := by
  have haccepted : recorded.capture.filters[i] = s.acceptedFilter i edge := by
    rw [hfilters]
    exact Vector.getElem_set_self _
  obtain ⟨hlevel, hcondition⟩ := triggerStepped_filters hnow hstep i
  rw [haccepted] at hlevel hcondition
  refine ⟨?_, fun j => ?_⟩
  · rw [show u.capture.filters[i] = ⟨(u.capture.filters[i]).stable, (u.capture.filters[i]).condition,
      (u.capture.filters[i]).outstanding⟩ from rfl, hlevel, hcondition]
    rfl
  · by_cases hj : i = j
    · rw [← hj, hcondition]
      rfl
    · have hrecorded : recorded.capture.filters[j] = s.capture.filters[j] := by
        rw [hfilters]
        exact Vector.getElem_set_ne _ _ fun h => hj (Fin.ext h)
      rw [(triggerStepped_filters hnow hstep j).2, hrecorded]
      exact hothers j (Ne.symm hj)

end TriggerEdge

/-- A filter that is set stable leaves all stable. -/
theorem condition_set_stable {fs : Vector InputFilter 8} (h : ∀ j : Fin 8, (fs[j]).condition = .stable) (i : Fin 8)
    {f : InputFilter} (hf : f.condition = .stable) (j : Fin 8) : ((fs.set i.val f)[j]).condition = .stable := by
  show ((fs.set i.val f)[j.val]).condition = .stable
  rw [Vector.getElem_set]
  split
  · exact hf
  · exact h j

theorem acting_of_not {s : State} (hset : s.agreement.state ≠ .unset) (hlistening : s.agreement.state ≠ .listening)
    (hadrift : s.agreement.state ≠ .adrift) : Acting s := by
  unfold Acting
  cases hstate : s.agreement.state <;> simp_all

theorem reported_of_access {s t : State} (h : t.access = s.access) : Reported s t.refreshTx := by
  have hreported := refreshTx_reported t
  rw [Reported, h] at hreported
  exact hreported

/-- Settles O32. -/
theorem heldEdgeIsAccepted : Obligations.HeldEdgeIsAccepted := by
  refine ⟨fun s i edge stamp stepped hold hheld hrunning hsampled hpending hhold hselection htag hothers hset hempty hyoung => ?_,
    fun s i edge stamp action judged stepped sure hold tag hheld hrunning hsampled hpending hhold hselection hshare htag hne hedges
      hothers hset haction hjudged hsure hdistinct => ?_⟩
  · refine ⟨s.sureState && !stepped, s.copies i, _, edgeAccepted_untagged hheld hrunning hsampled hpending hhold hselection htag hothers
      hset hempty hyoung, ?_, ?_, ?_, copies_iff hset⟩
    · exact refreshTx_reported _
    · rw [refreshTx_eq]
      rfl
    · rw [Bool.and_eq_true, sureState_iff, Bool.not_eq_true']
  · obtain rfl : sure = s.sureState := by rw [Bool.eq_iff_iff, hsure, sureState_iff]
    have haccept := acceptEdge_trigger (judged := judged) hpending hselection hshare htag hne hedges
    obtain ⟨recorded, hrecorded⟩ : ∃ recorded, recorded = s.triggerRecorded i edge stamp (s.sureState && !stepped) tag := ⟨_, rfl⟩
    obtain ⟨hkept, hfilters⟩ := hrecorded ▸ triggerRecorded_kept s i edge stamp (s.sureState && !stepped) tag
    obtain ⟨u, hu⟩ : ∃ u, u = recorded.stepArmsFirst judged := ⟨_, rfl⟩
    have hnow : recorded.now = s.clock.now := congrArg LineClock.now (hkept.same .clock)
    have hids : judged ≠ recorded.now → ArmIdsDistinct recorded := by
      rw [hnow, ArmIdsDistinct, hkept.arms]
      exact hdistinct
    obtain ⟨hsame, hstep⟩ := stepArmsFirst_effect hids
    rw [hnow, ← hu] at hsame hstep
    have hu' : Frame [.outbox, .filters, .store] s u := hkept.mono.trans (hu ▸ stepArmsFirst_frame recorded judged)
    rw [← hrecorded, ← hu] at haccept
    have hconfig : u.config = s.config := hu'.same .config
    have hlen : u.len = s.len := by rw [len, hconfig]; rfl
    obtain ⟨hfilter, hstable⟩ := triggerStepped_filters_stable hsame hstep hfilters hothers
    obtain ⟨code, hcode⟩ : ∃ code, code = u.requestRefusal i action judged := ⟨_, rfl⟩
    have hcheck := checkRequest_inPeriod hfilter (by rw [haction, hlen, hconfig]) (by rw [hconfig, htag]) hcode
    obtain ⟨x, hx⟩ : ∃ x, x = (inPeriod u).checkRequest i stamp judged := ⟨_, rfl⟩
    rw [← hx] at haccept hcheck
    have hdue := acceptDue_of_held (s := inPeriod s) hrunning hsampled hpending hhold
    have hone := acceptEdges_one (s := inPeriod s) judged hdue hothers fun j => by
      rw [haccept, hcheck]
      exact condition_set_stable hstable i rfl j
    have hexec : exec .edgeAccepted s = .next x.refreshTx := by
      rw [exec_edgeAccepted hheld hsampled, show s.storeNow = judged from hjudged.symm, hone, haccept]
    have haccess : x.access = s.access := by
      rw [hcheck]
      exact hu'.access
    have hacting : Acting u ↔ Acting s := by rw [Acting, hu'.agreement_state]; rfl
    refine ⟨code, recorded, u, _, ?_, hsame, hstep, hexec, reported_of_access haccess, ?_, fun hstate => ?_, fun hnotListening hnotAdrift =>
      ⟨fun hearly => ?_, fun hearly => ⟨fun hlate => ?_, fun hlate => ⟨fun hbusy => ?_, fun hidle => ⟨fun hfull => ?_, fun hroom => ?_⟩⟩⟩⟩⟩
    · rw [hrecorded]
      rfl
    · rw [hconfig] at hcheck
      refine Eq.trans (?_ : _ = x.setAccess x.refreshTx.access)
        ((congrArg (fun v : State => v.setAccess x.refreshTx.access) hcheck).trans ?_)
      · rw [refreshTx_eq]
        rfl
      · cases code <;> rfl
    · rw [hcode, requestRefusal_of_not_acting]
      rw [hacting, Acting]
      rcases hstate with h | h <;> simp [h]
    all_goals
      have hactingU : Acting u := hacting.2 (acting_of_not hset hnotListening hnotAdrift)
      rw [← hlen] at hearly
      rw [← hconfig] at hearly
    · rw [hcode, requestRefusal_of_early hactingU hearly]
    · rw [hcode, requestRefusal_of_late hactingU hearly (hlen ▸ hlate)]
    · rw [hcode, requestRefusal_of_busy hactingU hearly (hlen ▸ hlate) hbusy]
    · rw [hcode, requestRefusal_of_idle hactingU hearly (hlen ▸ hlate) hidle, if_pos hfull]
    · rw [hcode, requestRefusal_of_idle hactingU hearly (hlen ▸ hlate) hidle, if_neg (Nat.not_le.2 hroom)]

end Sys2Proof.Machine

/-! The figures of a round close (R26 to R29). -/

namespace Sys2Proof.Machine

set_option Elab.async false

open Safety

theorem Agreement.timeline_of_founder {a : Agreement} (h : a.state ≠ .listening) : a.timeline = a.founder := if_neg h

theorem Peer.contributes_iff (own : Option StationId) (p : Peer) : p.contributes own = true ↔
    p.state = .live ∧ p.fresh = true ∧ (∃ o, p.offset = some o) ∧
      (p.senderState = some .locked ∨ p.senderState = some .alone) ∧ ∃ f, p.founder = some f ∧ own = some f := by
  simp only [Peer.contributes, Bool.and_eq_true, Bool.or_eq_true, beq_iff_eq, Option.isSome_iff_exists]
  constructor
  · rintro ⟨⟨⟨⟨⟨hlive, hfresh⟩, hoffset⟩, hsender⟩, f, hf⟩, hown⟩
    exact ⟨hlive, hfresh, hoffset, hsender, f, hf, hown ▸ hf⟩
  · rintro ⟨hlive, hfresh, hoffset, hsender, f, hf, hown⟩
    exact ⟨⟨⟨⟨⟨hlive, hfresh⟩, hoffset⟩, hsender⟩, f, hf⟩, hf.trans hown.symm⟩

/-- A filtered table, read by place. -/
theorem filter_toList_map {α β : Type} (v : Vector α 24) (p : α → Bool) (f : α → β) :
    (v.toList.filter p).map f = ((List.finRange 24).filter fun i => p v[i]).map fun i => f v[i] := by
  have hlist : v.toList = (List.finRange 24).map fun i => v[i] := by
    refine List.ext_getElem (by simp) fun i h1 h2 => ?_
    simp
  rw [hlist, List.filter_map, List.map_map]
  rfl

theorem Agreement.figures_offsets (a : Agreement) (limit : Nat) (h : a.state ≠ .listening) : (a.figures limit).offsets =
    ((List.finRange 24).filter fun i => (a.peers[i]).contributes a.founder).map fun i => (a.peers[i]).offset.getD 0 := by
  have hread := filter_toList_map a.peers (Peer.contributes a.timeline) fun p => p.offset.getD 0
  rw [Agreement.timeline_of_founder h] at hread
  exact (congrArg (fun own => (a.peers.toList.filter (Peer.contributes own)).map fun p => p.offset.getD 0)
    (Agreement.timeline_of_founder h)).trans hread

/-- Clamping leaves what is within the limit, and leaves the sign of the rest. -/
theorem clampTo_of_within {limit : Nat} {c : Int} (h : |c| ≤ limit) : clampTo limit c = c := by
  rw [abs_le] at h
  rw [clampTo, if_neg (by omega), if_neg (by omega)]

theorem clampTo_of_beyond {limit : Nat} {c : Int} (h : (limit : Int) < |c|) :
    clampTo limit c = if 0 ≤ c then (limit : Int) else -(limit : Int) := by
  rw [lt_abs] at h
  unfold clampTo
  split_ifs <;> omega

/-- Settles O13. -/
theorem closeFiguresFollowTheContributors : Obligations.CloseFiguresFollowTheContributors := by
  intro a limit hstate
  have hoffsets := a.figures_offsets limit hstate
  have hclamped : (a.figures limit).clamped = true ↔ (limit : Int) < |(a.figures limit).raw| := decide_eq_true_iff
  refine ⟨fun p => p.contributes_iff a.founder, hoffsets, fun o => ?_, rfl, hclamped, fun h => ?_, fun h => ?_⟩
  · rw [hoffsets, List.mem_map]
    constructor
    · rintro ⟨i, hi, rfl⟩
      obtain ⟨-, hcontributes⟩ := List.mem_filter.1 hi
      obtain ⟨-, -, ⟨o, ho⟩, -⟩ := (Peer.contributes_iff _ _).1 hcontributes
      exact ⟨i, hcontributes, by rw [ho]; rfl⟩
    · rintro ⟨i, hcontributes, ho⟩
      exact ⟨i, List.mem_filter.2 ⟨List.mem_finRange i, hcontributes⟩, by rw [ho]; rfl⟩
  · exact clampTo_of_within (not_lt.1 fun hbeyond => ne_true_of_eq_false h (hclamped.2 hbeyond))
  · exact clampTo_of_beyond (hclamped.1 h)

end Sys2Proof.Machine

/-! The Agreement Unit's work of a round close (R18, R20, R26, R29 to R36): the peer table, the counts and the change of
state. -/

namespace Sys2Proof.Machine

set_option Elab.async false

open Safety

/-! ### One entry of the peer table (R30, R31) -/

/-- The close leaves an entry neither fresh nor heard (R26). -/
def Peer.unheard (p : Peer) : Peer := { p with fresh := false, heard := false }

section PeerClose

variable {own : Option StationId} {limit : Nat} {k : CloseFigures} {p : Peer}

theorem Peer.contributes_live (h : p.contributes own = true) : p.state = .live := ((Peer.contributes_iff own p).1 h).1

theorem Peer.strikesOut_iff : p.strikesOut own limit k.raw = true ↔
    p.contributes own = true ∧ 2 ≤ p.strikes ∧ 4 * (limit : Int) < |p.offset.getD 0 - k.raw| := by
  rw [Peer.strikesOut, Bool.and_eq_true, decide_eq_true_eq]
  refine and_congr_right fun hcontributes => ?_
  rw [Peer.strike, if_pos hcontributes]
  by_cases hfar : 4 * (limit : Int) < |p.offset.getD 0 - k.raw|
  · simp only [if_pos hfar, and_iff_left hfar]
    omega
  · simp [hfar]

theorem Peer.strike_of_not_contributes (h : ¬p.contributes own = true) : p.strike own limit k.raw = p := if_neg h

theorem Peer.close_absent (h : p.state = .absent) : p.close own limit k = p.unheard := by
  have hnot : ¬p.contributes own = true := fun hc => absurd (Peer.contributes_live hc) (by simp [h])
  have hout : p.strikesOut own limit k.raw = false := Bool.eq_false_iff.2 fun hc => hnot (Peer.strikesOut_iff.1 hc).1
  simp only [Peer.close, hout, Peer.strike_of_not_contributes hnot, Bool.false_eq_true, if_false, Peer.age, h, Peer.unheard]

/-- A third strike bars the entry. -/
theorem Peer.close_strikesOut (h : p.strikesOut own limit k.raw = true) :
    p.close own limit k = { p with state := .barred, barred := 16, strikes := p.strikes + 1, fresh := false, heard := false } := by
  obtain ⟨hcontributes, hstrikes, hfar⟩ := Peer.strikesOut_iff.1 h
  simp only [Peer.close, h, if_true, Peer.strike, hcontributes, hfar, Peer.bar, Peer.age]

theorem Peer.close_barred (h : p.state = .barred) : p.close own limit k =
    if p.barred ≤ 1 then Peer.none else { p with barred := p.barred - 1, fresh := false, heard := false } := by
  have hnot : ¬p.contributes own = true := fun hc => absurd (Peer.contributes_live hc) (by simp [h])
  have hout : p.strikesOut own limit k.raw = false := Bool.eq_false_iff.2 fun hc => hnot (Peer.strikesOut_iff.1 hc).1
  simp only [Peer.close, hout, Peer.strike_of_not_contributes hnot, Bool.false_eq_true, if_false, Peer.age, h]
  split_ifs <;> rfl

/-- The strikes of an entry after a close. -/
def Peer.strikesAfter (own : Option StationId) (limit : Nat) (k : CloseFigures) (p : Peer) : Nat := (p.strike own limit k.raw).strikes

/-- A LIVE entry without a third strike ages. -/
theorem Peer.close_live (h : p.state = .live) (hout : p.strikesOut own limit k.raw = false) : p.close own limit k =
    if p.heard then { p with strikes := p.strikesAfter own limit k, fresh := false, heard := false }
    else if 8 ≤ p.silent + 1 then Peer.none
    else { p with strikes := p.strikesAfter own limit k, silent := p.silent + 1, fresh := false, heard := false } := by
  have hstruck : p.strike own limit k.raw = { p with strikes := p.strikesAfter own limit k } := by
    unfold Peer.strikesAfter Peer.strike
    split <;> rfl
  simp only [Peer.close, hout, Bool.false_eq_true, if_false, hstruck, Peer.age, h]
  split_ifs <;> rfl

end PeerClose

namespace State

/-! ### A change of agreement state (R15, R16) -/

/-- Outside UNSET a record comes to the same in every state. -/
theorem takeRecord_set_congr {s t : State} (hs : s.agreement.state ≠ .unset) (ht : t.agreement.state ≠ .unset)
    (hconfig : t.config = s.config) (hnow : t.storeNow = s.storeNow) (hstore : t.store = s.store) (r : EventRecord) :
    (t.takeRecord r).store = (s.takeRecord r).store := by
  have hlen : t.len = s.len := by rw [len, hconfig]; rfl
  rw [takeRecord_of_set hs, takeRecord_of_set ht, hlen, hconfig, hnow, hstore]
  rfl

/-- The Agreement Unit after a change of state (R15). -/
def entered (a : Agreement) (new : AgreementState) : Agreement :=
  { a with
    state := new, clampCount := 0, progress := 0, lonelyCount := 0
    driftCount := if new = .adrift then 0 else a.driftCount }

/-- What a change of state comes to, part by part. -/
theorem enterAgreement_parts (s : State) (new : AgreementState) :
    (s.enterAgreement new).agreement = entered s.agreement new ∧
    (s.enterAgreement new).tap = { s.tap with latch := true, setSinceTake := true } ∧
    (s.enterAgreement new).outputs = (if new = .adrift then s.safeOutputs.outputs else s.outputs) ∧
    (s.enterAgreement new).store = ((s.setAgreement (entered s.agreement new)).takeRecord
      (noteNow (s.setAgreement (entered s.agreement new)) .agreement (BitVec.ofNat 8 new.code) s.config.id 0)).store ∧
    (s.enterAgreement new).access = (if s.access.tx = .off ∧ (new = .alone ∨ new = .gathering) then
      { s.access with tx := .idle } else s.access) := by
  obtain ⟨v, hv⟩ : ∃ v, v = (s.setAgreement (entered s.agreement new)).takeRecord
    (noteNow (s.setAgreement (entered s.agreement new)) .agreement (BitVec.ofNat 8 new.code) s.config.id 0) := ⟨_, rfl⟩
  have hkept : v = (s.setAgreement (entered s.agreement new)).setStore v.store := by
    rw [hv]
    exact takeRecord_eq _ _
  have henter : s.enterAgreement new = (if s.access.tx = .off ∧ (new = .alone ∨ new = .gathering) then
      (if new = .adrift then v.setLatch.safeOutputs else v.setLatch).setAccess
        { (if new = .adrift then v.setLatch.safeOutputs else v.setLatch).access with tx := .idle }
      else if new = .adrift then v.setLatch.safeOutputs else v.setLatch) := by
    rw [hv]
    rfl
  rw [henter, ← hv, hkept]
  split_ifs <;> exact ⟨rfl, rfl, rfl, rfl, rfl⟩

theorem safeOutputs_congr {s t : State} (hconfig : t.config = s.config) :
    t.safeOutputs.outputs = s.safeOutputs.outputs := by
  simp only [safeOutputs, mapOutputs, hconfig]
  rfl

/-! ### The transition of a close (R18, R32 to R36) -/

/-- A clamp count of 3 in an acting state is tested before any other transition (R36). -/
def clampReached (s : State) : Prop := s.acting = true ∧ 3 ≤ s.agreement.clampCount

section CloseTransition

variable {v : State} {k : CloseFigures}

theorem closeTransition_of_clamp (h : v.clampReached) : v.closeTransition k = v.enterAgreement .adrift := if_pos h

theorem closeTransition_of_not_clamp (h : ¬v.clampReached) : v.closeTransition k =
    match v.agreement.state with
    | .unset => v
    | .listening => v.closeListening
    | .alone => v.closeAlone k
    | .gathering => v.closeGathering k
    | .locked => v.closeLocked k
    | .adrift => v.closeAdrift := if_neg h

theorem not_clampReached_of_state (h : v.agreement.state = .unset ∨ v.agreement.state = .listening ∨ v.agreement.state = .adrift) :
    ¬v.clampReached := fun ⟨hacting, _⟩ => by
  rw [acting_iff, Acting] at hacting
  rcases h with h | h | h <;> simp [h] at hacting

theorem closeTransition_unset (h : v.agreement.state = .unset) : v.closeTransition k = v := by
  rw [closeTransition_of_not_clamp (not_clampReached_of_state (.inl h)), h]

theorem closeTransition_listening (h : v.agreement.state = .listening) : v.closeTransition k =
    if v.agreement.listenCount ≤ 1 then
      (v.setAgreement { v.agreement with
        listenCount := v.agreement.listenCount - 1, founder := some v.config.id }).enterAgreement .alone
    else v.setAgreement { v.agreement with listenCount := v.agreement.listenCount - 1 } := by
  rw [closeTransition_of_not_clamp (not_clampReached_of_state (.inr (.inl h))), h]
  rfl

theorem closeTransition_adrift (h : v.agreement.state = .adrift) : v.closeTransition k =
    if 16 ≤ v.agreement.driftCount + 1 then
      (v.setAgreement { v.agreement with driftCount := 0, founder := some v.config.id }).enterAgreement .alone
    else v.setAgreement { v.agreement with driftCount := v.agreement.driftCount + 1 } := by
  rw [closeTransition_of_not_clamp (not_clampReached_of_state (.inr (.inr h))), h]
  rfl

variable (hfree : ¬v.clampReached)

include hfree

theorem closeTransition_alone (h : v.agreement.state = .alone) : v.closeTransition k =
    if k.offsets ≠ [] ∧ k.clamped = false then v.enterAgreement .locked else v := by
  rw [closeTransition_of_not_clamp hfree, h]
  rfl

theorem closeTransition_gathering (h : v.agreement.state = .gathering) : v.closeTransition k =
    if k.offsets = [] then
      if 4 ≤ v.agreement.lonelyCount + 1 then v.enterAgreement .alone
      else v.setAgreement { v.agreement with lonelyCount := v.agreement.lonelyCount + 1 }
    else if k.clamped then v.setAgreement { v.agreement with progress := 0, lonelyCount := 0 }
    else if 2 ≤ v.agreement.progress + 1 then v.enterAgreement .locked
    else v.setAgreement { v.agreement with progress := v.agreement.progress + 1, lonelyCount := 0 } := by
  rw [closeTransition_of_not_clamp hfree, h]
  rfl

theorem closeTransition_locked (h : v.agreement.state = .locked) : v.closeTransition k =
    if k.offsets = [] then
      if 8 ≤ v.agreement.lonelyCount + 1 then v.enterAgreement .alone
      else v.setAgreement { v.agreement with lonelyCount := v.agreement.lonelyCount + 1 }
    else v.setAgreement { v.agreement with lonelyCount := 0 } := by
  rw [closeTransition_of_not_clamp hfree, h]
  rfl

end CloseTransition

/-- `b` is `a` but for its founder and its counts. -/
structure KeptByTransition (a b : Agreement) : Prop where
  state : b.state = a.state
  peers : b.peers = a.peers
  adjustCount : b.adjustCount = a.adjustCount
  lastAdjust : b.lastAdjust = a.lastAdjust
  timeFrame : b.timeFrame = a.timeFrame

theorem KeptByTransition.founded (a : Agreement) (founder : Option StationId) (listen clamp progress lonely drift : Nat) :
    KeptByTransition a { a with
      founder := founder, listenCount := listen, clampCount := clamp, progress := progress, lonelyCount := lonely
      driftCount := drift } := ⟨rfl, rfl, rfl, rfl, rfl⟩

/-- A close moves counts, or founds or counts and then changes the state (R15, R18, R32 to R36). -/
theorem closeTransition_cases (v : State) (k : CloseFigures) :
    (∃ a, KeptByTransition v.agreement a ∧ v.closeTransition k = v.setAgreement a) ∨
      ∃ a new, KeptByTransition v.agreement a ∧ (new = .alone ∨ new = .locked ∨ new = .adrift) ∧ new ≠ v.agreement.state ∧
        v.closeTransition k = (v.setAgreement a).enterAgreement new := by
  by_cases hclamp : v.clampReached
  · refine .inr ⟨v.agreement, .adrift, ⟨rfl, rfl, rfl, rfl, rfl⟩, .inr (.inr rfl), fun h => ?_, closeTransition_of_clamp hclamp⟩
    exact not_clampReached_of_state (.inr (.inr h.symm)) hclamp
  cases hstate : v.agreement.state with
  | unset => exact .inl ⟨v.agreement, ⟨rfl, rfl, rfl, rfl, rfl⟩, closeTransition_unset hstate⟩
  | listening =>
    rw [closeTransition_listening hstate]
    split
    · exact .inr ⟨_, .alone, .founded .., .inl rfl, by decide, rfl⟩
    · exact .inl ⟨_, .founded .., rfl⟩
  | alone =>
    rw [closeTransition_alone hclamp hstate]
    split
    · exact .inr ⟨v.agreement, .locked, ⟨rfl, rfl, rfl, rfl, rfl⟩, .inr (.inl rfl), by decide, rfl⟩
    · exact .inl ⟨v.agreement, ⟨rfl, rfl, rfl, rfl, rfl⟩, rfl⟩
  | gathering =>
    rw [closeTransition_gathering hclamp hstate]
    split_ifs
    · exact .inr ⟨v.agreement, .alone, ⟨rfl, rfl, rfl, rfl, rfl⟩, .inl rfl, by decide, rfl⟩
    · exact .inl ⟨_, .founded .., rfl⟩
    · exact .inl ⟨_, .founded .., rfl⟩
    · exact .inr ⟨v.agreement, .locked, ⟨rfl, rfl, rfl, rfl, rfl⟩, .inr (.inl rfl), by decide, rfl⟩
    · exact .inl ⟨_, .founded .., rfl⟩
  | locked =>
    rw [closeTransition_locked hclamp hstate]
    split_ifs
    · exact .inr ⟨v.agreement, .alone, ⟨rfl, rfl, rfl, rfl, rfl⟩, .inl rfl, by decide, rfl⟩
    · exact .inl ⟨_, .founded .., rfl⟩
    · exact .inl ⟨_, .founded .., rfl⟩
  | adrift =>
    rw [closeTransition_adrift hstate]
    split
    · exact .inr ⟨_, .alone, .founded .., .inl rfl, by decide, rfl⟩
    · exact .inl ⟨_, .founded .., rfl⟩

/-! ### The work of a close, up to the transition (R20, R26, R29, R30) -/

theorem noteCorrection_eq (a : Agreement) (c : Int) : noteCorrection a c = { a with
    adjustCount := if c = 0 then a.adjustCount else a.adjustCount + 1
    lastAdjust := if c = 0 then a.lastAdjust else .correction c } := by
  unfold noteCorrection
  split <;> rfl

/-- The station once its entries and counts have taken the close, and the PEER-BARRED notes are made. -/
def closeCounted (s : State) (k : CloseFigures) : State := (s.closePeers k).noteBarred s.agreement k

theorem closeWork_eq (s : State) (k : CloseFigures) : s.closeWork k = ((s.closeCounted k).closeTransition k).markTimeFrame := rfl

/-- The PEER-BARRED notes of a close, in rising order of id (R30). -/
def barredNotes (s : State) (k : CloseFigures) : List EventRecord :=
  ((List.finRange 24).filter fun i => (s.agreement.peers[i]).strikesOut s.agreement.timeline s.config.stepLimit k.raw).map
    fun i : Fin 24 => noteNow s .peerBarred 3 (BitVec.ofNat 8 (i.val + 1)) 0

theorem noteNow_congr {s t : State} (hstate : t.agreement.state = s.agreement.state) (hnow : t.clock.now = s.clock.now)
    (code : NoteCode) (detail : Byte) (origin : StationId) (tag : Byte) : noteNow t code detail origin tag = noteNow s code detail origin tag := by
  rw [noteNow, hstate, hnow]
  rfl

theorem noteBarred_eq (s : State) (before : Agreement) (k : CloseFigures) : s.noteBarred before k =
    (((List.finRange 24).filter fun i => (before.peers[i]).strikesOut before.timeline s.config.stepLimit k.raw).map
      fun i : Fin 24 => noteNow s .peerBarred 3 (BitVec.ofNat 8 (i.val + 1)) 0).foldl takeRecord s := by
  have general : ∀ (is : List (Fin 24)) (u : State), u.agreement.state = s.agreement.state → u.clock.now = s.clock.now →
      u.config = s.config →
      is.foldl (fun u i => if (before.peers[i]).strikesOut before.timeline u.config.stepLimit k.raw then
        u.note .peerBarred (BitVec.ofNat 8 (i.val + 1)) 3 0 else u) u =
      ((is.filter fun i => (before.peers[i]).strikesOut before.timeline s.config.stepLimit k.raw).map
        fun i : Fin 24 => noteNow s .peerBarred 3 (BitVec.ofNat 8 (i.val + 1)) 0).foldl takeRecord u := by
    intro is
    induction is with
    | nil => exact fun u _ _ _ => rfl
    | cons i is ih =>
      intro u hstate hnow hconfig
      rw [List.foldl_cons]
      cases hout : (before.peers[i]).strikesOut before.timeline s.config.stepLimit k.raw with
      | false =>
        rw [if_neg (by rw [hconfig, hout]; decide), List.filter_cons_of_neg
          (p := fun i : Fin 24 => (before.peers[i]).strikesOut before.timeline s.config.stepLimit k.raw) (ne_true_of_eq_false hout)]
        exact ih u hstate hnow hconfig
      | true =>
        have hnoted := takeRecord_frame u (noteNow s .peerBarred 3 (BitVec.ofNat 8 (i.val + 1)) 0)
        have hrest := ih (u.takeRecord (noteNow s .peerBarred 3 (BitVec.ofNat 8 (i.val + 1)) 0))
          (hnoted.agreement_state.trans hstate) ((congrArg LineClock.now (hnoted.same .clock)).trans hnow)
          (Eq.trans (hnoted.same .config) hconfig)
        rw [if_pos (by rw [hconfig, hout]), note_eq_noteNow, noteNow_congr hstate hnow, List.filter_cons_of_pos
          (p := fun i : Fin 24 => (before.peers[i]).strikesOut before.timeline s.config.stepLimit k.raw) hout,
          List.map_cons, List.foldl_cons]
        exact hrest
  exact general _ s rfl rfl rfl

/-- What of the station the work on the entries touches. -/
theorem closeCounted_parts (s : State) (k : CloseFigures) :
    (s.closeCounted k).agreement = { noteCorrection s.agreement k.correction with
      clampCount := s.clampCountAfter k
      peers := Vector.ofFn fun i => (s.agreement.peers[i]).close s.agreement.timeline s.config.stepLimit k } ∧
    (s.closeCounted k).store = ((s.barredNotes k).foldl takeRecord s).store ∧
    Frame [.agreement, .timeFrame, .store] s (s.closeCounted k) := by
  obtain ⟨v, hv⟩ : ∃ v, v = s.closePeers k := ⟨_, rfl⟩
  have hagreement : v.agreement.state = s.agreement.state := by
    rw [hv]
    exact noteCorrection_state s.agreement k.correction
  have heq : s.closeCounted k = (s.barredNotes k).foldl takeRecord v := by
    have hnotes := noteBarred_eq v s.agreement k
    rw [closeCounted, ← hv, hnotes]
    have hsame : (fun i : Fin 24 => noteNow v .peerBarred 3 (BitVec.ofNat 8 (i.val + 1)) 0) =
        fun i : Fin 24 => noteNow s .peerBarred 3 (BitVec.ofNat 8 (i.val + 1)) 0 :=
      funext fun i => noteNow_congr hagreement (by rw [hv]; rfl) ..
    rw [hsame, hv]
    rfl
  have hframe : Frame [.store] v (s.closeCounted k) := heq ▸ Frame.foldl takeRecord_frame _ v
  refine ⟨?_, ?_, ?_⟩
  · rw [hframe.agreement, hv]
    rfl
  · rw [heq]
    exact foldl_takeRecord_store_congr _ hagreement (by rw [hv]; rfl) (by rw [hv]; rfl) (by rw [hv]; rfl)
  · refine Frame.trans (t := v) ?_ hframe.mono
    rw [hv]
    exact (setAgreement_frame s _).mono

/-- The mark of the own TIME frame is all that is left (R38). -/
theorem markTimeFrame_eq (s : State) : s.markTimeFrame = s.setAgreement { s.agreement with
    timeFrame := if s.acting || s.agreement.state == .adrift then s.agreement.timeFrame.mark else s.agreement.timeFrame } := by
  unfold markTimeFrame
  split <;> rfl

/-! ### The work of a close (R26) -/

section CloseWork

variable (s : State) (k : CloseFigures)

/-- The station after the transition of its close, with the own TIME frame not marked yet. -/
def closeMoved : State := (s.closeCounted k).closeTransition k

theorem closeWork_agreement : (s.closeWork k).agreement = { (s.closeMoved k).agreement with
    timeFrame := if (s.closeMoved k).acting || (s.closeMoved k).agreement.state == .adrift then
        (s.closeMoved k).agreement.timeFrame.mark else (s.closeMoved k).agreement.timeFrame } := by
  rw [closeWork_eq, markTimeFrame_eq]
  rfl

theorem closeWork_frame_moved : Frame [.agreement, .timeFrame] (s.closeMoved k) (s.closeWork k) := by
  rw [closeWork_eq, markTimeFrame_eq]
  exact setAgreement_frame _ _

/-- Of the Agreement Unit the transition touches the state, the founder and the counts. -/
theorem closeMoved_kept : (s.closeMoved k).agreement.peers = (s.closeCounted k).agreement.peers ∧
    (s.closeMoved k).agreement.adjustCount = (s.closeCounted k).agreement.adjustCount ∧
    (s.closeMoved k).agreement.lastAdjust = (s.closeCounted k).agreement.lastAdjust ∧
    (s.closeMoved k).agreement.timeFrame = (s.closeCounted k).agreement.timeFrame := by
  unfold closeMoved
  rcases closeTransition_cases (s.closeCounted k) k with ⟨a, ⟨-, h1, h2, h3, h4⟩, h⟩ | ⟨a, new, ⟨-, h1, h2, h3, h4⟩, -, -, h⟩
  · rw [h]
    exact ⟨h1, h2, h3, h4⟩
  · obtain ⟨hagreement, -⟩ := enterAgreement_parts ((s.closeCounted k).setAgreement a) new
    rw [h, hagreement]
    exact ⟨h1, h2, h3, h4⟩

theorem closeWork_peers (i : Fin 24) :
    (s.closeWork k).agreement.peers[i] = (s.agreement.peers[i]).close s.agreement.timeline s.config.stepLimit k := by
  obtain ⟨hpeers, -⟩ := closeMoved_kept s k
  obtain ⟨hcounted, -⟩ := closeCounted_parts s k
  rw [closeWork_agreement]
  simp only [hpeers, hcounted]
  simp

theorem closeWork_adjust : (s.closeWork k).agreement.adjustCount = (noteCorrection s.agreement k.correction).adjustCount ∧
    (s.closeWork k).agreement.lastAdjust = (noteCorrection s.agreement k.correction).lastAdjust := by
  obtain ⟨-, hcount, hlast, -⟩ := closeMoved_kept s k
  obtain ⟨hcounted, -⟩ := closeCounted_parts s k
  rw [closeWork_agreement]
  simp only [hcount, hlast, hcounted]
  exact ⟨trivial, trivial⟩

theorem closeWork_timeFrame : (s.closeWork k).agreement.timeFrame =
    if (s.closeWork k).acting || (s.closeWork k).agreement.state == .adrift then s.agreement.timeFrame.mark
    else s.agreement.timeFrame := by
  obtain ⟨-, -, -, htime⟩ := closeMoved_kept s k
  obtain ⟨hcounted, -⟩ := closeCounted_parts s k
  have hsame : (s.closeMoved k).agreement.timeFrame = s.agreement.timeFrame := by
    rw [htime, hcounted, noteCorrection_eq]
  have hacting : (s.closeWork k).acting = (s.closeMoved k).acting := by rw [acting, closeWork_agreement]; rfl
  have hstate : (s.closeWork k).agreement.state = (s.closeMoved k).agreement.state := by rw [closeWork_agreement]
  rw [hacting, hstate, closeWork_agreement, ← hsame]

/-- A change of state at a close sets the latch, and its note follows the PEER-BARRED notes; without one nothing is told (R16). -/
theorem closeWork_notes (hset : s.agreement.state ≠ .unset) :
    ((s.closeWork k).agreement.state = s.agreement.state ∧ (s.closeWork k).store = ((s.barredNotes k).foldl takeRecord s).store ∧
      (s.closeWork k).tap = s.tap ∧ (s.closeWork k).outputs = s.outputs ∧ (s.closeWork k).access = s.access) ∨
    ((s.closeWork k).agreement.state ≠ s.agreement.state ∧
      (s.closeWork k).store = (((s.barredNotes k).foldl takeRecord s).takeRecord
        (noteNow (s.closeWork k) .agreement (BitVec.ofNat 8 (s.closeWork k).agreement.state.code) s.config.id 0)).store ∧
      (s.closeWork k).tap = { s.tap with latch := true, setSinceTake := true } ∧
      (s.closeWork k).outputs = (if (s.closeWork k).agreement.state = .adrift then s.safeOutputs.outputs else s.outputs) ∧
      (s.closeWork k).access = (if s.access.tx = .off ∧ (s.closeWork k).agreement.state = .alone then
        { s.access with tx := .idle } else s.access)) := by
  obtain ⟨hcounted, hstore, hframe⟩ := closeCounted_parts s k
  have hmark := closeWork_frame_moved s k
  have hstate : (s.closeWork k).agreement.state = (s.closeMoved k).agreement.state := by rw [closeWork_agreement]
  have hsame : (s.closeCounted k).agreement.state = s.agreement.state := by rw [hcounted, noteCorrection_eq]
  obtain ⟨v, hv⟩ : ∃ v, v = s.closeCounted k := ⟨_, rfl⟩
  obtain ⟨w, hw⟩ : ∃ w, w = s.closeWork k := ⟨_, rfl⟩
  have hclock : w.clock = s.clock := hw ▸ Eq.trans (hmark.same .clock) (by
    have hmoved : Frame [.agreement, .timeFrame, .store, .latch, .outputs, .tx] s (s.closeWork k) := closeWork_frame s k
    exact Eq.trans (Eq.symm (hmark.same .clock)) (hmoved.same .clock))
  have hvw : w.store = (s.closeMoved k).store ∧ w.tap = (s.closeMoved k).tap ∧ w.outputs = (s.closeMoved k).outputs ∧
    w.access = (s.closeMoved k).access := hw ▸ ⟨hmark.same .store, hmark.tap, hmark.same .outputs, hmark.access⟩
  rw [← hw] at hstate ⊢
  rw [← hv] at hcounted hstore hframe hsame
  obtain ⟨hwstore, hwtap, hwoutputs, hwaccess⟩ := hvw
  rw [hwstore, hwtap, hwoutputs, hwaccess]
  unfold closeMoved at hstate ⊢
  rw [← hv] at hstate ⊢
  rcases closeTransition_cases v k with ⟨a, ha, h⟩ | ⟨a, new, ha, hnew, hne, h⟩
  · refine .inl ?_
    rw [h] at hstate ⊢
    exact ⟨hstate.trans (ha.state.trans hsame), hstore, hframe.tap, hframe.same .outputs, hframe.access⟩
  · obtain ⟨hagreement, htap, houtputs, hnote, haccess⟩ := enterAgreement_parts (v.setAgreement a) new
    rw [h] at hstate ⊢
    have hnewState : w.agreement.state = new := hstate.trans (by rw [hagreement]; rfl)
    have hunset : new ≠ .unset := by rcases hnew with rfl | rfl | rfl <;> decide
    refine .inr ⟨by rw [hnewState, ← hsame]; exact hne, ?_, ?_, ?_, ?_⟩
    · rw [hnote, hnewState]
      have hv' : v.config = s.config := hframe.same .config
      have hvc : v.clock = s.clock := hframe.same .clock
      have hrecord : noteNow ((v.setAgreement a).setAgreement (entered a new)) .agreement (BitVec.ofNat 8 new.code) v.config.id 0 =
          noteNow w .agreement (BitVec.ofNat 8 new.code) s.config.id 0 := by
        rw [hv']
        refine noteNow_congr ?_ ?_ ..
        · exact hnewState.symm
        · rw [hclock, ← hvc]
          rfl
      have hbarred : Frame [.store] s ((s.barredNotes k).foldl takeRecord s) := Frame.foldl takeRecord_frame _ s
      have htaken := takeRecord_set_congr (s := (s.barredNotes k).foldl takeRecord s)
        (t := (v.setAgreement a).setAgreement (entered a new)) ?_ ?_ ?_ ?_ ?_
        (noteNow w .agreement (BitVec.ofNat 8 new.code) s.config.id 0)
      · exact (congrArg (fun r => (((v.setAgreement a).setAgreement (entered a new)).takeRecord r).store) hrecord).trans htaken
      · rw [hbarred.agreement]
        exact hset
      · exact hunset
      · exact hv'.trans (hbarred.same .config).symm
      · refine (storeNow_of_clock ?_).trans (storeNow_of_clock (hbarred.same .clock)).symm
        exact hvc
      · exact hstore
    · rw [htap]
      exact congrArg (fun x : Tap => { x with latch := true, setSinceTake := true }) hframe.tap
    · rw [houtputs, hnewState]
      split
      · exact safeOutputs_congr (s := s) (hframe.same .config)
      · exact hframe.same .outputs
    · have hv' : (v.setAgreement a).access = s.access := hframe.access
      have hgathering : new ≠ .gathering := by rcases hnew with rfl | rfl | rfl <;> decide
      simp only [haccess, hv', hnewState, hgathering, or_false]

/-! ### The counts of a close (R18, R29, R33 to R36) -/

/-- The state, the founder and the counts are all that `AgreementIs` fixes. -/
theorem agreementIs_iff {t : State} {a : Agreement} : AgreementIs t a ↔ t.agreement.state = a.state ∧ t.agreement.founder = a.founder ∧
    t.agreement.listenCount = a.listenCount ∧ t.agreement.clampCount = a.clampCount ∧ t.agreement.progress = a.progress ∧
    t.agreement.lonelyCount = a.lonelyCount ∧ t.agreement.driftCount = a.driftCount := by
  unfold AgreementIs
  generalize t.agreement = b
  cases b
  cases a
  simp only [Agreement.mk.injEq]
  tauto

theorem closeCounted_is : AgreementIs (s.closeCounted k) { s.agreement with clampCount := s.clampCountAfter k } := by
  obtain ⟨hcounted, -⟩ := closeCounted_parts s k
  rw [agreementIs_iff, hcounted, noteCorrection_eq]
  exact ⟨rfl, rfl, rfl, rfl, rfl, rfl, rfl⟩

theorem closeWork_is {a : Agreement} (h : AgreementIs (s.closeMoved k) a) : AgreementIs (s.closeWork k) a := by
  rw [agreementIs_iff] at h ⊢
  rw [closeWork_agreement]
  exact h

/-- The clamp count of an acting state after a close (R29). -/
def clampsAfter (s : State) (k : CloseFigures) : Nat := if k.clamped then s.agreement.clampCount + 1 else 0

theorem clampCountAfter_of_acting {s : State} (h : Acting s) (k : CloseFigures) : s.clampCountAfter k = s.clampsAfter k :=
  if_pos ((acting_iff s).2 h)

theorem clampCountAfter_of_not_acting {s : State} (h : ¬Acting s) (k : CloseFigures) : s.clampCountAfter k = s.agreement.clampCount :=
  if_neg fun h' => h ((acting_iff s).1 h')

theorem acting_of_agreement {s t : State} (h : t.agreement.state = s.agreement.state) : Acting t ↔ Acting s := by
  rw [Acting, h]
  rfl

end CloseWork

/-- The state, the founder and the counts after the transition of a close of a station of this id, whose clamp count `a` has taken
already (2.5). -/
def transit (id : StationId) (k : CloseFigures) (a : Agreement) : Agreement :=
  if (a.state = .alone ∨ a.state = .gathering ∨ a.state = .locked) ∧ 3 ≤ a.clampCount then entered a .adrift
  else
    match a.state with
    | .unset => a
    | .listening =>
      if a.listenCount ≤ 1 then entered { a with listenCount := a.listenCount - 1, founder := some id } .alone
      else { a with listenCount := a.listenCount - 1 }
    | .alone => if k.offsets ≠ [] ∧ k.clamped = false then entered a .locked else a
    | .gathering =>
      if k.offsets = [] then
        if 4 ≤ a.lonelyCount + 1 then entered a .alone else { a with lonelyCount := a.lonelyCount + 1 }
      else if k.clamped then { a with progress := 0, lonelyCount := 0 }
      else if 2 ≤ a.progress + 1 then entered a .locked
      else { a with progress := a.progress + 1, lonelyCount := 0 }
    | .locked =>
      if k.offsets = [] then
        if 8 ≤ a.lonelyCount + 1 then entered a .alone else { a with lonelyCount := a.lonelyCount + 1 }
      else { a with lonelyCount := 0 }
    | .adrift =>
      if 16 ≤ a.driftCount + 1 then entered { a with driftCount := 0, founder := some id } .alone
      else { a with driftCount := a.driftCount + 1 }

theorem agreementIs_self (v : State) : AgreementIs v v.agreement := rfl

/-- `transit` says what the transition of a close makes of the Agreement Unit. -/
theorem closeTransition_is (v : State) (k : CloseFigures) :
    AgreementIs (v.closeTransition k) (transit v.config.id k v.agreement) := by
  have entering : ∀ (u : State) new, AgreementIs (u.enterAgreement new) (entered u.agreement new) := fun u new => by
    obtain ⟨hagreement, -⟩ := enterAgreement_parts u new
    rw [← hagreement]
    exact agreementIs_self _
  by_cases hclamp : v.clampReached
  · have hcounts : (v.agreement.state = .alone ∨ v.agreement.state = .gathering ∨ v.agreement.state = .locked) ∧
        3 ≤ v.agreement.clampCount := ⟨(acting_iff v).1 hclamp.1, hclamp.2⟩
    rw [closeTransition_of_clamp hclamp, transit, if_pos hcounts]
    exact entering v .adrift
  have hcounts : ¬((v.agreement.state = .alone ∨ v.agreement.state = .gathering ∨ v.agreement.state = .locked) ∧
      3 ≤ v.agreement.clampCount) := fun h => hclamp ⟨(acting_iff v).2 h.1, h.2⟩
  rw [transit, if_neg hcounts]
  cases hstate : v.agreement.state with
  | unset =>
    rw [closeTransition_unset hstate]
    exact agreementIs_self v
  | listening =>
    rw [closeTransition_listening hstate]
    simp only
    split_ifs
    · exact entering ..
    · exact agreementIs_iff.2 ⟨hstate, rfl, rfl, rfl, rfl, rfl, rfl⟩
  | alone =>
    rw [closeTransition_alone hclamp hstate]
    simp only
    split_ifs
    · exact entering ..
    · exact agreementIs_self _
  | gathering =>
    rw [closeTransition_gathering hclamp hstate]
    simp only
    split_ifs
    · exact entering ..
    · exact agreementIs_iff.2 ⟨hstate, rfl, rfl, rfl, rfl, rfl, rfl⟩
    · exact agreementIs_iff.2 ⟨hstate, rfl, rfl, rfl, rfl, rfl, rfl⟩
    · exact entering ..
    · exact agreementIs_iff.2 ⟨hstate, rfl, rfl, rfl, rfl, rfl, rfl⟩
  | locked =>
    rw [closeTransition_locked hclamp hstate]
    simp only
    split_ifs
    · exact entering ..
    · exact agreementIs_iff.2 ⟨hstate, rfl, rfl, rfl, rfl, rfl, rfl⟩
    · exact agreementIs_iff.2 ⟨hstate, rfl, rfl, rfl, rfl, rfl, rfl⟩
  | adrift =>
    rw [closeTransition_adrift hstate]
    simp only
    split_ifs
    · exact entering ..
    · exact agreementIs_iff.2 ⟨hstate, rfl, rfl, rfl, rfl, rfl, rfl⟩

/-- The adjustment, the peer table and the own TIME frame play no part in the transition. -/
theorem transit_congr (id : StationId) (k : CloseFigures) {t : State} (a : Agreement) (adjust : Byte) (last : Adjustment)
    (peers : Vector Peer 24) (time : TimeFrame)
    (h : AgreementIs t (transit id k { a with adjustCount := adjust, lastAdjust := last, peers := peers, timeFrame := time })) :
    AgreementIs t (transit id k a) := by
  rw [agreementIs_iff] at h ⊢
  obtain ⟨state, founder, listen, clamp, progress, lonely, drift, adjust', last', timeFrame, peers'⟩ := a
  unfold transit at h ⊢
  cases state <;> simp only at h ⊢ <;> split_ifs at h ⊢ <;> exact h

/-- What the work of a close makes of the state, the founder and the counts. -/
theorem closeWork_transit (s : State) (k : CloseFigures) :
    AgreementIs (s.closeWork k) (transit s.config.id k { s.agreement with clampCount := s.clampCountAfter k }) := by
  obtain ⟨hcounted, -, hframe⟩ := closeCounted_parts s k
  have hid : (s.closeCounted k).config.id = s.config.id := congrArg StationConfig.id (hframe.same .config)
  have hmoved := closeTransition_is (s.closeCounted k) k
  rw [hid, hcounted, noteCorrection_eq] at hmoved
  exact closeWork_is s k (transit_congr _ _ { s.agreement with clampCount := s.clampCountAfter k }
    (if k.correction = 0 then s.agreement.adjustCount else s.agreement.adjustCount + 1)
    (if k.correction = 0 then s.agreement.lastAdjust else .correction k.correction) _ _ hmoved)

/-! ### Stations that differ in the own TIME frame alone -/

/-- `t` is as `s` at the Agreement Unit, but for the own TIME frame, and in its configuration. -/
structure SameAgreement (s t : State) : Prop where
  agreement : t.agreement = { s.agreement with timeFrame := t.agreement.timeFrame }
  config : t.config = s.config

theorem SameAgreement.of_frame {ps : List Part} {s t : State} (h : Frame ps s t)
    (hps : ∀ p ∈ [Part.agreement, .config], p ∉ ps := by decide) : SameAgreement s t :=
  ⟨h.agreementButTime (hps _ (by decide)), h.same .config (hps _ (by decide))⟩

theorem SameAgreement.trans {s t u : State} (h : SameAgreement s t) (h' : SameAgreement t u) : SameAgreement s u :=
  ⟨by rw [h'.agreement, h.agreement], h'.config.trans h.config⟩

section SameAgreement

variable {s t : State} (h : SameAgreement s t)

include h

theorem SameAgreement.state : t.agreement.state = s.agreement.state := by rw [h.agreement]

theorem SameAgreement.closeFigures : t.closeFigures = s.closeFigures := by
  rw [State.closeFigures, h.agreement, h.config]
  rfl

theorem SameAgreement.is {a : Agreement} : AgreementIs t a ↔ AgreementIs s a := by
  rw [agreementIs_iff, agreementIs_iff, h.agreement]

theorem SameAgreement.peers : t.agreement.peers = s.agreement.peers := by rw [h.agreement]

theorem SameAgreement.timeline : t.agreement.timeline = s.agreement.timeline := by
  rw [h.agreement]
  rfl

theorem SameAgreement.clampCountAfter (k : CloseFigures) : t.clampCountAfter k = s.clampCountAfter k := by
  rw [State.clampCountAfter, State.acting, h.agreement]
  rfl

end SameAgreement

/-! ### The work of a close on a station that differs in the own TIME frame alone (R26) -/

section ClosedFrom

variable {s u t : State} (hu : SameAgreement s u) (ht : SameAgreement (u.closeWork s.closeFigures) t)

include hu ht

theorem closedFrom_peers (i : Fin 24) :
    t.agreement.peers[i] = (s.agreement.peers[i]).close s.agreement.timeline s.config.stepLimit s.closeFigures := by
  have h := closeWork_peers u s.closeFigures i
  rw [ht.peers, h, hu.peers, hu.timeline, hu.config]

theorem closedFrom_transit : AgreementIs t
    (transit s.config.id s.closeFigures { s.agreement with clampCount := s.clampCountAfter s.closeFigures }) := by
  have h := closeWork_transit u s.closeFigures
  rw [hu.config, hu.clampCountAfter, hu.agreement] at h
  exact (ht.is).2 (transit_congr _ _ { s.agreement with clampCount := s.clampCountAfter s.closeFigures } _ _ _ _ h)

omit hu ht in
theorem thirdStrike_eq (s : State) (i : Fin 24) :
    thirdStrike s i = (s.agreement.peers[i]).strikesOut s.agreement.timeline s.config.stepLimit s.closeFigures.raw := by
  rw [Bool.eq_iff_iff, Peer.strikesOut_iff, thirdStrike]
  simp only [Bool.and_eq_true, decide_eq_true_eq, and_assoc]
  rfl

omit hu ht in
theorem strikesAfter_eq (s : State) (i : Fin 24) :
    strikesAfter s i = (s.agreement.peers[i]).strikesAfter s.agreement.timeline s.config.stepLimit s.closeFigures := by
  rw [Peer.strikesAfter, Peer.strike]
  simp only [apply_ite Peer.strikes]
  rfl

theorem closedFrom_closePeers : ClosePeers s t := by
  intro i p hp
  rw [closedFrom_peers hu ht i, thirdStrike_eq, strikesAfter_eq, ← hp]
  refine ⟨Peer.close_absent, fun _ => Peer.close_strikesOut, fun hlive hout => ?_, fun hbarred => ?_⟩
  · rw [Peer.close_live hlive hout]
    refine ⟨fun hheard => if_pos hheard, fun hheard hsilent => ?_, fun hheard hsilent => ?_⟩
    · rw [if_neg (ne_true_of_eq_false hheard), if_neg (by omega)]
    · rw [if_neg (ne_true_of_eq_false hheard), if_pos (by omega)]
      rfl
  · rw [Peer.close_barred hbarred]
    exact ⟨fun hmany => if_neg (by omega), fun hlast => if_pos hlast⟩

theorem closedFrom_counts : CloseCounts s t := by
  intro k clamps hk hclamps
  obtain rfl : k = s.closeFigures := hk
  have hmoved := closedFrom_transit hu ht
  have hafter : Acting s → s.clampCountAfter s.closeFigures = clamps := fun h => (clampCountAfter_of_acting h _).trans hclamps.symm
  refine ⟨fun hstate hcount => ?_, fun hle hstate hnone => ?_, fun hle hstate => ⟨fun hnone hcount => ?_, fun hsome hclamped => ?_,
    fun hsome hclamped hprogress => ?_⟩, fun hle hstate => ⟨fun hnone hcount => ?_, fun hsome => ?_⟩, fun hstate hcount => ?_⟩
  · rw [clampCountAfter_of_not_acting (by simp [Acting, hstate])] at hmoved
    simpa [transit, hstate, show ¬s.agreement.listenCount ≤ 1 by omega] using hmoved
  · rw [hafter (.inl hstate)] at hmoved
    simpa [transit, hstate, show ¬3 ≤ clamps by omega, show ¬(s.closeFigures.offsets ≠ [] ∧ s.closeFigures.clamped = false) by
      rintro ⟨hsome, hnot⟩
      simp [hsome, hnot] at hnone] using hmoved
  · rw [hafter (.inr (.inl hstate))] at hmoved
    simpa [transit, hstate, hnone, show ¬3 ≤ clamps by omega, show ¬4 ≤ s.agreement.lonelyCount + 1 by omega] using hmoved
  · rw [hafter (.inr (.inl hstate))] at hmoved
    simpa [transit, hstate, hsome, hclamped, show ¬3 ≤ clamps by omega] using hmoved
  · rw [hafter (.inr (.inl hstate))] at hmoved
    simpa [transit, hstate, hsome, hclamped, hprogress, show ¬3 ≤ clamps by omega] using hmoved
  · rw [hafter (.inr (.inr hstate))] at hmoved
    simpa [transit, hstate, hnone, show ¬3 ≤ clamps by omega, show ¬8 ≤ s.agreement.lonelyCount + 1 by omega] using hmoved
  · rw [hafter (.inr (.inr hstate))] at hmoved
    simpa [transit, hstate, hsome, show ¬3 ≤ clamps by omega] using hmoved
  · rw [clampCountAfter_of_not_acting (by simp [Acting, hstate])] at hmoved
    simpa [transit, hstate, show ¬16 ≤ s.agreement.driftCount + 1 by omega] using hmoved

end ClosedFrom

end State

end Sys2Proof.Machine

/-! The advances of one reference period at the Line Clock (R1 to R5, R8), and the two courses that the end of a period takes:
the Line Clock's part before the slot start of its period or after it (log 3). -/

namespace Sys2Proof.Machine

set_option Elab.async false

open Safety

/-! ### One single advance -/

section SingleAdvance

variable {len : Nat} {c : Int} {a : Advance}

theorem singleAdvance_of_phase (hovertime : a.clock.overtime = 0) (hphase : a.clock.now.phase + 1 < len) :
    singleAdvance len c a = { a with clock := { a.clock with now := ⟨a.clock.now.round, a.clock.now.phase + 1⟩ } } := by
  rw [singleAdvance, if_neg (by omega), if_neg (by omega)]

theorem singleAdvance_of_overtime (hovertime : 2 ≤ a.clock.overtime) :
    singleAdvance len c a = { a with clock := { a.clock with overtime := a.clock.overtime - 1 } } := by
  rw [singleAdvance, if_pos (by omega), spendOvertime, if_neg (by omega)]

/-- The advance that spends the last tick of an overtime makes the boundary (R5). -/
theorem singleAdvance_of_last_tick (hovertime : a.clock.overtime = 1) : singleAdvance len c a =
    { a with
      clock := { a.clock with overtime := 0, now := ⟨a.clock.now.round + 1, 0⟩ }, boundary := true
      overtimeEnded := true } := by
  rw [singleAdvance, if_pos (by omega), spendOvertime, if_pos (by omega)]

theorem singleAdvance_of_close (hovertime : a.clock.overtime = 0) (hphase : len ≤ a.clock.now.phase + 1) :
    singleAdvance len c a = closeRound len c a := by
  rw [singleAdvance, if_neg (by omega), if_pos hphase]

theorem closeRound_forward (hc : 0 ≤ c) : closeRound len c a = { a with
    clock := { a.clock with trim := trimAfter len c a.clock.trim, now := ⟨a.clock.now.round + 1, c.toNat⟩ }, closed := true
    boundary := true } := if_pos hc

theorem closeRound_backward (hc : c < 0) : closeRound len c a = { a with
    clock := { a.clock with trim := trimAfter len c a.clock.trim, overtime := c.natAbs }, closed := true } := if_neg (by omega)

end SingleAdvance

/-- No advance touches the start-bit time, which is the Framer's, or a step handed over. -/
theorem singleAdvance_kept (len : Nat) (c : Int) (a : Advance) : (singleAdvance len c a).clock.startBit = a.clock.startBit ∧
    (singleAdvance len c a).clock.handed = a.clock.handed := by
  unfold singleAdvance spendOvertime closeRound
  simp only
  split_ifs <;> exact ⟨rfl, rfl⟩

theorem LineClock.period_kept (len : Nat) (c : Int) (k : LineClock) : (k.period len c).clock.startBit = k.startBit ∧
    (k.period len c).clock.handed = k.handed := by
  unfold LineClock.period
  simp only
  split
  · exact ⟨rfl, rfl⟩
  · exact singleAdvance_kept ..
  · obtain ⟨hbit, hhanded⟩ := singleAdvance_kept len c (singleAdvance len c ⟨{ k with pace := (paceStep k.trim k.pace).1 }, false, false, false⟩)
    obtain ⟨hbit', hhanded'⟩ := singleAdvance_kept len c ⟨{ k with pace := (paceStep k.trim k.pace).1 }, false, false, false⟩
    exact ⟨hbit.trans hbit', hhanded.trans hhanded'⟩

namespace State

/-! ### The advances of a period -/

theorem advances_congr {s t : State} (h : SameAgreement s t) (hclock : t.clock = s.clock) : t.advances = s.advances := by
  rw [advances, advances, hclock, len, h.config, h.closeFigures]
  rfl

theorem advances_kept {s : State} (h : s.clock.handed = none) :
    s.advances.clock.startBit = s.clock.startBit ∧ s.advances.clock.handed = none := by
  unfold advances
  rw [LineClock.stepped_of_none _ h, ← h]
  split
  · exact LineClock.period_kept ..
  · exact ⟨rfl, rfl⟩

/-- The clock of `s` with its pace count moved on, before an advance. -/
def paced (s : State) (pace : Nat) : Advance := ⟨{ s.clock with pace := pace }, false, false, false⟩

section Advances

variable {s : State}

theorem advances_stopped (hrun : s.clock.running = false) (hhanded : s.clock.handed = none) :
    s.advances = ⟨s.clock, false, false, false⟩ := by
  rw [advances, if_neg (ne_true_of_eq_false hrun), LineClock.stepped_of_none _ hhanded]

theorem advances_running_eq (hrun : s.clock.running = true) (hhanded : s.clock.handed = none) :
    s.advances = s.clock.period s.len s.closeFigures.correction := by
  rw [advances, if_pos hrun, LineClock.stepped_of_none _ hhanded]

theorem advances_of_single (h : SingleAdvance s) : s.advances =
    singleAdvance s.len s.closeFigures.correction (s.paced (s.clock.pace + s.clock.trim.natAbs)) := by
  obtain ⟨-, hrun, hpace, hhanded⟩ := h
  rw [advances_running_eq hrun hhanded, LineClock.period, paceStep, if_pos hpace]
  rfl

theorem advances_of_double (h : DoubleAdvance s) : s.advances = singleAdvance s.len s.closeFigures.correction
    (singleAdvance s.len s.closeFigures.correction (s.paced (s.clock.pace + s.clock.trim.natAbs - 1000000))) := by
  obtain ⟨-, hrun, hpace, htrim, hhanded⟩ := h
  rw [advances_running_eq hrun hhanded, LineClock.period, paceStep, if_neg (Nat.not_lt.2 hpace), if_pos htrim]
  rfl

theorem advances_of_withheld (hrun : s.clock.running = true) (hhanded : s.clock.handed = none)
    (hpace : 1000000 ≤ s.clock.pace + s.clock.trim.natAbs) (htrim : s.clock.trim < 0) :
    s.advances = s.paced (s.clock.pace + s.clock.trim.natAbs - 1000000) := by
  rw [advances_running_eq hrun hhanded, LineClock.period, paceStep, if_neg (Nat.not_lt.2 hpace), if_neg (by omega)]
  rfl

theorem advances_of_closing (h : ClosingNow s) : s.advances =
    closeRound s.len s.closeFigures.correction (s.paced (s.clock.pace + s.clock.trim.natAbs)) := by
  obtain ⟨hsingle, hovertime, hphase⟩ := h
  rw [advances_of_single hsingle]
  exact singleAdvance_of_close hovertime (Nat.le_of_eq hphase.symm)

theorem closed_of_closing (h : ClosingNow s) : s.advances.closed = true := by
  rw [advances_of_closing h, closeRound]
  split_ifs <;> rfl

theorem closing_handed (h : ClosingNow s) : s.clock.handed = none := h.1.2.2.2

end Advances

/-! ### The two courses of the end of a period -/

/-- `before` is the station `s` as the Line Clock's part of the end of its period finds it, and `t` what the rest of that end makes
of the outcome. -/
structure PeriodEnd (lookFirst : Bool) (s before t : State) : Prop where
  starts : Frame (.ripe :: dueParts) s before
  ends : Frame (.ripe :: .lateHandling :: dueParts) (before.clockPeriod lookFirst) t
  late : t.lateHandling = (s.framer.ripe && (s.advances.closed || s.advances.boundary))

/-- The end of a period in which the slot start comes first. -/
theorem periodEnd_named (s : State) : PeriodEnd false s s.takeDue.countPeriod s.endPeriodNamed where
  starts := ((takeDue_frame s).mono).trans ((countPeriod_frame _).mono)
  ends := by
    rw [endPeriodNamed]
    exact ((reportAt_frame (s.takeDue.countPeriod.clockPeriod false) s.now).mono).trans ((markLate_frame _ s).mono)
  late := rfl

/-- The station as the Line Clock's part finds it where that part comes before the slot start. -/
def endsTaken (s : State) : State := s.sampleInputs.takeLooks.takeEnds

theorem endPeriodClockFirst_eq (lookFirst : Bool) (s : State) : s.endPeriodClockFirst lookFirst =
    (((s.endsTaken.clockThenStarts lookFirst).countPeriod).reportAt s.now).markLate s := rfl

/-- The end of a period in which the Line Clock's part comes before the slot start. -/
theorem periodEnd_clockFirst (lookFirst : Bool) (s : State) :
    PeriodEnd lookFirst s s.endsTaken (s.endPeriodClockFirst lookFirst) where
  starts := (((sampleInputs_frame s).mono).trans ((takeLooks_frame _).mono)).trans ((takeEnds_frame _).mono)
  ends := by
    rw [endPeriodClockFirst_eq]
    obtain ⟨q, hq⟩ : ∃ q, q = s.endsTaken := ⟨_, rfl⟩
    rw [← hq]
    have hstarts : Frame (.ripe :: .lateHandling :: dueParts) (q.clockPeriod lookFirst) (q.clockThenStarts lookFirst) := by
      unfold clockThenStarts
      simp only
      split
      · exact (atReadings_frame _ _ _ (takeStarts_frame _)).mono
      · refine Frame.trans ?_ ((setStore_frame _ _).mono)
        refine Frame.trans ?_ ((atReadings_frame _ _ _ (takeStarts_frame _)).mono)
        exact (setStore_frame _ _).mono
    refine Frame.trans ?_ ((markLate_frame _ _).mono)
    refine Frame.trans ?_ ((reportAt_frame _ _).mono)
    refine Frame.trans ?_ ((countPeriod_frame _).mono)
    exact hstarts
  late := rfl

/-- The Line Clock's part up to the close: the clock advanced, and the Schedule's look where it comes before the close (log 9). -/
def lookedFirst (lookFirst : Bool) (s : State) : State :=
  if lookFirst && (s.clampDue || s.driftDue) then (s.setClock s.advances.clock).lookSchedule else s.setClock s.advances.clock

theorem lookedFirst_frame (lookFirst : Bool) (s : State) :
    Frame [.clock, .schedule, .outputs, .store] s (s.lookedFirst lookFirst) := by
  unfold lookedFirst
  split
  · exact ((setClock_frame s _).mono).trans ((lookSchedule_frame _).mono)
  · exact (setClock_frame s _).mono

theorem clockPeriod_eq {s : State} (lookFirst : Bool) (h : s.clock.handed = none) : s.clockPeriod lookFirst =
    if s.advances.boundary then
      (if s.advances.closed then (s.lookedFirst lookFirst).closeWork s.closeFigures else s.lookedFirst lookFirst).boundaryWork
    else if s.advances.closed then (s.lookedFirst lookFirst).closeWork s.closeFigures else s.lookedFirst lookFirst := by
  unfold clockPeriod
  rw [makeStep_of_none s h]
  rfl

section PeriodEnd

variable {lookFirst : Bool} {s before t : State} (h : PeriodEnd lookFirst s before t) (hhanded : s.clock.handed = none)

include h

theorem PeriodEnd.same : SameAgreement s before := .of_frame h.starts

theorem PeriodEnd.before_clock : before.clock = s.clock := h.starts.same .clock

theorem PeriodEnd.advances : before.advances = s.advances := advances_congr h.same h.before_clock

theorem PeriodEnd.clock : t.clock = s.advances.clock := by
  have hafter : t.clock = (before.clockPeriod lookFirst).clock := h.ends.same .clock
  rw [hafter, clockPeriod_clock, h.advances]

theorem PeriodEnd.config : t.config = s.config := by
  have hafter : t.config = (before.clockPeriod lookFirst).config := h.ends.same .config
  have hclock : (before.clockPeriod lookFirst).config = before.config := (clockPeriod_frame lookFirst before).same .config
  rw [hafter, hclock, h.same.config]

include hhanded

theorem PeriodEnd.frame : PeriodFrame s t := by
  have hparts : Frame periodParts s t := by
    refine Frame.trans ?_ (h.ends.mono)
    exact (h.starts.mono).trans ((clockPeriod_frame lookFirst before).mono)
  have htap : { t.tap with latch := true, setSinceTake := true } = { s.tap with latch := true, setSinceTake := true } :=
    hparts.same .transaction
  obtain ⟨hA, hB, hfirst⟩ : t.framer.bufferA = s.framer.bufferA ∧ t.framer.bufferB = s.framer.bufferB ∧
    t.framer.aFirst = s.framer.aFirst := hparts.same .buffers
  refine ⟨hparts.same .config, hparts.same .loader, hparts.same .inPins, hparts.same .resetHeld, hparts.same .freeIndex,
    hparts.same .pending, ?_, ?_, hA, hB, hfirst, hparts.same .startCount, ?_⟩
  · rw [h.clock, advances_running]
  · rw [h.clock, (advances_kept hhanded).1]
  · generalize t.tap = x at htap ⊢
    generalize s.tap = y at htap ⊢
    cases x
    cases y
    simp only [Tap.mk.injEq] at htap ⊢
    tauto

/-- A period without a close leaves the Agreement Unit but for its own TIME frame. -/
theorem PeriodEnd.agreement_of_open (hopen : s.advances.closed = false) : SameAgreement s t := by
  have hclock := clockPeriod_eq lookFirst (s := before) (h.before_clock ▸ hhanded)
  rw [h.advances, hopen] at hclock
  simp only [Bool.false_eq_true, if_false] at hclock
  have hlooked : SameAgreement before (before.lookedFirst lookFirst) := .of_frame (lookedFirst_frame lookFirst before)
  refine (h.same.trans ?_).trans (.of_frame h.ends)
  rw [hclock]
  split
  · exact hlooked.trans (.of_frame (boundaryWork_frame _))
  · exact hlooked

/-- A close does its work on the station as the advances have made it. -/
theorem PeriodEnd.agreement_of_closed (hclosed : s.advances.closed = true) :
    ∃ u, SameAgreement s u ∧ SameAgreement (u.closeWork s.closeFigures) t := by
  have hclock := clockPeriod_eq lookFirst (s := before) (h.before_clock ▸ hhanded)
  rw [h.advances, hclosed, h.same.closeFigures] at hclock
  simp only [if_true] at hclock
  refine ⟨before.lookedFirst lookFirst, h.same.trans (.of_frame (lookedFirst_frame lookFirst before)), ?_⟩
  refine SameAgreement.trans ?_ (.of_frame h.ends)
  rw [hclock]
  split
  · exact .of_frame (boundaryWork_frame _)
  · exact ⟨rfl, rfl⟩

/-- The peer table and the counts take the work of the close. -/
theorem PeriodEnd.closePeers (hclosed : s.advances.closed = true) : ClosePeers s t := by
  obtain ⟨u, hu, ht⟩ := h.agreement_of_closed hhanded hclosed
  exact closedFrom_closePeers hu ht

theorem PeriodEnd.closeCounts (hclosed : s.advances.closed = true) : CloseCounts s t := by
  obtain ⟨u, hu, ht⟩ := h.agreement_of_closed hhanded hclosed
  exact closedFrom_counts hu ht

theorem PeriodEnd.transit (hclosed : s.advances.closed = true) : AgreementIs t
    (transit s.config.id s.closeFigures { s.agreement with clampCount := s.clampCountAfter s.closeFigures }) := by
  obtain ⟨u, hu, ht⟩ := h.agreement_of_closed hhanded hclosed
  exact closedFrom_transit hu ht

theorem PeriodEnd.adjust (hclosed : s.advances.closed = true) :
    t.agreement.adjustCount = (noteCorrection s.agreement s.closeFigures.correction).adjustCount ∧
      t.agreement.lastAdjust = (noteCorrection s.agreement s.closeFigures.correction).lastAdjust := by
  obtain ⟨u, hu, ht⟩ := h.agreement_of_closed hhanded hclosed
  obtain ⟨hcount, hlast⟩ := closeWork_adjust u s.closeFigures
  rw [ht.agreement, hcount, hlast, hu.agreement, noteCorrection_eq, noteCorrection_eq]
  exact ⟨rfl, rfl⟩

end PeriodEnd

end State

end Sys2Proof.Machine

/-! What the happenings of a period leave as they are where no frame comes to its end in it, and where no slot starts. -/

namespace Sys2Proof.Machine

set_option Elab.async false

open Safety

namespace State

/-- No symbol of a frame comes to the end of its kind bit in this period. -/
def EngineYoung (s : State) : Prop := ∀ e, s.framer.engine = some e → e.age ≤ 39

theorem engineYoung_of_none {s : State} (h : s.framer.engine = none) : EngineYoung s := fun _ he => absurd (h.symm.trans he) (by simp)

theorem EngineYoung.of_frame {ps : List Part} {s t : State} (h : EngineYoung s) (hframe : Frame ps s t)
    (hp : Part.engine ∉ ps := by decide) : EngineYoung t := fun e he => h e ((hframe.same .engine hp).symm.trans he)

/-! ### The ends on the line -/

theorem endFrame_of_young {s : State} (h : EngineYoung s) : s.endFrame = s := by
  unfold endFrame
  split
  · rfl
  · next e he =>
    have hage := h e he
    exact if_neg fun h' => by omega

theorem endQuash_of_young {s : State} (h : EngineYoung s) : s.endQuash = s := by
  unfold endQuash
  split
  · rfl
  · next e he =>
    have hage := h e he
    exact if_neg fun h' => by omega

/-- The ends on the line but for the end of a frame. -/
theorem lineEnds_frame (s : State) :
    Frame [.silence, .receiver, .counters, .symbol, .monitor] s s.takeQuiet.endSymbol.completeGap := by
  refine Frame.trans ?_ ((completeGap_frame _).mono)
  exact ((takeQuiet_frame s).mono).trans ((endSymbol_frame _).mono)

theorem takeEnds_eq_of_young {s : State} (h : EngineYoung s) : s.takeEnds = s.takeQuiet.endSymbol.completeGap :=
  endFrame_of_young (h.of_frame (lineEnds_frame s))

theorem takeEnds_frame_of_young {s : State} (h : EngineYoung s) :
    Frame [.silence, .receiver, .counters, .symbol, .monitor] s s.takeEnds := by
  rw [takeEnds_eq_of_young h]
  exact lineEnds_frame s

/-! ### The slot start -/

theorem slotDue_of_monitor {s t : State} (h : Part.monitor.same s t) : t.slotDue = s.slotDue := by
  obtain ⟨hmonitor, -, -, hcount, htaken⟩ := h
  rw [slotDue, slotDue, hmonitor, hcount, htaken]

/-- The ends on the line begin no slot but with the gap. -/
theorem takeEnds_slotDue {s : State} (h : NoSlotStart s) : s.takeEnds.slotDue = false := by
  obtain ⟨hgap, hwindow⟩ := h
  have hend : s.takeEnds.slotDue = s.takeQuiet.endSymbol.completeGap.slotDue := slotDue_of_monitor ((endFrame_frame _).same .monitor)
  obtain ⟨hmonitor, hgapCount, -, hcount, htaken⟩ : Part.monitor.same s s.takeQuiet := (takeQuiet_frame s).same .monitor
  obtain ⟨q, hq⟩ : ∃ q, q = s.takeQuiet := ⟨_, rfl⟩
  rw [hend, Bool.eq_false_iff, ne_eq, slotDue_iff]
  rw [← hq] at hmonitor hgapCount hcount htaken ⊢
  have hsymbol : q.endSymbol.access = q.access ∨
      q.endSymbol.access.monitor = .gap ∧ q.endSymbol.access.gapCount = 0 := by
    unfold endSymbol
    simp only
    split_ifs
    · exact .inr ⟨rfl, rfl⟩
    · exact .inl rfl
    · exact .inl rfl
  rcases hsymbol with hsame | ⟨hm, hc⟩
  · rw [completeGap, hsame, hmonitor, hgapCount, if_neg fun h' => hgap h'.1 h'.2, hsame, hmonitor, hcount, htaken]
    rintro ⟨h1, h2, h3⟩
    exact absurd ((hwindow h1 h2).symm.trans h3) (by decide)
  · rw [completeGap, if_neg fun h' => absurd (hc.symm.trans h'.2) (by decide), hm]
    rintro ⟨h1, -⟩
    exact absurd h1 (by decide)

theorem takeSlot_of_not_due {s : State} (h : s.slotDue = false) : s.takeSlot = s := if_neg (ne_true_of_eq_false h)

/-- A transmitter that does not wait begins no frame (R144). -/
theorem takeSlot_frame_of_not_waiting {s : State} (h : s.access.tx ≠ .waiting) : Frame [.monitor] s s.takeSlot := by
  have started : Frame [.monitor] s (s.setAccess { s.access with slotTaken := true }) := by
    intro p hp
    cases p <;> first | exact absurd (by decide) hp | rfl | simp [Part.same]
  unfold takeSlot
  split
  · rw [if_neg fun h' => h h'.1]
    exact started
  · exact Frame.refl _ s

theorem reportAt_tx {s : State} (t : LineTime) (hidle : s.access.tx ≠ .idle) (hwaiting : s.access.tx ≠ .waiting) :
    (s.reportAt t).access.tx = s.access.tx := by
  rw [reportAt_eq]
  simp [hidle, hwaiting]

/-! ### The acceptances -/

/-- No input holds an edge. -/
def InputsStable (s : State) : Prop := ∀ i : Fin 8, (s.capture.filters[i]).condition = .stable

theorem InputsStable.of_frame {ps : List Part} {s t : State} (h : InputsStable s) (hframe : Frame ps s t)
    (hp : Part.filters ∉ ps := by decide) : InputsStable t := by
  intro i
  have hfilters : t.capture.filters = s.capture.filters := hframe.same .filters hp
  rw [hfilters]
  exact h i

theorem acceptEdges_of_stable {s : State} (judged : LineTime) (h : InputsStable s) : s.acceptEdges judged = s :=
  foldl_skip fun i _ => if_neg (acceptDue_of_stable (h i))

/-! ### What stands with the slot start -/

section Starts

variable {s : State} (judged : LineTime)

theorem takeStarts_eq_of_young (h : EngineYoung s) : s.takeStarts judged = s.refreshTx.takeSlot.acceptEdges judged := by
  rw [takeStarts, endQuash_of_young h]

theorem takeStarts_frame_of_young (h : EngineYoung s) :
    Frame [.tx, .monitor, .armsInFlight, .timeFrame, .eventsInFlight, .engine, .collisions, .events, .store, .outbox, .nextId,
      .filters] s (s.takeStarts judged) := by
  rw [takeStarts_eq_of_young judged h]
  refine Frame.trans ?_ ((acceptEdges_frame judged _).mono)
  exact ((refreshTx_frame s).mono).trans ((takeSlot_frame _).mono)

theorem takeStarts_frame_of_no_slot (h : EngineYoung s) (hslot : s.slotDue = false) :
    Frame [.tx, .events, .store, .outbox, .nextId, .filters] s (s.takeStarts judged) := by
  have hreport : s.refreshTx.slotDue = false := (slotDue_of_monitor ((refreshTx_frame s).same .monitor)).trans hslot
  rw [takeStarts_eq_of_young judged h, takeSlot_of_not_due hreport]
  exact ((refreshTx_frame s).mono).trans ((acceptEdges_frame judged _).mono)

theorem takeStarts_frame_of_stable (h : EngineYoung s) (hstable : InputsStable s) :
    Frame [.tx, .monitor, .armsInFlight, .timeFrame, .eventsInFlight, .engine, .collisions] s (s.takeStarts judged) := by
  have hslot : Frame [.tx, .monitor, .armsInFlight, .timeFrame, .eventsInFlight, .engine, .collisions] s s.refreshTx.takeSlot :=
    ((refreshTx_frame s).mono).trans ((takeSlot_frame _).mono)
  rw [takeStarts_eq_of_young judged h, acceptEdges_of_stable judged (hstable.of_frame hslot)]
  exact hslot

end Starts

/-! ### The looks of a reading -/

theorem expireArms_of_empty {s : State} (h : s.arms.outbox = []) : s.expireArms = s := by
  rw [expireArms, expireWhere, h]
  rfl

theorem takeLooks_of_empty {s : State} (h : s.arms.outbox = []) : s.takeLooks = s.lookSchedule.endPulses.lookStore := by
  have hframe : Frame [.schedule, .outputs, .store] s s.lookSchedule.endPulses :=
    ((lookSchedule_frame s).mono).trans ((endPulses_frame _).mono)
  rw [takeLooks, expireArms_of_empty (Eq.trans (hframe.same .outbox) h)]

theorem takeLooks_frame_of_empty {s : State} (h : s.arms.outbox = []) : Frame [.schedule, .outputs, .store] s s.takeLooks := by
  rw [takeLooks_of_empty h]
  refine Frame.trans ?_ ((lookStore_frame _).mono)
  exact ((lookSchedule_frame s).mono).trans ((endPulses_frame _).mono)

/-- The reactions to a boundary where the arm outbox is empty. -/
theorem boundaryWork_of_empty {s : State} (h : s.arms.outbox = []) : s.boundaryWork =
    (((s.mapOutputs fun c o => o.boundary c s.now.round).muteBoundary).lookSchedule.endPulses).lookStore := by
  have hframe : Frame [.schedule, .outputs, .store, .tx, .collisions] s
      (((s.mapOutputs fun c o => o.boundary c s.now.round).muteBoundary).lookSchedule.endPulses) := by
    refine Frame.trans ?_ ((endPulses_frame _).mono)
    refine Frame.trans ?_ ((lookSchedule_frame _).mono)
    exact ((mapOutputs_frame s _).mono).trans ((muteBoundary_frame _).mono)
  rw [boundaryWork, expireArms_of_empty (Eq.trans (hframe.same .outbox) h)]

theorem boundaryWork_frame_of_empty {s : State} (h : s.arms.outbox = []) :
    Frame [.outputs, .tx, .collisions, .schedule, .store] s s.boundaryWork := by
  rw [boundaryWork_of_empty h]
  refine Frame.trans ?_ ((lookStore_frame _).mono)
  refine Frame.trans ?_ ((endPulses_frame _).mono)
  refine Frame.trans ?_ ((lookSchedule_frame _).mono)
  exact ((mapOutputs_frame s _).mono).trans ((muteBoundary_frame _).mono)

/-! ### The Line Clock's part before the slot start -/

/-- What stands with the slot start works on the outcome of the Line Clock's part, at the reading of the period that ends. -/
theorem clockThenStarts_starts (lookFirst : Bool) (s : State) : ∃ w, w.clock.now = s.clock.now ∧
    Frame [.clock, .store] (s.clockPeriod lookFirst) w ∧
    Frame [.clock, .store] (w.takeStarts s.storeNow) (s.clockThenStarts lookFirst) := by
  obtain ⟨k, hk⟩ : ∃ k, k = s.clockPeriod lookFirst := ⟨_, rfl⟩
  unfold clockThenStarts
  simp only [← hk]
  split
  · exact ⟨k.setClock { k.clock with now := s.now, handed := some s.storeNow }, rfl, (setClock_frame k _).mono,
      (setClock_frame _ _).mono⟩
  · refine ⟨(k.setStore s.store).setClock { k.clock with now := s.now, handed := some s.storeNow }, rfl,
      ((setStore_frame k _).mono).trans ((setClock_frame _ _).mono), ?_⟩
    exact ((setClock_frame _ _).mono).trans ((setStore_frame _ _).mono)

end State

end Sys2Proof.Machine

/-! The own TIME frame and a MUTED transmitter at the end of a period (R26, R38, R39, R151). -/

namespace Sys2Proof.Machine

set_option Elab.async false

open Safety

namespace State

/-! ### The own TIME frame (R38, R39) -/

/-- The engine of `s` brings its own TIME frame to an end in this period, well or by a QUASH. -/
structure TimeEnds (s : State) (e : Engine) : Prop where
  engine : s.framer.engine = some e
  kind : e.kind = .time
  age : e.age = 40
  own : e.orphan = false

theorem TimeEnds.of_frame {ps : List Part} {s t : State} {e : Engine} (h : TimeEnds s e) (hframe : Frame ps s t)
    (hp : Part.engine ∉ ps := by decide) : TimeEnds t e :=
  ⟨Eq.trans (hframe.same .engine hp) h.engine, h.kind, h.age, h.own⟩

theorem endFrame_of_time {s : State} {e : Engine} (h : TimeEnds s e)
    (hgood : e.course = .frame ∧ e.bytes.length < e.index ∧ e.readWell = true) :
    s.endFrame.agreement.timeFrame = s.agreement.timeFrame.sent ∧ s.endFrame.framer.engine = none := by
  obtain ⟨hcourse, hindex, hwell⟩ := hgood
  have hshut : e.atShut = true := by simp [Engine.atShut, hcourse, hindex]
  have hend : s.endFrame = (s.goodEnd .time).refreshTx := by
    unfold endFrame
    rw [h.engine]
    simp only [hcourse, hshut, h.age, h.own, hwell, h.kind, and_self, if_true, Bool.false_eq_true, if_false]
  have htx := refreshTx_frame (s.goodEnd .time)
  rw [hend]
  exact ⟨htx.same .timeFrame, htx.same .engine⟩

theorem endFrame_of_quash {s : State} {e : Engine} (h : s.framer.engine = some e) (hquash : e.course = .quash) : s.endFrame = s := by
  unfold endFrame
  rw [h]
  simp [hquash]

theorem endQuash_of_time {s : State} {e : Engine} (h : TimeEnds s e) (hquash : e.course = .quash) :
    s.endQuash.agreement.timeFrame = s.agreement.timeFrame.collided ∧ s.endQuash.framer.engine = none := by
  have hend : s.endQuash = (s.collisionEnd .time).refreshTx := by
    unfold endQuash
    rw [h.engine]
    simp only [hquash, h.age, h.own, h.kind, and_self, if_true, Bool.false_eq_true, if_false]
  have htx := refreshTx_frame (s.collisionEnd .time)
  obtain ⟨r, hr⟩ : ∃ r, r = ((s.setEngine none).setAccess
    { s.access with collisions := s.access.collisions + 1, yield := true }).reportCollided .time := ⟨_, rfl⟩
  have hreported : r.agreement.timeFrame = s.agreement.timeFrame.collided ∧ r.framer.engine = none := by
    rw [hr]
    exact ⟨rfl, rfl⟩
  have hcollision : Frame [.tx, .collisions, .store, .latch] r (s.collisionEnd .time) := by
    have hif : s.collisionEnd .time = if Config.muteCollisions ≤ r.access.collisions then r.muteTx else r.setTx .idle := by
      rw [hr]
      rfl
    rw [hif]
    split
    · exact (muteTx_frame r).mono
    · exact (setTx_frame r _).mono
  rw [hend]
  exact ⟨Eq.trans (htx.same .timeFrame) (Eq.trans (hcollision.same .timeFrame) hreported.1),
    Eq.trans (htx.same .engine) (Eq.trans (hcollision.same .engine) hreported.2)⟩

/-- What stands with the slot start, where a TIME frame ends by a QUASH and no slot starts. -/
theorem takeStarts_of_quash {s : State} {e : Engine} (judged : LineTime) (h : TimeEnds s e) (hquash : e.course = .quash)
    (hslot : s.slotDue = false) : (s.takeStarts judged).agreement.timeFrame = s.agreement.timeFrame.collided := by
  obtain ⟨htime, hengine⟩ := endQuash_of_time h hquash
  obtain ⟨q, hq⟩ : ∃ q, q = s.endQuash := ⟨_, rfl⟩
  have hqslot : q.slotDue = false := by
    rw [hq]
    exact (slotDue_of_monitor ((endQuash_frame s).same .monitor)).trans hslot
  rw [← hq] at htime hengine
  have hstarts : s.takeStarts judged = q.takeStarts judged := by
    rw [takeStarts_eq_of_young judged (engineYoung_of_none hengine), takeStarts, hq]
  rw [hstarts]
  exact Eq.trans ((takeStarts_frame_of_no_slot judged (engineYoung_of_none hengine) hqslot).same .timeFrame) htime

/-- A frame comes to its end quashed, or sent well. -/
def TimeEnding (e : Engine) : Prop := e.course = .quash ∨ e.course = .frame ∧ e.bytes.length < e.index ∧ e.readWell = true

theorem takeEnds_of_time {s : State} {e : Engine} (h : TimeEnds s e)
    (hgood : e.course = .frame ∧ e.bytes.length < e.index ∧ e.readWell = true) :
    s.takeEnds.agreement.timeFrame = s.agreement.timeFrame.sent ∧ s.takeEnds.framer.engine = none := by
  have hline := lineEnds_frame s
  obtain ⟨htime, hengine⟩ := endFrame_of_time (h.of_frame hline) hgood
  exact ⟨htime.trans (congrArg TimeFrame.sent (hline.same .timeFrame)), hengine⟩

theorem takeEnds_of_quash {s : State} {e : Engine} (h : TimeEnds s e) (hquash : e.course = .quash) :
    s.takeEnds.agreement.timeFrame = s.agreement.timeFrame ∧ TimeEnds s.takeEnds e := by
  have hline := lineEnds_frame s
  have hends : s.takeEnds = s.takeQuiet.endSymbol.completeGap := endFrame_of_quash (h.of_frame hline).engine hquash
  rw [hends]
  exact ⟨hline.same .timeFrame, h.of_frame hline⟩

/-- The own TIME frame before and after the Line Clock's part of the end of a period, in which no slot starts: as it was, where no
frame ends, and where the station's TIME frame ends, told of its outcome before that part or after it. -/
structure TimePasses (s before clocked t : State) : Prop where
  young : EngineYoung s → before.agreement.timeFrame = s.agreement.timeFrame ∧ t.agreement.timeFrame = clocked.agreement.timeFrame
  ending : ∀ e, TimeEnds s e → TimeEnding e →
    before.agreement.timeFrame.mark = .pending ∧ t.agreement.timeFrame = clocked.agreement.timeFrame ∨
      t.agreement.timeFrame = clocked.agreement.timeFrame.collided

theorem timeFrame_mark_sent (x : TimeFrame) : x.sent.mark = .pending := by cases x <;> rfl

theorem timeFrame_mark_collided (x : TimeFrame) : x.collided.mark = .pending := by cases x <;> rfl

theorem timeFrame_collided_mark (x : TimeFrame) : x.mark.collided = .pending := by cases x <;> rfl

/-- The looks of a reading find the engine, the monitor and the own TIME frame as they are. -/
theorem looksSampled_frame (s : State) : Frame [.filters, .sampled, .schedule, .outputs, .store, .outbox] s s.sampleInputs.takeLooks :=
  ((sampleInputs_frame s).mono).trans ((takeLooks_frame _).mono)

theorem noSlotStart_of_frame {ps : List Part} {s t : State} (h : NoSlotStart s) (hframe : Frame ps s t)
    (hp : Part.monitor ∉ ps := by decide) : NoSlotStart t := by
  obtain ⟨hmonitor, hgap, -, hcount, htaken⟩ := hframe.same .monitor hp
  rw [NoSlotStart, hmonitor, hgap, hcount, htaken]
  exact h

theorem timePasses_named {s : State} (hslot : NoSlotStart s) :
    TimePasses s s.takeDue.countPeriod (s.takeDue.countPeriod.clockPeriod false) s.endPeriodNamed := by
  have hlooks := looksSampled_frame s
  obtain ⟨q, hq⟩ : ∃ q, q = s.sampleInputs.takeLooks := ⟨_, rfl⟩
  rw [← hq] at hlooks
  have hqtime : q.agreement.timeFrame = s.agreement.timeFrame := hlooks.same .timeFrame
  have hqslot := takeEnds_slotDue (noSlotStart_of_frame hslot hlooks)
  have hbefore : s.takeDue.countPeriod.agreement.timeFrame = (q.takeEnds.takeStarts q.storeNow).agreement.timeFrame := by
    have hdue : s.takeDue = q.takeEnds.takeStarts q.storeNow := by
      rw [takeDue, takeLine, ← hq]
    rw [hdue]
    exact (countPeriod_frame _).same .timeFrame
  obtain ⟨k, hk⟩ : ∃ k, k = s.takeDue.countPeriod.clockPeriod false := ⟨_, rfl⟩
  have hafter : s.endPeriodNamed.agreement.timeFrame = k.agreement.timeFrame := by
    rw [endPeriodNamed, ← hk]
    exact Eq.trans ((markLate_frame _ s).same .timeFrame) ((reportAt_frame k _).same .timeFrame)
  rw [← hk]
  refine ⟨fun hyoung => ⟨?_, hafter⟩, fun e hends hending => .inl ⟨?_, hafter⟩⟩
  · have hqyoung := hyoung.of_frame hlooks
    have hline := takeEnds_frame_of_young hqyoung
    rw [hbefore, ← hqtime]
    exact Eq.trans ((takeStarts_frame_of_no_slot _ (hqyoung.of_frame hline) hqslot).same .timeFrame) (hline.same .timeFrame)
  · rw [hbefore]
    rcases hending with hquash | hgood
    · obtain ⟨-, hends'⟩ := takeEnds_of_quash (hends.of_frame hlooks) hquash
      rw [takeStarts_of_quash _ hends' hquash hqslot]
      exact timeFrame_mark_collided _
    · obtain ⟨htime, hengine⟩ := takeEnds_of_time (hends.of_frame hlooks) hgood
      have hstarts := (takeStarts_frame_of_no_slot q.storeNow (engineYoung_of_none hengine) hqslot).same .timeFrame
      rw [Eq.trans hstarts htime]
      exact timeFrame_mark_sent _

theorem timePasses_clockFirst {s : State} (lookFirst : Bool) (hslot : NoSlotStart s) :
    TimePasses s s.endsTaken (s.endsTaken.clockPeriod lookFirst) (s.endPeriodClockFirst lookFirst) := by
  have hlooks := looksSampled_frame s
  obtain ⟨q, hq⟩ : ∃ q, q = s.sampleInputs.takeLooks := ⟨_, rfl⟩
  have hends : s.endsTaken = q.takeEnds := by rw [hq, endsTaken]
  rw [endPeriodClockFirst_eq, hends]
  rw [← hq] at hlooks
  have hqtime : q.agreement.timeFrame = s.agreement.timeFrame := hlooks.same .timeFrame
  have hqslot := takeEnds_slotDue (noSlotStart_of_frame hslot hlooks)
  obtain ⟨x, hx⟩ : ∃ x, x = q.takeEnds := ⟨_, rfl⟩
  rw [← hx] at hqslot ⊢
  obtain ⟨w, -, hclocked, hstarted⟩ := clockThenStarts_starts lookFirst x
  have hk := clockPeriod_frame lookFirst x
  have hkw : Frame (.store :: clockParts) x w := (hk.mono).trans (hclocked.mono)
  have hwslot : w.slotDue = false := (slotDue_of_monitor (hkw.same .monitor)).trans hqslot
  have hwtime : w.agreement.timeFrame = (x.clockPeriod lookFirst).agreement.timeFrame := hclocked.same .timeFrame
  have hafter : ((((x.clockThenStarts lookFirst).countPeriod).reportAt s.now).markLate s).agreement.timeFrame =
      (w.takeStarts x.storeNow).agreement.timeFrame :=
    (Eq.trans ((markLate_frame _ s).same .timeFrame) ((reportAt_frame _ _).same .timeFrame)).trans
      (Eq.trans ((countPeriod_frame _).same .timeFrame) (hstarted.same .timeFrame))
  have hrest : EngineYoung x → (w.takeStarts x.storeNow).agreement.timeFrame = (x.clockPeriod lookFirst).agreement.timeFrame :=
    fun hyoung => Eq.trans ((takeStarts_frame_of_no_slot _ (hyoung.of_frame hkw) hwslot).same .timeFrame) hwtime
  refine ⟨fun hyoung => ?_, fun e hends' hending => ?_⟩
  · have hqyoung := hyoung.of_frame hlooks
    have hline := takeEnds_frame_of_young hqyoung
    have hxyoung : EngineYoung x := hx ▸ hqyoung.of_frame hline
    exact ⟨hx ▸ Eq.trans (hline.same .timeFrame) hqtime, hafter.trans (hrest hxyoung)⟩
  · rcases hending with hquash | hgood
    · obtain ⟨-, hxends⟩ := takeEnds_of_quash (hends'.of_frame hlooks) hquash
      rw [← hx] at hxends
      exact .inr (hafter.trans ((takeStarts_of_quash _ (hxends.of_frame hkw) hquash hwslot).trans
        (congrArg TimeFrame.collided hwtime)))
    · obtain ⟨htime, hengine⟩ := takeEnds_of_time (hends'.of_frame hlooks) hgood
      rw [← hx] at htime hengine
      refine .inl ⟨?_, hafter.trans (hrest (engineYoung_of_none hengine))⟩
      rw [htime]
      exact timeFrame_mark_sent _

section Marks

variable {lookFirst : Bool} {s before t : State} (h : PeriodEnd lookFirst s before t) (hhanded : s.clock.handed = none)
  (hclosed : s.advances.closed = true)

include h hhanded hclosed

/-- The close marks the own TIME frame where it leaves the station in a state with a timeline of its own (R38). -/
theorem PeriodEnd.marked : (before.clockPeriod lookFirst).agreement.timeFrame =
    if t.acting || t.agreement.state == .adrift then before.agreement.timeFrame.mark else before.agreement.timeFrame := by
  have hclock := clockPeriod_eq lookFirst (s := before) (h.before_clock ▸ hhanded)
  rw [h.advances, hclosed, h.same.closeFigures] at hclock
  simp only [if_true] at hclock
  obtain ⟨u, hu⟩ : ∃ u, u = before.lookedFirst lookFirst := ⟨_, rfl⟩
  rw [← hu] at hclock
  have hutime : u.agreement.timeFrame = before.agreement.timeFrame := hu ▸ (lookedFirst_frame lookFirst before).same .timeFrame
  have hk : Frame [.outputs, .tx, .collisions, .schedule, .store, .outbox, .filters] (u.closeWork s.closeFigures)
      (before.clockPeriod lookFirst) := by
    rw [hclock]
    split
    · exact (boundaryWork_frame _).mono
    · exact Frame.refl _ _
  have hstate : t.agreement.state = (u.closeWork s.closeFigures).agreement.state :=
    (h.ends.agreement_state).trans hk.agreement_state
  have hacting : t.acting = (u.closeWork s.closeFigures).acting := by rw [acting, hstate]; rfl
  have htime := closeWork_timeFrame u s.closeFigures
  rw [hacting, hstate, Eq.trans (hk.same .timeFrame) htime, hutime]

theorem PeriodEnd.closeMarks (hpasses : NoSlotStart s → TimePasses s before (before.clockPeriod lookFirst) t) : CloseMarks s t := by
  intro hslot
  obtain ⟨hyoung, hending⟩ := hpasses hslot
  have hmarked := h.marked hhanded hclosed
  refine ⟨fun hstate => ?_, fun hengine hlistening => ?_⟩
  · rw [if_pos (by rw [Bool.or_eq_true, acting_iff, beq_iff_eq]; exact hstate)] at hmarked
    refine ⟨fun hengine => ?_, fun e hsome hkind hage hown hend => ?_⟩
    · obtain ⟨hbefore, hafter⟩ := hyoung hengine
      rw [hafter, hmarked, hbefore]
      exact ⟨fun h' => by rcases h' with h' | h' <;> rw [h'] <;> rfl, fun h' => by rcases h' with h' | h' <;> rw [h'] <;> rfl⟩
    · rcases hending e ⟨hsome, hkind, hage, hown⟩ hend with ⟨hbefore, hafter⟩ | hafter
      · rw [hafter, hmarked, hbefore]
      · rw [hafter, hmarked]
        exact timeFrame_collided_mark _
  · obtain ⟨hbefore, hafter⟩ := hyoung hengine
    rw [if_neg (by simp [acting, hlistening])] at hmarked
    rw [hafter, hmarked, hbefore]

theorem PeriodEnd.closeWork (hpasses : NoSlotStart s → TimePasses s before (before.clockPeriod lookFirst) t) : CloseWork s t :=
  ⟨h.closePeers hhanded hclosed, h.closeCounts hhanded hclosed, h.closeMarks hhanded hclosed hpasses⟩

end Marks

end State

end Sys2Proof.Machine

/-! A MUTED transmitter through the end of a period (R151). -/

namespace Sys2Proof.Machine

set_option Elab.async false

open Safety

namespace State

/-- A transmitter that is MUTED in `s` is so in `t`, with the counts of its collisions and its yield flag as they were. -/
def MutedKept (s t : State) : Prop := s.access.tx = .muted → t.access.tx = .muted ∧ Part.collisions.same s t

theorem MutedKept.trans {s t u : State} (h : MutedKept s t) (h' : MutedKept t u) : MutedKept s u := fun hmuted => by
  obtain ⟨htx, hyield, hcollisions, hmute⟩ := h hmuted
  obtain ⟨htx', hyield', hcollisions', hmute'⟩ := h' htx
  exact ⟨htx', hyield'.trans hyield, hcollisions'.trans hcollisions, hmute'.trans hmute⟩

theorem MutedKept.of_frame {ps : List Part} {s t : State} (h : Frame ps s t) (hps : ∀ p ∈ [Part.tx, .collisions], p ∉ ps := by decide) :
    MutedKept s t := fun hmuted =>
  ⟨Eq.trans (h.same .tx (hps _ (by decide))).1 hmuted, h.same .collisions (hps _ (by decide))⟩

theorem reportAt_mutedKept (s : State) (t : LineTime) : MutedKept s (s.reportAt t) := fun hmuted =>
  ⟨(reportAt_tx t (by simp [hmuted]) (by simp [hmuted])).trans hmuted, (reportAt_frame s t).same .collisions⟩

theorem takeSlot_mutedKept (s : State) : MutedKept s s.takeSlot := fun hmuted =>
  MutedKept.of_frame (takeSlot_frame_of_not_waiting (by simp [hmuted])) (by decide) hmuted

theorem takeEnds_mutedKept {s : State} (h : EngineYoung s) : MutedKept s s.takeEnds := .of_frame (takeEnds_frame_of_young h)

theorem takeStarts_mutedKept {s : State} (judged : LineTime) (h : EngineYoung s) : MutedKept s (s.takeStarts judged) := by
  rw [takeStarts_eq_of_young judged h]
  exact ((reportAt_mutedKept s _).trans (takeSlot_mutedKept _)).trans (.of_frame (acceptEdges_frame judged _))

/-- A close takes a transmitter out of OFF, and touches no other (R143). -/
theorem closeWork_access (s : State) (k : CloseFigures) (h : s.access.tx ≠ .off) : (s.closeWork k).access = s.access := by
  obtain ⟨-, -, hframe⟩ := closeCounted_parts s k
  have hmark := closeWork_frame_moved s k
  obtain ⟨v, hv⟩ : ∃ v, v = s.closeCounted k := ⟨_, rfl⟩
  rw [← hv] at hframe
  have hvaccess : v.access = s.access := hframe.access
  rw [hmark.access, closeMoved, ← hv]
  rcases closeTransition_cases v k with ⟨a, -, hmoved⟩ | ⟨a, new, -, -, -, hmoved⟩
  · rw [hmoved]
    exact hvaccess
  · obtain ⟨-, -, -, -, haccess⟩ := enterAgreement_parts (v.setAgreement a) new
    rw [hmoved, haccess, if_neg fun h' => h (hvaccess ▸ h'.1)]
    exact hvaccess

theorem closeWork_mutedKept (s : State) (k : CloseFigures) : MutedKept s (s.closeWork k) := fun hmuted => by
  rw [Part.same, closeWork_access s k (by simp [hmuted])]
  exact ⟨hmuted, rfl, rfl, rfl⟩

/-- At a boundary the mute count of a MUTED transmitter falls (R151). -/
theorem boundaryWork_muted {s : State} (hmuted : s.access.tx = .muted) :
    (s.boundaryWork).access.mute = s.access.mute - 1 ∧ s.boundaryWork.access.yield = s.access.yield ∧
      s.boundaryWork.access.collisions = s.access.collisions ∧
      s.boundaryWork.access.tx = (if s.access.mute ≤ 1 then .idle else .muted) := by
  obtain ⟨m, hm⟩ : ∃ m, m = (s.mapOutputs fun c o => o.boundary c s.now.round).muteBoundary := ⟨_, rfl⟩
  have hrest : Frame [.outputs, .schedule, .store, .outbox, .filters] m s.boundaryWork := by
    rw [boundaryWork, ← hm]
    refine Frame.trans ?_ ((lookStore_frame _).mono)
    refine Frame.trans ?_ ((expireArms_frame _).mono)
    refine Frame.trans ?_ ((endPulses_frame _).mono)
    exact (lookSchedule_frame m).mono
  have hfall : m = if s.access.mute ≤ 1 then
      (s.mapOutputs fun c o => o.boundary c s.now.round).setAccess { s.access with mute := 0, tx := .idle }
      else (s.mapOutputs fun c o => o.boundary c s.now.round).setAccess { s.access with mute := s.access.mute - 1 } := by
    rw [hm]
    exact if_pos hmuted
  rw [hrest.access, hfall]
  split
  · next hlast => exact ⟨by simp only [setAccess_access]; omega, rfl, rfl, rfl⟩
  · exact ⟨rfl, rfl, rfl, hmuted⟩

section Mute

variable {lookFirst : Bool} {s before t : State} (h : PeriodEnd lookFirst s before t) (hhanded : s.clock.handed = none)

include h hhanded

/-- The Line Clock's part lowers the mute count with the boundary, and leaves it where there is none. -/
theorem PeriodEnd.clocked_muted (hmuted : before.access.tx = .muted) :
    (s.advances.boundary = false → MutedKept before (before.clockPeriod lookFirst)) ∧
    (s.advances.boundary = true → (before.clockPeriod lookFirst).access.mute = before.access.mute - 1 ∧
      (before.clockPeriod lookFirst).access.yield = before.access.yield ∧
      (before.clockPeriod lookFirst).access.collisions = before.access.collisions ∧
      (before.clockPeriod lookFirst).access.tx = (if before.access.mute ≤ 1 then .idle else .muted)) := by
  have hclock := clockPeriod_eq lookFirst (s := before) (h.before_clock ▸ hhanded)
  rw [h.advances, h.same.closeFigures] at hclock
  obtain ⟨u, hu⟩ : ∃ u, u = if s.advances.closed then (before.lookedFirst lookFirst).closeWork s.closeFigures
    else before.lookedFirst lookFirst := ⟨_, rfl⟩
  rw [← hu] at hclock
  have hkept : MutedKept before u := by
    refine MutedKept.trans (.of_frame (lookedFirst_frame lookFirst before)) ?_
    rw [hu]
    split
    · exact closeWork_mutedKept _ _
    · exact .of_frame (Frame.refl [] _)
  refine ⟨fun hopen => ?_, fun hboundary => ?_⟩
  · rwa [hclock, hopen, if_neg (by decide)]
  · obtain ⟨htx, hyield, hcollisions, hmute⟩ := hkept hmuted
    rw [hclock, hboundary, if_pos rfl, ← hmute, ← hyield, ← hcollisions]
    exact boundaryWork_muted htx

theorem PeriodEnd.muteFalls (hboundary : s.advances.boundary = true) (hbefore : EngineYoung s → MutedKept s before)
    (hafter : EngineYoung s → MutedKept (before.clockPeriod lookFirst) t) : MuteFalls s t := by
  intro hmuted hmany hyoung
  obtain ⟨htx, hyield, hcollisions, hmute⟩ := hbefore hyoung hmuted
  obtain ⟨hmute', hyield', hcollisions', htx'⟩ := (h.clocked_muted hhanded htx).2 hboundary
  rw [hmute, if_neg (by omega)] at htx'
  obtain ⟨htx'', hyield'', hcollisions'', hmute''⟩ := hafter hyoung htx'
  exact ⟨by rw [hmute'', hmute', hmute], htx'', by rw [hyield'', hyield', hyield], by rw [hcollisions'', hcollisions', hcollisions]⟩

theorem PeriodEnd.muteStays (hopen : s.advances.boundary = false) (hbefore : EngineYoung s → MutedKept s before)
    (hafter : EngineYoung s → MutedKept (before.clockPeriod lookFirst) t) : MuteStays s t := by
  intro hmuted hyoung
  obtain ⟨htx, -, -, hmute⟩ := hbefore hyoung hmuted
  obtain ⟨htx', -, -, hmute'⟩ := (h.clocked_muted hhanded htx).1 hopen htx
  obtain ⟨htx'', -, -, hmute''⟩ := hafter hyoung htx'
  exact ⟨by rw [hmute'', hmute', hmute], htx''⟩

end Mute

/-- Neither course of the end of a period touches a MUTED transmitter before the Line Clock's part or after it. -/
theorem mutedKept_named {s : State} (hyoung : EngineYoung s) :
    MutedKept s s.takeDue.countPeriod ∧ MutedKept (s.takeDue.countPeriod.clockPeriod false) s.endPeriodNamed := by
  have hlooks := looksSampled_frame s
  obtain ⟨q, hq⟩ : ∃ q, q = s.sampleInputs.takeLooks := ⟨_, rfl⟩
  rw [← hq] at hlooks
  have hqyoung := hyoung.of_frame hlooks
  have hdue : s.takeDue = q.takeEnds.takeStarts q.storeNow := by rw [takeDue, takeLine, ← hq]
  obtain ⟨k, hk⟩ : ∃ k, k = s.takeDue.countPeriod.clockPeriod false := ⟨_, rfl⟩
  refine ⟨?_, ?_⟩
  · rw [hdue]
    refine MutedKept.trans ?_ (.of_frame (countPeriod_frame _))
    refine MutedKept.trans ?_ (takeStarts_mutedKept _ (hqyoung.of_frame (takeEnds_frame_of_young hqyoung)))
    exact (MutedKept.of_frame hlooks).trans (takeEnds_mutedKept hqyoung)
  · rw [endPeriodNamed, ← hk]
    exact (reportAt_mutedKept k _).trans (.of_frame (markLate_frame _ s))

theorem mutedKept_clockFirst {s : State} (lookFirst : Bool) (hyoung : EngineYoung s) :
    MutedKept s s.endsTaken ∧ MutedKept (s.endsTaken.clockPeriod lookFirst) (s.endPeriodClockFirst lookFirst) := by
  have hlooks := looksSampled_frame s
  obtain ⟨q, hq⟩ : ∃ q, q = s.sampleInputs.takeLooks := ⟨_, rfl⟩
  have hends : s.endsTaken = q.takeEnds := by rw [hq, endsTaken]
  rw [endPeriodClockFirst_eq, hends]
  rw [← hq] at hlooks
  have hqyoung := hyoung.of_frame hlooks
  obtain ⟨x, hx⟩ : ∃ x, x = q.takeEnds := ⟨_, rfl⟩
  have hxyoung : EngineYoung x := hx ▸ hqyoung.of_frame (takeEnds_frame_of_young hqyoung)
  have hsx : MutedKept s x := hx ▸ (MutedKept.of_frame hlooks).trans (takeEnds_mutedKept hqyoung)
  rw [← hx]
  obtain ⟨w, -, hclocked, hstarted⟩ := clockThenStarts_starts lookFirst x
  have hwyoung : EngineYoung w := (hxyoung.of_frame (clockPeriod_frame lookFirst x)).of_frame hclocked
  refine ⟨hsx, ?_⟩
  refine MutedKept.trans ?_ (.of_frame (markLate_frame _ s))
  refine MutedKept.trans ?_ (reportAt_mutedKept _ _)
  refine MutedKept.trans ?_ (.of_frame (countPeriod_frame _))
  exact ((MutedKept.of_frame hclocked).trans (takeStarts_mutedKept _ hwyoung)).trans (.of_frame hstarted)

end State

end Sys2Proof.Machine

/-! What the Event Store, the Schedule and the outputs take at the end of a period that brings nothing but a close or a boundary
(R16, R30, R72, R104, R105). -/

namespace Sys2Proof.Machine

set_option Elab.async false

open Safety

/-! ### Looks that have been taken (R105) -/

section Look

variable {len horizon : Nat} {now : LineTime}

theorem ageMark_ageMark (mark : Option LineTime) : ageMark len now (ageMark len now mark) = ageMark len now mark :=
  ageMark_of_young fun m hm => ((ageMark_eq_some len now mark m).1 hm).2

/-- A second look at the same reading finds nothing. -/
theorem EventStore.look_look (st : EventStore) : (st.look len horizon now).look len horizon now = st.look len horizon now := by
  have hyoung : ∀ x ∈ (st.look len horizon now).settling.head?, settled len horizon now x = false := by
    intro x hx
    have hdrop : (st.settling.dropWhile (settled len horizon now)).head? = some x := hx
    have hnot := List.head?_dropWhile_not (settled len horizon now) st.settling
    rw [hdrop] at hnot
    simpa using hnot
  rw [EventStore.look_of_young hyoung]
  have hmark : ageMark len now (st.look len horizon now).mark = (st.look len horizon now).mark := ageMark_ageMark _
  rw [hmark]

/-- A record taken leaves nothing to look for where nothing was. -/
theorem EventStore.look_take {st : EventStore} (h : st.look len horizon now = st) (r : EventRecord) :
    (st.take len horizon now r).look len horizon now = st.take len horizon now r := by
  unfold EventStore.take
  split_ifs
  · have hgap : ({ st with gap := .pending } : EventStore).look len horizon now = { st.look len horizon now with gap := .pending } := rfl
    rw [hgap, h]
  · have hsettling : st.settling.takeWhile (settled len horizon now) = [] := by
      have hdrop : st.settling.dropWhile (settled len horizon now) = st.settling := congrArg EventStore.settling h
      have hsplit := List.takeWhile_append_dropWhile (p := settled len horizon now) (l := st.settling)
      rw [hdrop] at hsplit
      simpa using hsplit
    have hdrop : st.settling.dropWhile (settled len horizon now) = st.settling := congrArg EventStore.settling h
    have hmark : ageMark len now (markAfter st.mark (st.settling.takeWhile (settled len horizon now))) = st.mark :=
      congrArg EventStore.mark h
    rw [EventStore.look]
    simp only [hdrop]
    rw [hmark, hsettling, List.append_nil]
  · exact EventStore.look_look _

end Look

namespace State

/-! ### The store and the records of a period -/

theorem lookStore_store_congr {s t : State} (hconfig : t.config = s.config) (hnow : t.storeNow = s.storeNow) (hstore : t.store = s.store) :
    t.lookStore.store = s.lookStore.store := by
  have hlen : t.len = s.len := by rw [len, hconfig]; rfl
  rw [lookStore, lookStore, hlen, hconfig, hnow, hstore]
  rfl

theorem foldl_takeRecord_set_congr {s t : State} (hs : s.agreement.state ≠ .unset) (ht : t.agreement.state ≠ .unset)
    (hconfig : t.config = s.config) (hnow : t.storeNow = s.storeNow) (hstore : t.store = s.store) (rs : List EventRecord) :
    (rs.foldl takeRecord t).store = (rs.foldl takeRecord s).store := by
  induction rs using List.reverseRecOn with
  | nil => exact hstore
  | append_singleton rs r ih =>
    have hst := Frame.foldl takeRecord_frame rs s
    have htt := Frame.foldl takeRecord_frame rs t
    rw [List.foldl_append, List.foldl_append]
    refine takeRecord_set_congr (by rwa [hst.agreement]) (by rwa [htt.agreement]) ?_ ?_ ih r
    · exact (Eq.trans (htt.same .config) hconfig).trans (hst.same .config).symm
    · exact ((storeNow_of_clock (htt.same .clock)).trans hnow).trans (storeNow_of_clock (hst.same .clock)).symm

theorem lookStore_foldl_takeRecord {s : State} (h : s.lookStore.store = s.store) (rs : List EventRecord) :
    (rs.foldl takeRecord s).lookStore.store = (rs.foldl takeRecord s).store := by
  induction rs using List.reverseRecOn with
  | nil => exact h
  | append_singleton rs r ih =>
    rw [List.foldl_append]
    obtain ⟨u, hu⟩ : ∃ u, u = rs.foldl takeRecord s := ⟨_, rfl⟩
    rw [← hu] at ih ⊢
    by_cases hset : u.agreement.state = .unset
    · rw [List.foldl_cons, List.foldl_nil, takeRecord_of_unset hset]
      exact ih
    · rw [List.foldl_cons, List.foldl_nil, takeRecord_of_set hset]
      exact EventStore.look_take ih r

theorem lookStore_lookStore (s : State) : s.lookStore.lookStore.store = s.lookStore.store := EventStore.look_look _

/-! ### One entry that falls due (R71, R72) -/

theorem dueNotes_congr {u u' t t' : State} (hstate : u'.agreement.state = u.agreement.state) (hconfig : u'.config = u.config)
    (hclock : t'.clock = t.clock) (e : ScheduleEntry) : dueNotes u' t' e = dueNotes u t e := by
  have hnote : ∀ code, noteNow (u'.setClock t'.clock) code (BitVec.ofNat 8 e.output.val) e.sender e.tag =
      noteNow (u.setClock t.clock) code (BitVec.ofNat 8 e.output.val) e.sender e.tag := fun code =>
    noteNow_congr (s := u.setClock t.clock) (t := u'.setClock t'.clock) hstate (congrArg LineClock.now hclock) ..
  rw [dueNotes, hnote, hnote, hstate, hconfig]
  rfl

theorem takeEntry_store {u : State} {e : ScheduleEntry} (h : Acting u ∨ u.agreement.state = .adrift) :
    (u.takeEntry e).store = ((dueNotes u u e).foldl takeRecord u).store := by
  rcases h with h | h
  · have hnot : u.agreement.state ≠ .adrift := by
      rintro h'
      simp [Acting, h'] at h
    rw [takeEntry_of_acting h, dueNotes, if_neg hnot]
    cases hlog : (u.config.outputs[e.output]).log with
    | false =>
      rw [execute_silent hlog]
      rfl
    | true =>
      rw [execute_logged hlog]
      rfl
  · rw [takeEntry_of_adrift h, entryNote_eq, dueNotes, if_pos h]
    rfl

/-! ### The notes of a close (R16, R30) -/

section CloseNotes

variable {s u t : State} (hu : SameAgreement s u) (ht : SameAgreement (u.closeWork s.closeFigures) t)

include hu ht

/-- The work of a close gives the Event Store its notes. -/
theorem closedFrom_store (hclock : t.clock = u.clock) (hset : s.agreement.state ≠ .unset) :
    (u.closeWork s.closeFigures).store = ((closeNotes s t).foldl takeRecord u).store := by
  have huset : u.agreement.state ≠ .unset := by rwa [hu.state]
  obtain ⟨w, hw⟩ : ∃ w, w = u.closeWork s.closeFigures := ⟨_, rfl⟩
  have hnow : u.clock.now = t.clock.now := congrArg LineClock.now hclock.symm
  have hbarred : u.barredNotes s.closeFigures = ((List.finRange 24).filter (thirdStrike s)).map fun i : Fin 24 =>
      noteNow (s.setClock t.clock) .peerBarred 3 (BitVec.ofNat 8 (i.val + 1)) 0 := by
    have hout : (fun i : Fin 24 => (u.agreement.peers[i]).strikesOut u.agreement.timeline u.config.stepLimit s.closeFigures.raw) =
        thirdStrike s := funext fun i => by rw [thirdStrike_eq, hu.peers, hu.timeline, hu.config]
    rw [barredNotes, hout]
    exact List.map_congr_left fun i _ => noteNow_congr (s := s.setClock t.clock) hu.state hnow ..
  have hchanged : noteNow w .agreement (BitVec.ofNat 8 w.agreement.state.code) u.config.id 0 =
      noteNow t .agreement (BitVec.ofNat 8 t.agreement.state.code) s.config.id 0 := by
    have hwclock : w.clock = u.clock := hw ▸ closeWork_clock u s.closeFigures
    rw [hu.config, ht.state, ← hw]
    exact (noteNow_congr (s := w) (hw ▸ ht.state) (by rw [hwclock, hclock]) ..).symm
  rw [closeNotes, List.foldl_append, ← hbarred, ht.state, ← hw]
  rcases closeWork_notes u s.closeFigures huset with ⟨hstate, hstore, -⟩ | ⟨hstate, hstore, -⟩
  · rw [← hw] at hstate hstore
    rw [if_pos (hstate.trans hu.state), hstore]
    rfl
  · rw [← hw] at hstate hstore
    rw [if_neg fun h => hstate (h.trans hu.state.symm), hstore, hchanged, ht.state, ← hw]
    rfl

end CloseNotes

/-! ### The reactions to a boundary -/

/-- The station at a boundary, before its Schedule looks. -/
def atBoundary (s : State) : State := (s.mapOutputs fun c o => o.boundary c s.now.round).muteBoundary

theorem atBoundary_frame (s : State) : Frame [.outputs, .tx, .collisions] s s.atBoundary :=
  ((mapOutputs_frame s _).mono).trans ((muteBoundary_frame _).mono)

theorem boundaryWork_store {s : State} (hempty : s.arms.outbox = []) :
    s.boundaryWork.store = s.atBoundary.lookSchedule.lookStore.store := by
  rw [boundaryWork_of_empty hempty]
  refine lookStore_store_congr (s := s.atBoundary.lookSchedule) ?_ ?_ ?_ <;> rfl

theorem boundaryWork_schedule (s : State) : s.boundaryWork.schedule = s.atBoundary.lookSchedule.schedule := by
  obtain ⟨w, hw⟩ : ∃ w, w = s.atBoundary.lookSchedule := ⟨_, rfl⟩
  have hrest : Frame [.outputs, .outbox, .filters, .store] w s.boundaryWork := by
    rw [hw]
    refine Frame.trans ?_ ((lookStore_frame _).mono)
    exact ((endPulses_frame _).mono).trans ((expireArms_frame _).mono)
  rw [← hw]
  exact hrest.same .schedule

theorem boundaryWork_outputs (s : State) : s.boundaryWork.outputs = s.atBoundary.lookSchedule.endPulses.outputs := by
  obtain ⟨w, hw⟩ : ∃ w, w = s.atBoundary.lookSchedule.endPulses := ⟨_, rfl⟩
  have hrest : Frame [.outbox, .filters, .store] w s.boundaryWork := by
    rw [hw]
    exact ((expireArms_frame _).mono).trans ((lookStore_frame _).mono)
  rw [← hw]
  exact hrest.same .outputs

theorem atBoundary_output (s : State) (i : Fin 8) :
    s.atBoundary.outputs[i] = (s.outputs[i]).boundary (s.config.outputs[i]) s.clock.now.round := by
  have hmute : s.atBoundary.outputs = (s.mapOutputs fun c o => o.boundary c s.now.round).outputs :=
    (muteBoundary_frame _).same .outputs
  rw [hmute, mapOutputs]
  simp [now]

theorem endPulses_output (s : State) (i : Fin 8) : s.endPulses.outputs[i] = (s.outputs[i]).endPulse s.len s.now := by
  rw [endPulses, mapOutputs]
  simp

/-! ### A period in which no frame ends and the Schedule has nothing to take before the Line Clock's part -/

/-- The Schedule and the outputs are as they were before the Line Clock's part but for the pulse ends, and as that part leaves
them after it. -/
structure QuietEnd (s before clocked t : State) : Prop where
  schedule : before.schedule = s.schedule
  outputs : before.outputs = s.endPulses.outputs
  scheduleEnds : t.schedule = clocked.schedule
  outputsEnds : t.outputs = clocked.outputs

/-- The Event Store has been looked at before the Line Clock's part, and is as that part leaves it after it. -/
structure CalmEnd (s before clocked t : State) : Prop where
  store : before.store = s.lookStore.store
  outbox : before.arms.outbox = []
  storeEnds : t.store = clocked.store

/-- The head of the Schedule is not reached. -/
def HeadAhead (s : State) : Prop := ∀ x ∈ s.schedule.head?, earlier s.len s.now x.due = true

theorem headAhead_of_empty {s : State} (h : s.schedule = []) : HeadAhead s := by simp [HeadAhead, h]

theorem HeadAhead.of_frame {ps : List Part} {s t : State} (h : HeadAhead s) (hframe : Frame ps s t)
    (hps : ∀ p ∈ [Part.schedule, .config, .clock], p ∉ ps := by decide) : HeadAhead t := by
  have hconfig : t.config = s.config := hframe.same .config (hps _ (by decide))
  have hclock : t.clock = s.clock := hframe.same .clock (hps _ (by decide))
  have hschedule : t.schedule = s.schedule := hframe.same .schedule (hps _ (by decide))
  rw [HeadAhead, len, now, hconfig, hclock, hschedule]
  exact h

/-- The looks of a reading take nothing from the Schedule. -/
theorem takeLooks_of_headAhead {s : State} (h : HeadAhead s) :
    s.takeLooks.schedule = s.schedule ∧ s.takeLooks.outputs = s.endPulses.outputs := by
  have hrest : Frame [.outbox, .filters, .store] s.endPulses s.takeLooks := by
    rw [takeLooks, lookSchedule_of_young h]
    exact ((expireArms_frame _).mono).trans ((lookStore_frame _).mono)
  exact ⟨Eq.trans (hrest.same .schedule) ((endPulses_frame s).same .schedule), hrest.same .outputs⟩

theorem sampledLooks_of_headAhead {s : State} (h : HeadAhead s) :
    s.sampleInputs.takeLooks.schedule = s.schedule ∧ s.sampleInputs.takeLooks.outputs = s.endPulses.outputs := by
  have hsampled := sampleInputs_frame s
  obtain ⟨hschedule, houtputs⟩ := takeLooks_of_headAhead (h.of_frame hsampled)
  refine ⟨hschedule.trans (hsampled.same .schedule), houtputs.trans ?_⟩
  have hconfig : s.sampleInputs.config = s.config := hsampled.same .config
  have hclock : s.sampleInputs.clock = s.clock := hsampled.same .clock
  have hsame : s.sampleInputs.outputs = s.outputs := hsampled.same .outputs
  rw [endPulses, endPulses, mapOutputs, mapOutputs, len, now, hconfig, hclock, hsame]
  rfl

theorem calmLooks {s : State} (hcalm : Calm s) (h : HeadAhead s) :
    s.sampleInputs.takeLooks.store = s.lookStore.store ∧ s.sampleInputs.takeLooks.arms.outbox = [] ∧
      InputsStable s.sampleInputs.takeLooks := by
  obtain ⟨hsampled, hstable, hempty, -⟩ := hcalm
  rw [sampleInputs_of_sampled hsampled]
  have hframe := takeLooks_frame_of_empty hempty
  refine ⟨?_, Eq.trans (hframe.same .outbox) hempty, InputsStable.of_frame hstable hframe⟩
  rw [takeLooks_of_empty hempty, lookSchedule_of_young h]
  exact lookStore_store_congr (s := s) rfl rfl rfl

theorem quietEnd_named {s : State} (hyoung : EngineYoung s) (hhead : HeadAhead s) :
    QuietEnd s s.takeDue.countPeriod (s.takeDue.countPeriod.clockPeriod false) s.endPeriodNamed := by
  have hlooks := looksSampled_frame s
  obtain ⟨hschedule, houtputs⟩ := sampledLooks_of_headAhead hhead
  obtain ⟨q, hq⟩ : ∃ q, q = s.sampleInputs.takeLooks := ⟨_, rfl⟩
  rw [← hq] at hlooks hschedule houtputs
  have hqyoung := hyoung.of_frame hlooks
  have hline := takeEnds_frame_of_young hqyoung
  have hdue : s.takeDue = q.takeEnds.takeStarts q.storeNow := by rw [takeDue, takeLine, ← hq]
  have hbefore : Frame (.ripe :: .lateHandling :: .clock :: .sampled :: .symbol :: .silence :: .receiver :: .counters ::
      [.tx, .monitor, .armsInFlight, .timeFrame, .eventsInFlight, .engine, .collisions, .events, .store, .outbox, .nextId,
        .filters]) q s.takeDue.countPeriod := by
    rw [hdue]
    refine Frame.trans ?_ ((countPeriod_frame _).mono)
    exact (hline.mono).trans ((takeStarts_frame_of_young _ (hqyoung.of_frame hline)).mono)
  obtain ⟨k, hk⟩ : ∃ k, k = s.takeDue.countPeriod.clockPeriod false := ⟨_, rfl⟩
  have hafter : Frame [.tx, .lateHandling] k s.endPeriodNamed := by
    rw [endPeriodNamed, ← hk]
    exact ((reportAt_frame k _).mono).trans ((markLate_frame _ s).mono)
  rw [← hk]
  exact ⟨Eq.trans (hbefore.same .schedule) hschedule, Eq.trans (hbefore.same .outputs) houtputs, hafter.same .schedule,
    hafter.same .outputs⟩

theorem calmEnd_named {s : State} (hcalm : Calm s) (hhead : HeadAhead s) :
    CalmEnd s s.takeDue.countPeriod (s.takeDue.countPeriod.clockPeriod false) s.endPeriodNamed := by
  have hlooks := looksSampled_frame s
  obtain ⟨hstore, hempty, hstable⟩ := calmLooks hcalm hhead
  have hyoung : EngineYoung s := engineYoung_of_none hcalm.2.2.2
  obtain ⟨q, hq⟩ : ∃ q, q = s.sampleInputs.takeLooks := ⟨_, rfl⟩
  rw [← hq] at hlooks hstore hempty hstable
  have hqyoung := hyoung.of_frame hlooks
  have hline := takeEnds_frame_of_young hqyoung
  have hdue : s.takeDue = q.takeEnds.takeStarts q.storeNow := by rw [takeDue, takeLine, ← hq]
  have hbefore : Frame (.ripe :: .clock :: .sampled :: .symbol :: .silence :: .receiver :: .counters ::
      [.tx, .monitor, .armsInFlight, .timeFrame, .eventsInFlight, .engine, .collisions]) q s.takeDue.countPeriod := by
    rw [hdue]
    refine Frame.trans ?_ ((countPeriod_frame _).mono)
    exact (hline.mono).trans ((takeStarts_frame_of_stable _ (hqyoung.of_frame hline) (hstable.of_frame hline)).mono)
  obtain ⟨k, hk⟩ : ∃ k, k = s.takeDue.countPeriod.clockPeriod false := ⟨_, rfl⟩
  have hafter : Frame [.tx, .lateHandling] k s.endPeriodNamed := by
    rw [endPeriodNamed, ← hk]
    exact ((reportAt_frame k _).mono).trans ((markLate_frame _ s).mono)
  rw [← hk]
  exact ⟨Eq.trans (hbefore.same .store) hstore, Eq.trans (hbefore.same .outbox) hempty, hafter.same .store⟩

theorem quietEnd_clockFirst {s : State} (lookFirst : Bool) (hyoung : EngineYoung s) (hhead : HeadAhead s) :
    QuietEnd s s.endsTaken (s.endsTaken.clockPeriod lookFirst) (s.endPeriodClockFirst lookFirst) := by
  have hlooks := looksSampled_frame s
  obtain ⟨hschedule, houtputs⟩ := sampledLooks_of_headAhead hhead
  obtain ⟨q, hq⟩ : ∃ q, q = s.sampleInputs.takeLooks := ⟨_, rfl⟩
  have hends : s.endsTaken = q.takeEnds := by rw [hq, endsTaken]
  rw [endPeriodClockFirst_eq, hends]
  rw [← hq] at hlooks hschedule houtputs
  have hqyoung := hyoung.of_frame hlooks
  have hline := takeEnds_frame_of_young hqyoung
  obtain ⟨x, hx⟩ : ∃ x, x = q.takeEnds := ⟨_, rfl⟩
  rw [← hx] at hline ⊢
  obtain ⟨w, -, hclocked, hstarted⟩ := clockThenStarts_starts lookFirst x
  have hwyoung : EngineYoung w := ((hqyoung.of_frame hline).of_frame (clockPeriod_frame lookFirst x)).of_frame hclocked
  have hafter : Frame (.ripe :: .lateHandling :: .clock :: .sampled :: .symbol :: .silence ::
      [.tx, .monitor, .armsInFlight, .timeFrame, .eventsInFlight, .engine, .collisions, .events, .store, .outbox, .nextId,
        .filters]) (x.clockPeriod lookFirst) ((((x.clockThenStarts lookFirst).countPeriod).reportAt s.now).markLate s) := by
    refine Frame.trans ?_ ((markLate_frame _ s).mono)
    refine Frame.trans ?_ ((reportAt_frame _ _).mono)
    refine Frame.trans ?_ ((countPeriod_frame _).mono)
    refine Frame.trans ?_ (hstarted.mono)
    exact (hclocked.mono).trans ((takeStarts_frame_of_young _ hwyoung).mono)
  exact ⟨Eq.trans (hline.same .schedule) hschedule, Eq.trans (hline.same .outputs) houtputs, hafter.same .schedule,
    hafter.same .outputs⟩

theorem clockPeriod_frame_of_empty {s : State} (lookFirst : Bool) (hempty : s.arms.outbox = []) (hhanded : s.clock.handed = none) :
    Frame [.clock, .agreement, .timeFrame, .latch, .outputs, .tx, .collisions, .schedule, .store] s (s.clockPeriod lookFirst) := by
  have hlooked := lookedFirst_frame lookFirst s
  obtain ⟨u, hu⟩ : ∃ u, u = if s.advances.closed then (s.lookedFirst lookFirst).closeWork s.closeFigures
    else s.lookedFirst lookFirst := ⟨_, rfl⟩
  have hclosed : Frame [.clock, .agreement, .timeFrame, .latch, .outputs, .tx, .collisions, .schedule, .store] s u := by
    rw [hu]
    split
    · exact (hlooked.mono).trans ((closeWork_frame _ _).mono)
    · exact hlooked.mono
  have hclock := clockPeriod_eq lookFirst hhanded
  rw [← hu] at hclock
  rw [hclock]
  split
  · exact hclosed.trans ((boundaryWork_frame_of_empty (Eq.trans (hclosed.same .outbox) hempty)).mono)
  · exact hclosed

/-- Where nothing gives the Event Store a record with the slot start, it is as the Line Clock's part leaves it, whichever of the
two comes to it first (log 37). -/
theorem clockThenStarts_store {s : State} (lookFirst : Bool) (hyoung : EngineYoung s) (hstable : InputsStable s)
    (hempty : s.arms.outbox = []) (hhanded : s.clock.handed = none) :
    (s.clockThenStarts lookFirst).store = (s.clockPeriod lookFirst).store := by
  have hclocked := clockPeriod_frame_of_empty lookFirst hempty hhanded
  obtain ⟨k, hk⟩ : ∃ k, k = s.clockPeriod lookFirst := ⟨_, rfl⟩
  rw [← hk] at hclocked
  have hstarts : ∀ w, Frame [.clock, .store] k w → (w.takeStarts s.storeNow).store = w.store := fun w hw =>
    (takeStarts_frame_of_stable _ ((hyoung.of_frame hclocked).of_frame hw) ((hstable.of_frame hclocked).of_frame hw)).same .store
  unfold clockThenStarts
  simp only [← hk]
  split
  · exact hstarts (k.setClock { k.clock with now := s.now, handed := some s.storeNow }) (setClock_frame k _).mono
  · have hstarted : ((k.setStore s.store).atReadings s.now s.storeNow (takeStarts s.storeNow)).store = s.store :=
      hstarts ((k.setStore s.store).setClock { k.clock with now := s.now, handed := some s.storeNow })
        (((setStore_frame k _).mono).trans ((setClock_frame _ _).mono))
    rw [hstarted, setStore_self, ← hk]
    rfl

theorem calmEnd_clockFirst {s : State} (lookFirst : Bool) (hcalm : Calm s) (hhead : HeadAhead s) (hhanded : s.clock.handed = none) :
    CalmEnd s s.endsTaken (s.endsTaken.clockPeriod lookFirst) (s.endPeriodClockFirst lookFirst) := by
  have hlooks := looksSampled_frame s
  obtain ⟨hstore, hempty, hstable⟩ := calmLooks hcalm hhead
  have hyoung : EngineYoung s := engineYoung_of_none hcalm.2.2.2
  obtain ⟨q, hq⟩ : ∃ q, q = s.sampleInputs.takeLooks := ⟨_, rfl⟩
  have hends : s.endsTaken = q.takeEnds := by rw [hq, endsTaken]
  rw [endPeriodClockFirst_eq, hends]
  rw [← hq] at hlooks hstore hempty hstable
  have hqyoung := hyoung.of_frame hlooks
  have hline := takeEnds_frame_of_young hqyoung
  obtain ⟨x, hx⟩ : ∃ x, x = q.takeEnds := ⟨_, rfl⟩
  rw [← hx] at hline ⊢
  have hxempty : x.arms.outbox = [] := Eq.trans (hline.same .outbox) hempty
  have hxclock : x.clock = s.clock := Eq.trans (hline.same .clock) (hlooks.same .clock)
  refine ⟨Eq.trans (hline.same .store) hstore, hxempty, ?_⟩
  have hended : ((((x.clockThenStarts lookFirst).countPeriod).reportAt s.now).markLate s).store =
      (x.clockThenStarts lookFirst).store :=
    (Eq.trans ((markLate_frame _ s).same .store) ((reportAt_frame _ _).same .store)).trans ((countPeriod_frame _).same .store)
  exact hended.trans (clockThenStarts_store lookFirst (hqyoung.of_frame hline) (hstable.of_frame hline) hxempty (hxclock ▸ hhanded))

end State

end Sys2Proof.Machine

/-! The notes of a close in the Event Store (R16, R30, R104, R105). -/

namespace Sys2Proof.Machine

set_option Elab.async false

open Safety

namespace State

/-- The store after a boundary, where what came before it and the Schedule's look at it have given it the records `rs`. -/
theorem storeTakes_of_boundary {s t w : State} {rs : List EventRecord} (hconfig : w.config = s.config) (hclock : w.clock = t.clock)
    (hempty : w.arms.outbox = []) (hlook : w.atBoundary.lookSchedule.store = (rs.foldl takeRecord (s.lookStore.setClock t.clock)).store)
    (ht : t.store = w.boundaryWork.store) : StoreTakes s t rs := by
  have hbefore : Frame [.outputs, .tx, .collisions, .schedule, .store] w w.atBoundary.lookSchedule :=
    ((atBoundary_frame w).mono).trans ((lookSchedule_frame _).mono)
  have hfold := Frame.foldl takeRecord_frame rs (s.lookStore.setClock t.clock)
  rw [StoreTakes, ht, boundaryWork_store hempty]
  refine lookStore_store_congr ?_ ?_ hlook
  · exact (Eq.trans (hbefore.same .config) hconfig).trans (hfold.same .config).symm
  · exact (storeNow_of_clock (Eq.trans (hbefore.same .clock) hclock)).trans (storeNow_of_clock (hfold.same .clock)).symm

section CloseNotes

variable {lookFirst : Bool} {s before t : State} (h : PeriodEnd lookFirst s before t) (hhanded : s.clock.handed = none)
  (hclosed : s.advances.closed = true)

include h

theorem PeriodEnd.looked_clock : (before.lookedFirst lookFirst).clock = t.clock := by
  rw [h.clock, ← h.advances]
  unfold lookedFirst
  split
  · rw [lookSchedule_clock]
    rfl
  · rfl

theorem PeriodEnd.looked_same : SameAgreement s (before.lookedFirst lookFirst) :=
  h.same.trans (.of_frame (lookedFirst_frame lookFirst before))

include hhanded hclosed

/-- The Line Clock's part of a period with a close. -/
theorem PeriodEnd.clocked : before.clockPeriod lookFirst =
    if s.advances.boundary then ((before.lookedFirst lookFirst).closeWork s.closeFigures).boundaryWork
    else (before.lookedFirst lookFirst).closeWork s.closeFigures := by
  have hclock := clockPeriod_eq lookFirst (s := before) (h.before_clock ▸ hhanded)
  rw [h.advances, hclosed, h.same.closeFigures] at hclock
  exact hclock

theorem PeriodEnd.closed_same : SameAgreement ((before.lookedFirst lookFirst).closeWork s.closeFigures) t := by
  refine SameAgreement.trans ?_ (.of_frame h.ends)
  rw [h.clocked hhanded hclosed]
  split
  · exact .of_frame (boundaryWork_frame _)
  · exact ⟨rfl, rfl⟩

/-- The notes of the close come to the store as the looks before it have left it. -/
theorem PeriodEnd.closed_store (hset : s.agreement.state ≠ .unset) {rs : List EventRecord}
    (hlooked : (before.lookedFirst lookFirst).store = (rs.foldl takeRecord (s.lookStore.setClock t.clock)).store) :
    ((before.lookedFirst lookFirst).closeWork s.closeFigures).store =
      ((rs ++ closeNotes s t).foldl takeRecord (s.lookStore.setClock t.clock)).store := by
  have hsame := h.looked_same
  have hfold := Frame.foldl takeRecord_frame rs (s.lookStore.setClock t.clock)
  rw [closedFrom_store hsame (h.closed_same hhanded hclosed) h.looked_clock.symm hset, List.foldl_append]
  refine foldl_takeRecord_set_congr ?_ ?_ ?_ ?_ hlooked _
  · rw [hfold.agreement]
    exact hset
  · rw [hsame.state]
    exact hset
  · exact hsame.config.trans (hfold.same .config).symm
  · exact (storeNow_of_clock (t := before.lookedFirst lookFirst) (s := s.lookStore.setClock t.clock) h.looked_clock).trans
      (storeNow_of_clock (hfold.same .clock)).symm

/-- Where nothing gives the Event Store a record but the close. -/
theorem PeriodEnd.closeNotes (hset : s.agreement.state ≠ .unset) (hreading : s.advances.boundary = true ∨ s.advances.clock.now = s.clock.now)
    (hempty : before.schedule = []) (hcalm : CalmEnd s before (before.clockPeriod lookFirst) t) : StoreTakes s t (closeNotes s t) := by
  have hlook : before.lookedFirst lookFirst = before.setClock before.advances.clock := by
    unfold lookedFirst
    split
    · exact lookSchedule_of_young (headAhead_of_empty hempty)
    · rfl
  have hstore := h.closed_store hhanded hclosed hset (rs := []) (by rw [hlook]; exact hcalm.store)
  rw [List.nil_append] at hstore
  have hclocked := h.clocked hhanded hclosed
  obtain ⟨w, hw⟩ : ∃ w, w = (before.lookedFirst lookFirst).closeWork s.closeFigures := ⟨_, rfl⟩
  have hwframe : Frame [.agreement, .timeFrame, .store, .latch, .outputs, .tx] (before.lookedFirst lookFirst) w := hw ▸ closeWork_frame _ _
  have hbw : Frame [.clock, .schedule, .outputs, .store, .agreement, .timeFrame, .latch, .tx] before w :=
    ((lookedFirst_frame lookFirst before).mono).trans (hwframe.mono)
  rw [← hw] at hstore hclocked
  have hwclock : w.clock = t.clock := Eq.trans (hwframe.same .clock) h.looked_clock
  have hwschedule : w.schedule = [] := by
    have hl : (before.lookedFirst lookFirst).schedule = before.schedule := by rw [hlook]; rfl
    exact Eq.trans (hwframe.same .schedule) (hl.trans hempty)
  cases hboundary : s.advances.boundary with
  | true =>
    rw [hboundary, if_pos rfl] at hclocked
    refine storeTakes_of_boundary ((Eq.trans (hbw.same .config) h.same.config)) hwclock (Eq.trans (hbw.same .outbox) hcalm.outbox) ?_
      (hclocked ▸ hcalm.storeEnds)
    rw [lookSchedule_of_young (headAhead_of_empty (Eq.trans ((atBoundary_frame w).same .schedule) hwschedule)), ← hstore]
    exact (atBoundary_frame w).same .store
  | false =>
    have hnow : t.clock.now = s.clock.now := by
      rw [h.clock]
      exact hreading.resolve_left (by simp [hboundary])
    rw [hboundary, if_neg (by decide)] at hclocked
    rw [StoreTakes, hcalm.storeEnds, hclocked, hstore]
    have hsettled : (s.lookStore.setClock t.clock).lookStore.store = (s.lookStore.setClock t.clock).store := by
      refine Eq.trans (lookStore_store_congr (s := s.lookStore) rfl ?_ rfl) (lookStore_lookStore s)
      have hthanded : t.clock.handed = none := by
        rw [h.clock]
        exact (advances_kept hhanded).2
      rw [storeNow, storeNow, setClock_clock, hthanded, hnow]
      exact (congrArg (Option.getD · _) hhanded).symm
    exact (lookStore_foldl_takeRecord hsettled _).symm

end CloseNotes

end State

end Sys2Proof.Machine

/-! A period that ends with a round close, whichever command ends it (R3, R16, R26). -/

namespace Sys2Proof.Machine

set_option Elab.async false

open Safety

namespace State

/-! ### The status-change latch (R16) -/

/-- The latch and its mark are set. -/
def Latched (s : State) : Prop := s.tap.latch = true ∧ s.tap.setSinceTake = true

theorem Latched.of_frame {ps : List Part} {s t : State} (h : Latched s) (hframe : Frame ps s t) (hp : Part.latch ∉ ps := by decide) :
    Latched t := by
  obtain ⟨hlatch, hset⟩ := hframe.same .latch hp
  exact ⟨hlatch.trans h.1, hset.trans h.2⟩

theorem endQuash_latched {s : State} (h : Latched s) : Latched s.endQuash := by
  unfold endQuash
  split
  · exact h
  split_ifs
  · exact h
  · refine Latched.of_frame ?_ (refreshTx_frame _)
    next e _ _ _ =>
    have hreported : Latched (((s.setEngine none).setAccess
        { s.access with collisions := s.access.collisions + 1, yield := true }).reportCollided e.kind) :=
      Latched.of_frame (s := (s.setEngine none).setAccess
        { s.access with collisions := s.access.collisions + 1, yield := true }) h (reportCollided_frame _ _)
    unfold collisionEnd
    simp only
    split_ifs
    · rw [Latched, muteTx_tap]
      exact ⟨rfl, rfl⟩
    · exact hreported.of_frame (setTx_frame _ _)
  · exact h

theorem takeStarts_latched {s : State} (judged : LineTime) (h : Latched s) : Latched (s.takeStarts judged) := by
  have hrest : Frame [.tx, .monitor, .armsInFlight, .timeFrame, .eventsInFlight, .engine, .collisions, .events, .store, .outbox,
      .nextId, .filters] s.endQuash (s.takeStarts judged) := by
    refine Frame.trans ?_ ((acceptEdges_frame judged _).mono)
    exact ((refreshTx_frame _).mono).trans ((takeSlot_frame _).mono)
  exact (endQuash_latched h).of_frame hrest

theorem latched_named {s : State} (h : Latched (s.takeDue.countPeriod.clockPeriod false)) : Latched s.endPeriodNamed := by
  obtain ⟨k, hk⟩ : ∃ k, k = s.takeDue.countPeriod.clockPeriod false := ⟨_, rfl⟩
  rw [← hk] at h
  rw [endPeriodNamed, ← hk]
  exact (h.of_frame (reportAt_frame k _)).of_frame (markLate_frame _ s)

theorem latched_clockFirst {s : State} {lookFirst : Bool} (h : Latched (s.endsTaken.clockPeriod lookFirst)) :
    Latched (s.endPeriodClockFirst lookFirst) := by
  rw [endPeriodClockFirst_eq]
  obtain ⟨x, hx⟩ : ∃ x, x = s.endsTaken := ⟨_, rfl⟩
  rw [← hx] at h ⊢
  obtain ⟨w, -, hclocked, hstarted⟩ := clockThenStarts_starts lookFirst x
  refine Latched.of_frame ?_ (markLate_frame _ s)
  refine Latched.of_frame ?_ (reportAt_frame _ _)
  refine Latched.of_frame ?_ (countPeriod_frame _)
  exact (takeStarts_latched _ (h.of_frame hclocked)).of_frame hstarted

/-- A close that changes the agreement state sets the latch (R16). -/
theorem closeWork_latched {s : State} {k : CloseFigures} (h : (s.closeWork k).agreement.state ≠ s.agreement.state) :
    Latched (s.closeWork k) := by
  have hset : s.agreement.state ≠ .unset := by
    intro hunset
    obtain ⟨hstate, -⟩ := agreementIs_iff.1 (closeWork_transit s k)
    refine h (hstate.trans ?_)
    simp [transit, hunset]
  rcases closeWork_notes s k hset with ⟨hstate, -⟩ | ⟨-, -, htap, -⟩
  · exact absurd hstate h
  · rw [Latched, htap]
    exact ⟨rfl, rfl⟩

/-! ### A close -/

/-- What the end of a period with a close brings, whichever command it is taken by. -/
structure CloseTaken (s t : State) : Prop where
  frame : PeriodFrame s t
  notes : CloseNotes s t
  work : CloseWork s t
  clock : t.clock = s.advances.clock
  late : t.lateHandling = s.framer.ripe
  adjust : t.agreement.adjustCount = (noteCorrection s.agreement s.closeFigures.correction).adjustCount ∧
    t.agreement.lastAdjust = (noteCorrection s.agreement s.closeFigures.correction).lastAdjust
  counts : AgreementIs t (transit s.config.id s.closeFigures { s.agreement with clampCount := s.clampCountAfter s.closeFigures })
  latched : t.agreement.state ≠ s.agreement.state → Latched t

section CloseTaken

variable {s : State} (hhanded : s.clock.handed = none) (hclosed : s.advances.closed = true)

include hhanded hclosed

/-- Both courses of the end of a period come to a close in the same way. -/
theorem PeriodEnd.closeTaken {lookFirst : Bool} {before t : State} (h : PeriodEnd lookFirst s before t)
    (hreading : s.advances.boundary = true ∨ s.advances.clock.now = s.clock.now)
    (hpasses : NoSlotStart s → TimePasses s before (before.clockPeriod lookFirst) t)
    (hquiet : EngineYoung s → HeadAhead s → QuietEnd s before (before.clockPeriod lookFirst) t)
    (hcalm : Calm s → HeadAhead s → CalmEnd s before (before.clockPeriod lookFirst) t)
    (hlatched : Latched (before.clockPeriod lookFirst) → Latched t) : CloseTaken s t where
  frame := h.frame hhanded
  notes := fun calm hset hempty => h.closeNotes hhanded hclosed hset hreading
    ((hquiet (engineYoung_of_none calm.2.2.2) (headAhead_of_empty hempty)).schedule.trans hempty) (hcalm calm (headAhead_of_empty hempty))
  work := h.closeWork hhanded hclosed hpasses
  clock := h.clock
  late := by rw [h.late, hclosed, Bool.true_or, Bool.and_true]
  adjust := h.adjust hhanded hclosed
  counts := h.transit hhanded hclosed
  latched := fun hchanged => hlatched (by
    have hlooked : Frame [.clock, .schedule, .outputs, .store] before (before.lookedFirst lookFirst) := lookedFirst_frame _ _
    have hw : Latched ((before.lookedFirst lookFirst).closeWork s.closeFigures) := closeWork_latched (by
      rw [← (h.closed_same hhanded hclosed).state, h.looked_same.state]
      exact hchanged)
    rw [h.clocked hhanded hclosed]
    split
    · exact hw.of_frame (boundaryWork_frame _)
    · exact hw)

variable (hreading : s.advances.boundary = true ∨ s.advances.clock.now = s.clock.now)

include hreading

theorem closeTaken_named : CloseTaken s s.endPeriodNamed :=
  (periodEnd_named s).closeTaken hhanded hclosed hreading timePasses_named quietEnd_named calmEnd_named latched_named

theorem closeTaken_clockFirst (lookFirst : Bool) : CloseTaken s (s.endPeriodClockFirst lookFirst) :=
  (periodEnd_clockFirst lookFirst s).closeTaken hhanded hclosed hreading (timePasses_clockFirst lookFirst)
    (quietEnd_clockFirst lookFirst) (fun hcalm hhead => calmEnd_clockFirst lookFirst hcalm hhead hhanded) latched_clockFirst

end CloseTaken

theorem closing_reading {s : State} (h : ClosingNow s) : s.advances.boundary = true ∨ s.advances.clock.now = s.clock.now := by
  rw [advances_of_closing h, closeRound]
  split_ifs
  · exact .inl rfl
  · exact .inr rfl

/-! ### A command's own reading of the late handling -/

theorem storeTakes_inPeriod {s t : State} {rs : List EventRecord} (h : StoreTakes (inPeriod s) t rs) : StoreTakes s t rs := by
  have hswap : (inPeriod s).lookStore.setClock t.clock = (s.lookStore.setClock t.clock).setLateHandling false := rfl
  rw [StoreTakes, hswap, foldl_takeRecord_setLateHandling] at h
  exact h

theorem closeTaken_inPeriod {s t : State} (h : CloseTaken (inPeriod s) t) : CloseTaken s t where
  frame := h.frame
  notes := fun calm hset hempty => storeTakes_inPeriod (h.notes calm hset hempty)
  work := h.work
  clock := h.clock
  late := h.late
  adjust := h.adjust
  counts := h.counts
  latched := h.latched

theorem closeTaken_named_of_closing {s : State} (h : ClosingNow s) : CloseTaken s (inPeriod s).endPeriodNamed :=
  closeTaken_inPeriod (closeTaken_named (s := inPeriod s) (closing_handed h) (closed_of_closing (s := inPeriod s) h)
    (closing_reading (s := inPeriod s) h))

theorem closeTaken_clockFirst_of_closing {s : State} (lookFirst : Bool) (h : ClosingNow s) :
    CloseTaken s ((inPeriod s).endPeriodClockFirst lookFirst) :=
  closeTaken_inPeriod (closeTaken_clockFirst (s := inPeriod s) (closing_handed h) (closed_of_closing (s := inPeriod s) h)
    (closing_reading (s := inPeriod s) h) lookFirst)

end State

end Sys2Proof.Machine

/-! The round closes that bar an entry of the peer table, make one ABSENT, or change the agreement state (R18, R30 to R36). -/

namespace Sys2Proof.Machine

set_option Elab.async false

open Safety

open State

/-- A command that names what a close brings ends the period. -/
theorem exec_closes {s : State} {c : Instr} {due : State → Bool} {ends : State → State} (hheld : s.resetHeld = false)
    (hexec : exec c s = .next (s.unlessHeld fun s => if due s then ends s else s)) (hdue : due (inPeriod s) = true) :
    exec c s = .next (ends (inPeriod s)) := by
  rw [hexec, next_unlessHeld hheld, hdue]
  rfl

section ClosingNow

variable {s : State} (h : ClosingNow s)

include h

theorem closeDue_of_closing : (inPeriod s).closeDue = true := closed_of_closing (s := inPeriod s) h

end ClosingNow

theorem validStationId_of_range {peer : StationId} (hlow : 1 ≤ peer.toNat) (hhigh : peer.toNat ≤ 24) : validStationId peer = true := by
  simp [validStationId, hlow, hhigh]

theorem stationIx_val {peer : StationId} (hlow : 1 ≤ peer.toNat) (hhigh : peer.toNat ≤ 24) : (stationIx peer).val + 1 = peer.toNat := by
  simp only [stationIx, Fin.ofNat]
  omega

/-- Settles O14: the struck entry is the one the peer table names, and the close does its work on all of them. -/
theorem thirdStrikeBarsThePeer : Obligations.ThirdStrikeBarsThePeer := by
  intro s peer o h hlow hhigh hcontributes hlistening hoffset hstrikes hfar
  have htaken := closeTaken_named_of_closing h
  have hstrikesOut : (s.peerOf peer).strikesOut s.agreement.timeline s.config.stepLimit s.closeFigures.raw = true := by
    rw [Peer.strikesOut_iff, Agreement.timeline_of_founder hlistening, hoffset]
    exact ⟨hcontributes, Nat.le_of_eq hstrikes.symm, hfar⟩
  have hthird : thirdStrike s (stationIx peer) = true := (thirdStrike_eq s _).trans hstrikesOut
  have hexec : exec (.peerBarred peer) s = .next (inPeriod s).endPeriodNamed := by
    refine exec_closes (due := fun s => s.barringDue peer) h.1.1 rfl ?_
    rw [barringDue, closeDue_of_closing h, validStationId_of_range hlow hhigh]
    exact hstrikesOut
  refine ⟨_, hexec, htaken.frame, htaken.notes, htaken.work, ⟨stationIx peer, stationIx_val hlow hhigh, hthird⟩, ?_⟩
  have hpeer := (htaken.work.1 (stationIx peer) _ rfl).2.1 (Peer.contributes_live hcontributes) hthird
  have hthree : (s.peerOf peer).strikes + 1 = 3 := by rw [hstrikes]
  rw [← hthree]
  exact hpeer

/-- Settles O15. -/
theorem silentAndBarredPeersBecomeAbsent : Obligations.SilentAndBarredPeersBecomeAbsent := by
  intro s peer h hlow hhigh
  have htaken := closeTaken_named_of_closing h
  obtain ⟨-, -, hlivePeer, hbarredPeer⟩ := htaken.work.1 (stationIx peer) _ rfl
  refine ⟨fun hlive hheard hfresh hsilent => ?_, fun hbarred hcount => ?_⟩
  · have hout : (s.peerOf peer).strikesOut s.agreement.timeline s.config.stepLimit s.closeFigures.raw = false := by
      rw [Bool.eq_false_iff]
      intro hout
      obtain ⟨-, hfresh', -⟩ := (Peer.contributes_iff _ _).1 (Peer.strikesOut_iff.1 hout).1
      simp [hfresh] at hfresh'
    have hthird : thirdStrike s (stationIx peer) = false := (thirdStrike_eq s _).trans hout
    have hbarring : (inPeriod s).barringDue peer = false := by
      rw [barringDue, Bool.and_eq_false_iff]
      exact .inr hout
    refine ⟨_, exec_closes (due := fun s => s.silenceDue peer) h.1.1 rfl ?_, htaken.frame, htaken.notes, htaken.work,
      (hlivePeer hlive hthird).2.2 hheard (Nat.le_of_eq hsilent.symm)⟩
    have hlive' : ((inPeriod s).peerOf peer).state = .live := hlive
    have hheard' : ((inPeriod s).peerOf peer).heard = false := hheard
    have hsilent' : ((inPeriod s).peerOf peer).silent = 7 := hsilent
    simp [silenceDue, closeDue_of_closing h, validStationId_of_range hlow hhigh, hbarring, hlive', hheard', hsilent']
  · refine ⟨_, exec_closes (due := fun s => s.barredEndDue peer) h.1.1 rfl ?_, htaken.frame, htaken.notes, htaken.work,
      (hbarredPeer hbarred).2 (Nat.le_of_eq hcount)⟩
    have hbarred' : ((inPeriod s).peerOf peer).state = .barred := hbarred
    have hcount' : ((inPeriod s).peerOf peer).barred = 1 := hcount
    simp [barredEndDue, closeDue_of_closing h, validStationId_of_range hlow hhigh, hbarred', hcount']

/-! ### The changes of agreement state (2.5) -/

/-- The counts of the close that `t` comes from, in an acting state. -/
theorem counts_of_acting {s t : State} (htaken : CloseTaken s t) (hacting : Acting s) : AgreementIs t
    (transit s.config.id s.closeFigures { s.agreement with clampCount := s.clampsAfter s.closeFigures }) := by
  have h := htaken.counts
  rwa [clampCountAfter_of_acting hacting] at h

theorem clampsAfter_of_not_clamped {s : State} {k : CloseFigures} (h : k.clamped = false) : s.clampsAfter k = 0 :=
  if_neg (ne_true_of_eq_false h)

theorem clampDue_eq_false {s : State} (h : s.clampsAfter s.closeFigures ≤ 2) : s.clampDue = false := by
  by_cases hacting : Acting s
  · rw [clampDue, clampCountAfter_of_acting hacting, Bool.and_eq_false_iff, decide_eq_false_iff_not]
    exact .inr (by omega)
  · rw [clampDue, Bool.and_eq_false_iff, Bool.and_eq_false_iff]
    exact .inl (.inr (by rw [Bool.eq_false_iff, ne_eq, acting_iff]; exact hacting))

/-- Without a contributor no close is clamped (R28, R29). -/
theorem clamped_of_none {s : State} (h : s.closeFigures.offsets = []) : s.closeFigures.clamped = false := by
  have hraw : s.closeFigures.raw = rawCorrection s.closeFigures.offsets := rfl
  have hclamped : s.closeFigures.clamped = decide ((s.config.stepLimit : Int) < |s.closeFigures.raw|) := rfl
  rw [hclamped, hraw, h, show rawCorrection [] = 0 by decide]
  simp

theorem correction_of_none {s : State} (h : s.closeFigures.offsets = []) : s.closeFigures.correction = 0 := by
  have hraw : s.closeFigures.raw = rawCorrection s.closeFigures.offsets := rfl
  have hcorrection : s.closeFigures.correction = clampTo s.config.stepLimit s.closeFigures.raw := rfl
  rw [hcorrection, hraw, h, show rawCorrection [] = 0 by decide]
  exact clampTo_of_within (by simp)

/-- What a change of state leaves of the founder and the counts (R15). -/
theorem moved_of_entered {t : State} {a : Agreement} {new : AgreementState} (h : AgreementIs t (entered a new)) :
    t.agreement.state = new ∧ t.agreement.founder = a.founder ∧ t.agreement.listenCount = a.listenCount ∧
      t.agreement.clampCount = 0 ∧ t.agreement.progress = 0 ∧ t.agreement.lonelyCount = 0 ∧
      t.agreement.driftCount = if new = .adrift then 0 else a.driftCount := agreementIs_iff.1 h

/-- The latch of a close that moves the station to another state. -/
theorem latched_of_moved {s t : State} {new : AgreementState} (htaken : CloseTaken s t) (hnew : t.agreement.state = new)
    (hne : new ≠ s.agreement.state) : Latched t := htaken.latched (by rwa [hnew])

section Moves

variable {s t : State} (htaken : CloseTaken s t)

include htaken

/-- GATHERING goes to LOCKED at its second progress (R33). -/
theorem gathering_locked (hstate : s.agreement.state = .gathering) (hprogress : s.agreement.progress = 1)
    (hsome : s.closeFigures.offsets ≠ []) (hclamped : s.closeFigures.clamped = false) :
    AgreementIs t (entered { s.agreement with clampCount := 0 } .locked) := by
  have hcounts := counts_of_acting htaken (.inr (.inl hstate))
  rw [clampsAfter_of_not_clamped hclamped] at hcounts
  simpa [transit, hstate, hprogress, hsome, hclamped] using hcounts

/-- ALONE goes to LOCKED at a close with contributors and no clamp (R32). -/
theorem alone_locked (hstate : s.agreement.state = .alone) (hsome : s.closeFigures.offsets ≠ [])
    (hclamped : s.closeFigures.clamped = false) : AgreementIs t (entered { s.agreement with clampCount := 0 } .locked) := by
  have hcounts := counts_of_acting htaken (.inl hstate)
  rw [clampsAfter_of_not_clamped hclamped] at hcounts
  simpa [transit, hstate, hsome, hclamped] using hcounts

/-- GATHERING goes to ALONE at its fourth lonely close (R33). -/
theorem gathering_alone (hstate : s.agreement.state = .gathering) (hlonely : s.agreement.lonelyCount = 3)
    (hnone : s.closeFigures.offsets = []) : AgreementIs t (entered { s.agreement with clampCount := 0 } .alone) := by
  have hcounts := counts_of_acting htaken (.inr (.inl hstate))
  rw [clampsAfter_of_not_clamped (clamped_of_none hnone)] at hcounts
  simpa [transit, hstate, hlonely, hnone] using hcounts

/-- LOCKED goes to ALONE at its eighth lonely close (R34). -/
theorem locked_alone (hstate : s.agreement.state = .locked) (hlonely : s.agreement.lonelyCount = 7)
    (hnone : s.closeFigures.offsets = []) : AgreementIs t (entered { s.agreement with clampCount := 0 } .alone) := by
  have hcounts := counts_of_acting htaken (.inr (.inr hstate))
  rw [clampsAfter_of_not_clamped (clamped_of_none hnone)] at hcounts
  simpa [transit, hstate, hlonely, hnone] using hcounts

/-- The third clamped close in a row takes an acting state to ADRIFT (R36). -/
theorem acting_adrift (hacting : Acting s) (hcount : s.agreement.clampCount = 2) (hclamped : s.closeFigures.clamped = true) :
    AgreementIs t (entered { s.agreement with clampCount := 3 } .adrift) := by
  have hcounts := counts_of_acting htaken hacting
  have hthree : s.clampsAfter s.closeFigures = 3 := by rw [clampsAfter, if_pos hclamped, hcount]
  rw [hthree] at hcounts
  have hacting' : s.agreement.state = .alone ∨ s.agreement.state = .gathering ∨ s.agreement.state = .locked := hacting
  rwa [transit, if_pos ⟨hacting', Nat.le_refl _⟩] at hcounts

/-- The sixteenth close in ADRIFT founds the station's own timeline (R35). -/
theorem adrift_alone (hstate : s.agreement.state = .adrift) (hcount : s.agreement.driftCount = 15) :
    AgreementIs t (entered { s.agreement with driftCount := 0, founder := some s.config.id } .alone) := by
  have hcounts := htaken.counts
  rw [clampCountAfter_of_not_acting (by simp [Acting, hstate])] at hcounts
  simpa [transit, hstate, hcount] using hcounts

/-- The close that ends the listen period founds the station's own timeline (R18). -/
theorem listening_alone (hstate : s.agreement.state = .listening) (hcount : s.agreement.listenCount = 1) :
    AgreementIs t (entered { s.agreement with listenCount := 0, founder := some s.config.id } .alone) := by
  have hcounts := htaken.counts
  rw [clampCountAfter_of_not_acting (by simp [Acting, hstate])] at hcounts
  simpa [transit, hstate, hcount] using hcounts

end Moves

/-- Settles O17: each change is the transition of the close in its state, and the latch follows a change of state. -/
theorem gatheringAndLockedMoveOnAtCloses : Obligations.GatheringAndLockedMoveOnAtCloses := by
  refine ⟨fun s h hstate hprogress hsome hclamped => ?_, fun s h hstate hsome hclamped => ?_,
    fun s h hnone => ⟨fun hstate hlonely => ?_, fun hstate hlonely => ?_⟩⟩
  · have htaken := closeTaken_named_of_closing h
    obtain ⟨hnew, hfounder, -, hclamp, hprogress', hlonely, -⟩ := moved_of_entered (gathering_locked htaken hstate hprogress hsome hclamped)
    refine ⟨_, exec_closes (due := progressDue) h.1.1 rfl ?_, htaken.frame, htaken.notes, htaken.work, hnew, hfounder, hclamp,
      hprogress', hlonely, (latched_of_moved htaken hnew (by rw [hstate]; decide)).1⟩
    have hdue := clampDue_eq_false (s := inPeriod s) (Nat.le_trans (Nat.le_of_eq (clampsAfter_of_not_clamped hclamped)) (by decide))
    have hfigures : (inPeriod s).closeFigures = s.closeFigures := rfl
    have hclamped' : s.closeFigures.clamped = false := hclamped
    have hsome' : s.closeFigures.offsets ≠ [] := hsome
    simp [progressDue, closeDue_of_closing h, hdue, hfigures, hstate, hprogress, hclamped', hsome']
  · have htaken := closeTaken_clockFirst_of_closing true h
    obtain ⟨hnew, hfounder, -, hclamp, hprogress', hlonely, -⟩ := moved_of_entered (alone_locked htaken hstate hsome hclamped)
    exact ⟨_, exec_closes (due := closeDue) h.1.1 rfl (closeDue_of_closing h), htaken.frame, htaken.notes, htaken.work, hnew, hfounder,
      hclamp, hprogress', hlonely, (latched_of_moved htaken hnew (by rw [hstate]; decide)).1⟩
  · have htaken := closeTaken_named_of_closing h
    obtain ⟨hnew, hfounder, -, hclamp, hprogress', hlonely', -⟩ := moved_of_entered (gathering_alone htaken hstate hlonely hnone)
    refine ⟨_, exec_closes (due := gatheringLonelyDue) h.1.1 rfl ?_, htaken.frame, htaken.notes, htaken.work, hnew, hfounder, hlonely',
      hprogress', (latched_of_moved htaken hnew (by rw [hstate]; decide)).1⟩
    have hdue := clampDue_eq_false (s := inPeriod s)
      (Nat.le_trans (Nat.le_of_eq (clampsAfter_of_not_clamped (clamped_of_none (s := s) hnone))) (by decide))
    have hnone' : (inPeriod s).closeFigures.offsets = [] := hnone
    simp [gatheringLonelyDue, closeDue_of_closing h, hdue, hstate, hlonely, hnone']
  · have htaken := closeTaken_named_of_closing h
    obtain ⟨hnew, hfounder, -, hclamp, hprogress', hlonely', -⟩ := moved_of_entered (locked_alone htaken hstate hlonely hnone)
    refine ⟨_, exec_closes (due := lockedLonelyDue) h.1.1 rfl ?_, htaken.frame, htaken.notes, htaken.work, hnew, hfounder, hlonely',
      (latched_of_moved htaken hnew (by rw [hstate]; decide)).1⟩
    have hdue := clampDue_eq_false (s := inPeriod s)
      (Nat.le_trans (Nat.le_of_eq (clampsAfter_of_not_clamped (clamped_of_none (s := s) hnone))) (by decide))
    have hnone' : (inPeriod s).closeFigures.offsets = [] := hnone
    simp [lockedLonelyDue, closeDue_of_closing h, hdue, hstate, hlonely, hnone']

/-! ### The end of the listen period (R18) -/

/-- A LISTENING station has no contributors (R26). -/
theorem offsets_of_listening {s : State} (h : s.agreement.state = .listening) : s.closeFigures.offsets = [] := by
  have htimeline : s.agreement.timeline = none := if_pos h
  have hoffsets : s.closeFigures.offsets =
      (s.agreement.peers.toList.filter (Peer.contributes s.agreement.timeline)).map fun p => p.offset.getD 0 := rfl
  have hnone : s.agreement.peers.toList.filter (Peer.contributes s.agreement.timeline) = [] := by
    refine List.filter_eq_nil_iff.2 fun p _ hp => ?_
    obtain ⟨-, -, -, -, f, -, hf⟩ := (Peer.contributes_iff _ p).1 hp
    simp [htimeline] at hf
  rw [hoffsets, hnone]
  rfl

theorem advances_of_listening {s : State} (h : ClosingNow s) (hlistening : s.agreement.state = .listening) :
    s.advances.clock = { s.clock with
      pace := s.clock.pace + s.clock.trim.natAbs, trim := max (-200) (min 200 s.clock.trim)
      now := ⟨s.clock.now.round + 1, 0⟩ } := by
  rw [advances_of_closing h, correction_of_none (offsets_of_listening hlistening), closeRound_forward (Int.le_refl 0)]
  simp [paced, trimAfter, Config.trimLimit]

namespace State

theorem boundaryWork_idle {s : State} (h : s.access.tx = .idle) : s.boundaryWork.access.tx = .idle := by
  have hmute : (s.mapOutputs fun c o => o.boundary c s.now.round).muteBoundary = s.mapOutputs fun c o => o.boundary c s.now.round :=
    if_neg (by simp [mapOutputs, h])
  have hrest : Frame [.outputs, .schedule, .store, .outbox, .filters] s s.boundaryWork := by
    rw [boundaryWork, hmute]
    refine Frame.trans ?_ ((lookStore_frame _).mono)
    refine Frame.trans ?_ ((expireArms_frame _).mono)
    refine Frame.trans ?_ ((endPulses_frame _).mono)
    exact ((mapOutputs_frame s _).mono).trans ((lookSchedule_frame _).mono)
  exact (hrest.same .tx).1.trans h

/-- A transmitter that is OFF comes to the Line Clock's part as it is, and the own TIME frame with it. -/
theorem before_of_off {s : State} (hyoung : EngineYoung s) (hoff : s.access.tx = .off) :
    s.takeDue.countPeriod.access.tx = .off ∧ s.takeDue.countPeriod.agreement.timeFrame = s.agreement.timeFrame := by
  have hlooks := looksSampled_frame s
  obtain ⟨q, hq⟩ : ∃ q, q = s.sampleInputs.takeLooks := ⟨_, rfl⟩
  rw [← hq] at hlooks
  have hqyoung := hyoung.of_frame hlooks
  have hline := takeEnds_frame_of_young hqyoung
  obtain ⟨x, hx⟩ : ∃ x, x = q.takeEnds := ⟨_, rfl⟩
  have hdue : s.takeDue = x.takeStarts q.storeNow := by rw [takeDue, takeLine, ← hq, hx]
  rw [← hx] at hline
  have hxoff : x.access.tx = .off := (hline.same .tx).1.trans ((hlooks.same .tx).1.trans hoff)
  have hreport : x.refreshTx.access.tx = .off := (reportAt_tx _ (by simp [hxoff]) (by simp [hxoff])).trans hxoff
  have hrest : Frame [.monitor, .events, .store, .outbox, .nextId, .filters, .symbol, .silence, .ripe, .engine, .sampled]
      x.refreshTx s.takeDue.countPeriod := by
    rw [hdue, takeStarts_eq_of_young _ (hqyoung.of_frame hline)]
    refine Frame.trans ?_ ((countPeriod_frame _).mono)
    exact ((takeSlot_frame_of_not_waiting (by simp [hreport])).mono).trans ((acceptEdges_frame _ _).mono)
  refine ⟨(hrest.same .tx).1.trans hreport, ?_⟩
  exact (Eq.trans (hrest.same .timeFrame) ((refreshTx_frame x).same .timeFrame)).trans
    (Eq.trans (hline.same .timeFrame) (hlooks.same .timeFrame))

/-- A close that founds the station's timeline takes the transmitter out of OFF, and its own TIME frame is the content that it waits
with (R38, R143). -/
theorem founded_waits {s : State} (hhanded : s.clock.handed = none) (hclosed : s.advances.closed = true) (hyoung : EngineYoung s)
    (hoff : s.access.tx = .off) (hidle : s.agreement.timeFrame = .idle) (hset : s.agreement.state ≠ .unset)
    (hfounded : s.endPeriodNamed.agreement.state = .alone) (hmoved : s.agreement.state ≠ .alone) :
    s.endPeriodNamed.agreement.timeFrame = .pending ∧ s.endPeriodNamed.access.tx = .waiting := by
  have h := periodEnd_named s
  obtain ⟨hbefore, htime⟩ := before_of_off hyoung hoff
  have hmarked := h.marked hhanded hclosed
  have hclocked := h.clocked hhanded hclosed
  obtain ⟨b, hb⟩ : ∃ b, b = s.takeDue.countPeriod := ⟨_, rfl⟩
  obtain ⟨k, hk⟩ : ∃ k, k = b.clockPeriod false := ⟨_, rfl⟩
  have hends : s.endPeriodNamed = (k.reportAt s.now).markLate s := by rw [hk, hb, endPeriodNamed]
  have hclosedSame := h.closed_same hhanded hclosed
  have hlookedSame := h.looked_same
  rw [if_pos (by rw [Bool.or_eq_true, acting_iff]; exact .inl (.inl hfounded)), ← hb, ← hk] at hmarked
  rw [← hb] at hbefore htime hclosedSame hlookedSame hclocked
  rw [← hk] at hclocked
  have hkpending : k.agreement.timeFrame = .pending := by rw [hmarked, htime, hidle]; rfl
  obtain ⟨l, hl⟩ : ∃ l, l = b.lookedFirst false := ⟨_, rfl⟩
  have hloff : l.access.tx = .off := (((hl ▸ lookedFirst_frame false b).same .tx).1).trans hbefore
  rw [← hl] at hclosedSame hlookedSame hclocked
  have hwalone : (l.closeWork s.closeFigures).agreement.state = .alone := hclosedSame.state.symm.trans hfounded
  have hwidle : (l.closeWork s.closeFigures).access.tx = .idle := by
    rcases closeWork_notes l s.closeFigures (hlookedSame.state ▸ hset) with ⟨hstate, -⟩ | ⟨-, -, -, -, haccess⟩
    · exact absurd (hlookedSame.state.symm.trans (hstate.symm.trans hwalone)) hmoved
    · rw [haccess, if_pos ⟨hloff, hwalone⟩]
  have hkidle : k.access.tx = .idle := by
    rw [hclocked]
    split
    · exact boundaryWork_idle hwidle
    · exact hwidle
  have hreport := reportAt_eq k s.now
  rw [hends]
  have hclassB : k.classB = true := (classB_eq_true_iff k).2 (.inl hkpending)
  refine ⟨Eq.trans ((reportAt_frame k _).same .timeFrame) hkpending, ?_⟩
  have htx : ((k.reportAt s.now).markLate s).access.tx = (k.reportAt s.now).access.tx := rfl
  rw [htx, hreport]
  simp [hkidle, hclassB]

end State

/-- Settles O16. -/
theorem listenPeriodEndsInAlone : Obligations.ListenPeriodEndsInAlone := by
  intro s h hstate hcount hidle hengine hoff
  have htaken := closeTaken_named_of_closing h
  obtain ⟨hnew, hfounder, hlisten, hclamp, hprogress, hlonely, -⟩ := moved_of_entered (listening_alone htaken hstate hcount)
  obtain ⟨hpending, hwaiting⟩ := founded_waits (s := inPeriod s) (closing_handed h) (closed_of_closing (s := inPeriod s) h)
    (engineYoung_of_none hengine) hoff hidle (by simp [hstate]) hnew (by simp [hstate])
  have hclock := advances_of_listening h hstate
  obtain ⟨hlatch, hset⟩ := latched_of_moved htaken hnew (by rw [hstate]; decide)
  refine ⟨_, exec_closes (due := listenEndDue) h.1.1 rfl ?_, htaken.frame, htaken.notes, htaken.work, hnew, hfounder, hlisten, hclamp,
    hprogress, hlonely, ?_, hpending, ?_, ?_, hwaiting, hlatch, hset⟩
  · simp [listenEndDue, closeDue_of_closing h, hstate, hcount]
  · rw [htaken.adjust.1, correction_of_none (offsets_of_listening hstate)]
    rfl
  · rw [htaken.clock, hclock]
  · rw [htaken.clock, hclock]

end Sys2Proof.Machine

/-! An entry of the Schedule that falls due at the reading of a round close, and the outputs there (R72, R76, R79, R81 to R85). -/

namespace Sys2Proof.Machine

set_option Elab.async false

open Safety

/-! ### One output at a boundary -/

theorem Output.boundary_of_not_acting {c : OutputConfig} {round : Round} {o : Output} (h : o.condition ≠ .acting) :
    o.boundary c round = o := if_neg fun h' => h h'.2.1

theorem Output.boundary_of_mode {c : OutputConfig} {round : Round} {o : Output} (h : c.mode ≠ .round) : o.boundary c round = o :=
  if_neg fun h' => h h'.1

theorem Output.boundary_pulseEnd (c : OutputConfig) (round : Round) (o : Output) : (o.boundary c round).pulseEnd = o.pulseEnd := by
  unfold Output.boundary
  split <;> rfl

theorem Output.boundary_condition (c : OutputConfig) (round : Round) (o : Output) : (o.boundary c round).condition = o.condition := by
  unfold Output.boundary
  split <;> rfl

namespace State

/-! ### The outputs of a station in ADRIFT (R76, R79) -/

theorem foldl_takeEntry_outputs_of_adrift (es : List ScheduleEntry) {s : State} (h : s.agreement.state = .adrift) :
    (es.foldl takeEntry s).outputs = s.outputs := by
  induction es generalizing s with
  | nil => rfl
  | cons e es ih =>
    have hnote := entryNote_frame s .missed e
    rw [List.foldl_cons, takeEntry_of_adrift h]
    exact (ih (hnote.agreement_state.trans h)).trans (hnote.same .outputs)

/-- In ADRIFT no entry reaches its output. -/
theorem lookSchedule_outputs_of_adrift {s : State} (h : s.agreement.state = .adrift) : s.lookSchedule.outputs = s.outputs := by
  unfold lookSchedule
  split
  · exact foldl_takeEntry_outputs_of_adrift _ (s := s.setSchedule (s.schedule.dropWhile s.entryReached)) h
  · rfl

/-- A close outside UNSET makes the outputs SAFE where it enters ADRIFT, and touches them nowhere else (R79). -/
theorem closeWork_outputs {s : State} (k : CloseFigures) (hset : s.agreement.state ≠ .unset) : (s.closeWork k).outputs =
    if (s.closeWork k).agreement.state = .adrift ∧ s.agreement.state ≠ .adrift then s.safeOutputs.outputs else s.outputs := by
  rcases closeWork_notes s k hset with ⟨hstate, -, -, houtputs, -⟩ | ⟨hstate, -, -, houtputs, -⟩
  · rw [houtputs, if_neg fun h => h.2 (hstate.symm.trans h.1)]
  · rw [houtputs]
    refine if_congr ⟨fun h => ⟨h, fun h' => hstate (h.trans h'.symm)⟩, fun h => h.1⟩ rfl rfl

theorem safeOutputs_output (s : State) (i : Fin 8) : s.safeOutputs.outputs[i] = ⟨.safe, (s.config.outputs[i]).safeActive, none, none⟩ := by
  rw [safeOutputs, mapOutputs]
  simp [Output.safe]

/-- A boundary in ADRIFT leaves an output that is SAFE as it is. -/
theorem boundaryWork_safe {s : State} {i : Fin 8} (hadrift : s.agreement.state = .adrift) (hsafe : (s.outputs[i]).condition = .safe)
    (hpulse : (s.outputs[i]).pulseEnd = none) : s.boundaryWork.outputs[i] = s.outputs[i] := by
  have hlook := lookSchedule_outputs_of_adrift (s := s.atBoundary) ((atBoundary_frame s).agreement_state.trans hadrift)
  have hbound : s.atBoundary.outputs[i] = s.outputs[i] :=
    (atBoundary_output s i).trans (Output.boundary_of_not_acting fun h' => absurd (hsafe.symm.trans h') (by decide))
  rw [boundaryWork_outputs, endPulses_output, hlook, hbound, Output.endPulse_of_none hpulse]

/-- In either course of a period the outputs are as the Line Clock's part leaves them. -/
theorem outputs_clockFirst (lookFirst : Bool) (s : State) :
    (s.endPeriodClockFirst lookFirst).outputs = (s.endsTaken.clockPeriod lookFirst).outputs := by
  rw [endPeriodClockFirst_eq]
  obtain ⟨x, hx⟩ : ∃ x, x = s.endsTaken := ⟨_, rfl⟩
  rw [← hx]
  obtain ⟨w, -, hclocked, hstarted⟩ := clockThenStarts_starts lookFirst x
  have hstarts : Frame [.engine, .collisions, .tx, .outbox, .armsInFlight, .filters, .store, .timeFrame, .eventsInFlight, .latch,
      .monitor, .events, .nextId] w (w.takeStarts x.storeNow) := by
    refine Frame.trans ?_ ((acceptEdges_frame _ _).mono)
    refine Frame.trans ?_ ((takeSlot_frame _).mono)
    exact ((endQuash_frame w).mono).trans ((refreshTx_frame _).mono)
  have hended : ((((x.clockThenStarts lookFirst).countPeriod).reportAt s.now).markLate s).outputs =
      (x.clockThenStarts lookFirst).outputs :=
    (Eq.trans ((markLate_frame _ s).same .outputs) ((reportAt_frame _ _).same .outputs)).trans ((countPeriod_frame _).same .outputs)
  exact hended.trans ((Eq.trans (hstarted.same .outputs) (hstarts.same .outputs)).trans (hclocked.same .outputs))

section Closed

variable {lookFirst : Bool} {s before t : State} (h : PeriodEnd lookFirst s before t) (hhanded : s.clock.handed = none)
  (hclosed : s.advances.closed = true)

include h hhanded hclosed

/-- A close that finds a station in UNSET leaves it there. -/
theorem PeriodEnd.set_of_set (hset : t.agreement.state ≠ .unset) : s.agreement.state ≠ .unset := by
  intro hunset
  obtain ⟨hstate, -⟩ := agreementIs_iff.1 (h.transit hhanded hclosed)
  refine hset (hstate.trans ?_)
  simp [State.transit, hunset]

/-- A close that enters ADRIFT leaves every output SAFE, an entry due at its reading or not (R79). -/
theorem PeriodEnd.outputs_of_adrift (hadrift : t.agreement.state = .adrift) (hentered : s.agreement.state ≠ .adrift) (i : Fin 8) :
    (before.clockPeriod lookFirst).outputs[i] = ⟨.safe, (s.config.outputs[i]).safeActive, none, none⟩ := by
  have hlooked := h.looked_same
  have hclosedSame := h.closed_same hhanded hclosed
  have hset : s.agreement.state ≠ .unset := h.set_of_set hhanded hclosed (by simp [hadrift])
  rw [h.clocked hhanded hclosed]
  obtain ⟨l, hl⟩ : ∃ l, l = before.lookedFirst lookFirst := ⟨_, rfl⟩
  rw [← hl] at hlooked hclosedSame ⊢
  have hwstate : (l.closeWork s.closeFigures).agreement.state = .adrift := hclosedSame.state.symm.trans hadrift
  have houtputs := closeWork_outputs (s := l) s.closeFigures (by rw [hlooked.state]; exact hset)
  rw [if_pos ⟨hwstate, by rw [hlooked.state]; exact hentered⟩] at houtputs
  obtain ⟨w, hw⟩ : ∃ w, w = l.closeWork s.closeFigures := ⟨_, rfl⟩
  rw [← hw] at hwstate houtputs ⊢
  have hsafe : w.outputs[i] = ⟨.safe, (s.config.outputs[i]).safeActive, none, none⟩ := by
    rw [houtputs, safeOutputs_output, hlooked.config]
  split
  · rw [boundaryWork_safe hwstate (by rw [hsafe]) (by rw [hsafe]), hsafe]
  · exact hsafe

/-! ### An entry that the reading of a close reaches (R72, R73, R76) -/

/-- `e` is the head of the Schedule, and the boundary at the end of the period is the first reading to reach it, and reaches none
behind it. -/
structure EntryDue (s : State) (e : ScheduleEntry) (rest : List ScheduleEntry) : Prop where
  boundary : s.advances.boundary = true
  schedule : s.schedule = e :: rest
  ahead : earlier s.len s.clock.now e.due = true
  reached : earlier s.len s.advances.clock.now e.due = false
  next : ∀ x ∈ rest.head?, earlier s.len s.advances.clock.now x.due = true

omit h hhanded hclosed in
theorem EntryDue.headAhead {e : ScheduleEntry} {rest : List ScheduleEntry} (he : EntryDue s e rest) : HeadAhead s := by
  intro x hx
  rw [he.schedule] at hx
  obtain rfl : e = x := by simpa using hx
  exact he.ahead

variable {e : ScheduleEntry} {rest : List ScheduleEntry} (he : EntryDue s e rest)
  (hquiet : QuietEnd s before (before.clockPeriod lookFirst) t)

/-- The close comes before the Schedule's look at its reading. -/
def ClosesFirst (lookFirst : Bool) (before : State) : Prop :=
  before.lookedFirst lookFirst = before.setClock before.advances.clock

include he hquiet

/-- The station that the close leaves, and the look of its Schedule at the boundary. -/
theorem PeriodEnd.entry_taken (hfirst : ClosesFirst lookFirst before) (hstate : Acting t ∨ t.agreement.state = .adrift) :
    ∃ w, SameAgreement w t ∧ w.clock = t.clock ∧ w.config = s.config ∧
      w = (before.setClock before.advances.clock).closeWork s.closeFigures ∧
      before.clockPeriod lookFirst = w.boundaryWork ∧
      w.atBoundary.lookSchedule = (w.atBoundary.setSchedule rest).takeEntry e := by
  have hclosedSame := h.closed_same hhanded hclosed
  have hclocked := h.clocked hhanded hclosed
  have hlclock := h.looked_clock
  rw [he.boundary, if_pos rfl] at hclocked
  rw [ClosesFirst] at hfirst
  rw [hfirst] at hclosedSame hclocked hlclock
  obtain ⟨w, hw⟩ : ∃ w, w = (before.setClock before.advances.clock).closeWork s.closeFigures := ⟨_, rfl⟩
  rw [← hw] at hclosedSame hclocked ⊢
  have hbw : Frame [.clock, .agreement, .timeFrame, .store, .latch, .outputs, .tx] before w :=
    hw ▸ ((setClock_frame before _).mono).trans ((closeWork_frame _ _).mono)
  have hwclock : w.clock = t.clock := by
    rw [hw, closeWork_clock]
    exact hlclock
  have hwconfig : w.config = s.config := Eq.trans (hbw.same .config) h.same.config
  have hbound := atBoundary_frame w
  have hbclock : w.atBoundary.clock = w.clock := hbound.same .clock
  have hbconfig : w.atBoundary.config = s.config := Eq.trans (hbound.same .config) hwconfig
  have hlen : w.atBoundary.len = s.len := by rw [len, hbconfig]; rfl
  have hnow : w.atBoundary.now = s.advances.clock.now := by rw [now, hbclock, hwclock, h.clock]
  refine ⟨w, hclosedSame, hwclock, hwconfig, rfl, hclocked, lookSchedule_one ?_ ?_ ?_ ?_⟩
  · have hwt : w.atBoundary.agreement.state = t.agreement.state := hbound.agreement_state.trans hclosedSame.state.symm
    rw [acting_of_agreement hwt, hwt]
    exact hstate
  · exact (Eq.trans (hbound.same .schedule) (hbw.same .schedule)).trans (hquiet.schedule.trans he.schedule)
  · rw [hlen, hnow]
    exact he.reached
  · rw [hlen, hnow]
    exact he.next

theorem PeriodEnd.entry_schedule (hfirst : ClosesFirst lookFirst before) (hstate : Acting t ∨ t.agreement.state = .adrift) :
    t.schedule = rest := by
  obtain ⟨w, -, -, -, -, hclocked, hlook⟩ := h.entry_taken hhanded hclosed he hquiet hfirst hstate
  rw [hquiet.scheduleEnds, hclocked, boundaryWork_schedule, hlook]
  exact (takeEntry_frame (w.atBoundary.setSchedule rest) e).same .schedule

theorem PeriodEnd.entry_notes (hfirst : ClosesFirst lookFirst before) (hstate : Acting t ∨ t.agreement.state = .adrift)
    (hcalm : CalmEnd s before (before.clockPeriod lookFirst) t) : StoreTakes s t (Safety.closeNotes s t ++ dueNotes t t e) := by
  obtain ⟨w, hsame, hwclock, hwconfig, hw, hclocked, hlook⟩ := h.entry_taken hhanded hclosed he hquiet hfirst hstate
  have hset : s.agreement.state ≠ .unset := h.set_of_set hhanded hclosed (by
    rcases hstate with (h' | h' | h') | h' <;> simp [h'])
  have hstore := h.closed_store hhanded hclosed hset (rs := []) (by rw [hfirst]; exact hcalm.store)
  rw [hfirst, ← hw, List.nil_append] at hstore
  have hbw : Frame [.clock, .agreement, .timeFrame, .store, .latch, .outputs, .tx] before w :=
    hw ▸ ((setClock_frame before _).mono).trans ((closeWork_frame _ _).mono)
  obtain ⟨b, hb⟩ : ∃ b, b = w.atBoundary.setSchedule rest := ⟨_, rfl⟩
  have hwb : Frame [.outputs, .tx, .collisions, .schedule] w b := hb ▸ ((atBoundary_frame w).mono).trans ((setSchedule_frame _ _).mono)
  have hbstate : b.agreement.state = t.agreement.state := hwb.agreement_state.trans hsame.state.symm
  have hnotes : dueNotes b b e = dueNotes t t e := dueNotes_congr hbstate ((Eq.trans (hwb.same .config) hsame.config.symm))
    (Eq.trans (hwb.same .clock) hwclock) e
  have hfold := Frame.foldl takeRecord_frame (Safety.closeNotes s t) (s.lookStore.setClock t.clock)
  refine storeTakes_of_boundary hwconfig hwclock (Eq.trans (hbw.same .outbox) hcalm.outbox) ?_ (hclocked ▸ hcalm.storeEnds)
  rw [hlook, ← hb, takeEntry_store (by rw [acting_of_agreement hbstate, hbstate]; exact hstate), hnotes, List.foldl_append]
  refine foldl_takeRecord_set_congr ?_ ?_ ?_ ?_ ?_ _
  · rw [hfold.agreement]
    exact hset
  · rw [hbstate]
    rcases hstate with (h' | h' | h') | h' <;> simp [h']
  · exact ((Eq.trans (hwb.same .config) hwconfig)).trans (hfold.same .config).symm
  · exact (storeNow_of_clock (s := s.lookStore.setClock t.clock) (Eq.trans (hwb.same .clock) hwclock)).trans
      (storeNow_of_clock (hfold.same .clock)).symm
  · exact (Eq.trans (hwb.same .store) hstore)

omit hhanded hclosed in
/-- Where the close enters or leaves ADRIFT, ROUND_CLOSE looks at the Schedule first (R76, log 9). -/
theorem PeriodEnd.entry_looked (hlooks : before.lookedFirst lookFirst = (before.setClock before.advances.clock).lookSchedule)
    (hstate : Acting s ∨ s.agreement.state = .adrift) :
    before.lookedFirst lookFirst = ((before.setClock before.advances.clock).setSchedule rest).takeEntry e := by
  obtain ⟨a, ha⟩ : ∃ a, a = before.setClock before.advances.clock := ⟨_, rfl⟩
  rw [hlooks, ← ha]
  have hframe : Frame [.clock] before a := ha ▸ setClock_frame before _
  have hastate : a.agreement.state = s.agreement.state := hframe.agreement_state.trans h.same.state
  have hnow : a.now = s.advances.clock.now := by
    rw [ha, ← h.advances]
    rfl
  have hlen : a.len = s.len := by
    rw [len, Eq.trans (hframe.same .config) h.same.config]
    rfl
  refine lookSchedule_one ?_ (Eq.trans (hframe.same .schedule) (hquiet.schedule.trans he.schedule)) ?_ ?_
  · rw [acting_of_agreement hastate, hastate]
    exact hstate
  · rw [hlen, hnow]
    exact he.reached
  · rw [hlen, hnow]
    exact he.next

/-- The station that the close leaves then, whose Schedule has nothing left to take at the boundary. -/
theorem PeriodEnd.entry_left (hlooks : before.lookedFirst lookFirst = (before.setClock before.advances.clock).lookSchedule)
    (hstate : Acting s ∨ s.agreement.state = .adrift) : ∃ w, w = (before.lookedFirst lookFirst).closeWork s.closeFigures ∧
      SameAgreement w t ∧ w.clock = t.clock ∧ w.config = s.config ∧ w.schedule = rest ∧
      before.clockPeriod lookFirst = w.boundaryWork ∧ w.atBoundary.lookSchedule = w.atBoundary := by
  have hclosedSame := h.closed_same hhanded hclosed
  have hclocked := h.clocked hhanded hclosed
  have hlclock := h.looked_clock
  have hlsame := h.looked_same
  have hlooked := h.entry_looked he hquiet hlooks hstate
  rw [he.boundary, if_pos rfl] at hclocked
  obtain ⟨l, hl⟩ : ∃ l, l = before.lookedFirst lookFirst := ⟨_, rfl⟩
  rw [← hl] at hclosedSame hclocked hlclock hlooked hlsame ⊢
  have hlschedule : l.schedule = rest := by
    rw [hlooked]
    exact (takeEntry_frame _ e).same .schedule
  obtain ⟨w, hw⟩ : ∃ w, w = l.closeWork s.closeFigures := ⟨_, rfl⟩
  rw [← hw] at hclosedSame hclocked ⊢
  have hlw : Frame [.agreement, .timeFrame, .store, .latch, .outputs, .tx] l w := hw ▸ closeWork_frame _ _
  have hwclock : w.clock = t.clock := Eq.trans (hlw.same .clock) hlclock
  have hwconfig : w.config = s.config := Eq.trans (hlw.same .config) hlsame.config
  have hwschedule : w.schedule = rest := Eq.trans (hlw.same .schedule) hlschedule
  refine ⟨w, rfl, hclosedSame, hwclock, hwconfig, hwschedule, hclocked, lookSchedule_of_young fun x hx => ?_⟩
  have hbound := atBoundary_frame w
  have hlen : w.atBoundary.len = s.len := by
    rw [len, Eq.trans (hbound.same .config) hwconfig]
    rfl
  have hnow : w.atBoundary.now = s.advances.clock.now := by
    rw [now, Eq.trans (hbound.same .clock) hwclock, h.clock]
  rw [Eq.trans (hbound.same .schedule) hwschedule] at hx
  rw [hlen, hnow]
  exact he.next x hx

theorem PeriodEnd.entry_first_schedule
    (hlooks : before.lookedFirst lookFirst = (before.setClock before.advances.clock).lookSchedule)
    (hstate : Acting s ∨ s.agreement.state = .adrift) : t.schedule = rest := by
  obtain ⟨w, -, -, -, -, hwschedule, hclocked, hlook⟩ := h.entry_left hhanded hclosed he hquiet hlooks hstate
  rw [hquiet.scheduleEnds, hclocked, boundaryWork_schedule, hlook]
  exact Eq.trans ((atBoundary_frame w).same .schedule) hwschedule

theorem PeriodEnd.entry_first_notes
    (hlooks : before.lookedFirst lookFirst = (before.setClock before.advances.clock).lookSchedule)
    (hstate : Acting s ∨ s.agreement.state = .adrift)
    (hcalm : CalmEnd s before (before.clockPeriod lookFirst) t) : StoreTakes s t (dueNotes s t e ++ Safety.closeNotes s t) := by
  have hset : s.agreement.state ≠ .unset := by rcases hstate with (h' | h' | h') | h' <;> simp [h']
  obtain ⟨w, hw, -, hwclock, hwconfig, -, hclocked, hlook⟩ := h.entry_left hhanded hclosed he hquiet hlooks hstate
  have hlooked := h.entry_looked he hquiet hlooks hstate
  have hlclock := h.looked_clock
  obtain ⟨a, ha⟩ : ∃ a, a = (before.setClock before.advances.clock).setSchedule rest := ⟨_, rfl⟩
  have hba : Frame [.clock, .schedule] before a := ha ▸ ((setClock_frame before _).mono).trans ((setSchedule_frame _ _).mono)
  have hastate : a.agreement.state = s.agreement.state := hba.agreement_state.trans h.same.state
  have hactingA : Acting a ∨ a.agreement.state = .adrift := by
    rw [acting_of_agreement hastate, hastate]
    exact hstate
  rw [← ha] at hlooked
  have haclock : a.clock = t.clock := by
    rw [← hlclock, hlooked]
    exact ((takeEntry_frame a e).same .clock).symm
  have hnotes : dueNotes a a e = dueNotes s t e :=
    dueNotes_congr hastate (Eq.trans (hba.same .config) h.same.config) haclock e
  have hstored : (before.lookedFirst lookFirst).store = ((dueNotes s t e).foldl takeRecord (s.lookStore.setClock t.clock)).store := by
    rw [hlooked, takeEntry_store hactingA, hnotes]
    refine foldl_takeRecord_store_congr _ hastate (Eq.trans (hba.same .config) h.same.config)
      (storeNow_of_clock (s := s.lookStore.setClock t.clock) haclock) ?_
    exact Eq.trans (hba.same .store) hcalm.store
  have hstore := h.closed_store hhanded hclosed hset hstored
  rw [← hw] at hstore
  have hbw : Frame [.clock, .schedule, .agreement, .timeFrame, .store, .latch, .outputs, .tx] before w := by
    rw [hw]
    exact ((lookedFirst_frame lookFirst before).mono).trans ((closeWork_frame _ _).mono)
  refine storeTakes_of_boundary hwconfig hwclock (Eq.trans (hbw.same .outbox) hcalm.outbox) ?_ (hclocked ▸ hcalm.storeEnds)
  rw [hlook, ← hstore]
  exact (atBoundary_frame w).same .store

/-- An entry that the Schedule takes at the boundary in an acting state acts on its output as the boundary leaves it (R85). -/
theorem PeriodEnd.entry_output (hfirst : ClosesFirst lookFirst before) (hacting : Acting t) (hpulse : (s.outputs[e.output]).pulseEnd = none) :
    t.outputs[e.output] = ((((s.outputs[e.output]).boundary (s.config.outputs[e.output]) s.advances.clock.now.round).act
      (s.config.outputs[e.output]) s.len s.advances.clock.now e.due e.action).endPulse s.len s.advances.clock.now) := by
  obtain ⟨w, hsame, hwclock, hwconfig, hw, hclocked, hlook⟩ := h.entry_taken hhanded hclosed he hquiet hfirst (.inl hacting)
  have hset : s.agreement.state ≠ .unset := h.set_of_set hhanded hclosed (by rcases hacting with h' | h' | h' <;> simp [h'])
  have hadrift : w.agreement.state ≠ .adrift := by
    rw [← hsame.state]
    rcases hacting with h' | h' | h' <;> simp [h']
  have hwoutputs : w.outputs = s.endPulses.outputs := by
    have houtputs := closeWork_outputs (s := before.setClock before.advances.clock) s.closeFigures
      (by rw [setClock_agreement, h.same.state]; exact hset)
    rw [← hw, if_neg fun h' => hadrift h'.1] at houtputs
    exact houtputs.trans hquiet.outputs
  have hwclock' : w.clock = s.advances.clock := hwclock.trans h.clock
  obtain ⟨b, hb⟩ : ∃ b, b = w.atBoundary.setSchedule rest := ⟨_, rfl⟩
  have hwb : Frame [.outputs, .tx, .collisions, .schedule] w b := hb ▸ ((atBoundary_frame w).mono).trans ((setSchedule_frame _ _).mono)
  have hbconfig : b.config = s.config := Eq.trans (hwb.same .config) hwconfig
  have hbclock : b.clock = s.advances.clock := Eq.trans (hwb.same .clock) hwclock'
  have hbacting : Acting b := (acting_of_agreement (hwb.agreement_state.trans hsame.state.symm)).2 hacting
  have hboutput : b.outputs[e.output] =
      (s.outputs[e.output]).boundary (s.config.outputs[e.output]) s.advances.clock.now.round := by
    have hsetb : b.outputs = w.atBoundary.outputs := by rw [hb]; rfl
    rw [hsetb, atBoundary_output, hwconfig, hwclock', hwoutputs, endPulses_output, Output.endPulse_of_none hpulse]
  have htaken := takeEntry_frame b e
  have hexecuted : (b.takeEntry e).outputs[e.output] = b.actedOutput e := by
    have hset' : (b.takeEntry e).outputs = b.outputs.set e.output.val (b.actedOutput e) := by
      rw [takeEntry_of_acting hbacting]
      cases hlog : (b.config.outputs[e.output]).log with
      | false => rw [execute_silent hlog]; rfl
      | true => rw [execute_logged hlog]; rfl
    rw [hset']
    exact Vector.getElem_set_self _
  have hlen : ∀ u : State, u.config = s.config → u.len = s.len := fun u hu => by rw [len, hu]; rfl
  rw [hquiet.outputsEnds, hclocked, boundaryWork_outputs, hlook, ← hb, endPulses_output, hexecuted, actedOutput, hboutput,
    hbconfig, hlen b hbconfig, hlen _ (Eq.trans (htaken.same .config) hbconfig), now, now, hbclock, Eq.trans (htaken.same .clock) hbclock]

/-- In ADRIFT the entry leaves a SAFE output as it is (R76). -/
theorem PeriodEnd.entry_output_of_adrift
    (hcourse : ClosesFirst lookFirst before ∧ t.agreement.state = .adrift ∨
      before.lookedFirst lookFirst = (before.setClock before.advances.clock).lookSchedule ∧ t.agreement.state ≠ .adrift)
    (hadrift : s.agreement.state = .adrift) (hsafe : (s.outputs[e.output]).condition = .safe)
    (hpulse : (s.outputs[e.output]).pulseEnd = none) : t.outputs[e.output] = s.outputs[e.output] := by
  have hends : s.endPulses.outputs[e.output] = s.outputs[e.output] := by rw [endPulses_output, Output.endPulse_of_none hpulse]
  rcases hcourse with ⟨hfirst, ht⟩ | ⟨hlooks, ht⟩
  · obtain ⟨w, hsame, -, -, hw, hclocked, -⟩ := h.entry_taken hhanded hclosed he hquiet hfirst (.inr ht)
    have houtputs := closeWork_outputs (s := before.setClock before.advances.clock) s.closeFigures
      (by rw [setClock_agreement, h.same.state, hadrift]; decide)
    rw [← hw, if_neg fun h' => h'.2 (h.same.state.trans hadrift)] at houtputs
    have hwoutput : w.outputs[e.output] = s.outputs[e.output] := by
      rw [houtputs, setClock_outputs, hquiet.outputs, hends]
    rw [hquiet.outputsEnds, hclocked, boundaryWork_safe (hsame.state.symm.trans ht) (by rw [hwoutput]; exact hsafe)
      (by rw [hwoutput]; exact hpulse), hwoutput]
  · obtain ⟨w, hw, hsame, -, hwconfig, -, hclocked, hlook⟩ := h.entry_left hhanded hclosed he hquiet hlooks (.inr hadrift)
    have hlstate := h.looked_same.state
    have houtputs := closeWork_outputs (s := before.lookedFirst lookFirst) s.closeFigures (by rw [hlstate, hadrift]; decide)
    rw [← hw, if_neg fun h' => ht (hsame.state.trans h'.1)] at houtputs
    have hloutputs : (before.lookedFirst lookFirst).outputs = s.endPulses.outputs := by
      rw [hlooks, lookSchedule_outputs_of_adrift (s := before.setClock before.advances.clock) (h.same.state.trans hadrift)]
      exact hquiet.outputs
    have hwoutput : w.outputs[e.output] = s.outputs[e.output] := by rw [houtputs, hloutputs, hends]
    rw [hquiet.outputsEnds, hclocked, boundaryWork_outputs, hlook, endPulses_output, atBoundary_output, hwoutput,
      Output.boundary_of_not_acting (fun h' => absurd (hsafe.symm.trans h') (by decide)), Output.endPulse_of_none hpulse]

end Closed

/-! ### Which comes first (log 9) -/

/-- The transition of a close ends in ADRIFT from an acting state with 3 clamped closes in a row, and from ADRIFT but at the
sixteenth close (R35, R36). -/
theorem transit_adrift (id : StationId) (k : CloseFigures) (a : Agreement) : (transit id k a).state = .adrift ↔
    (a.state = .alone ∨ a.state = .gathering ∨ a.state = .locked) ∧ 3 ≤ a.clampCount ∨
      a.state = .adrift ∧ ¬16 ≤ a.driftCount + 1 := by
  cases hstate : a.state <;> simp only [transit, hstate, reduceCtorEq, or_self, or_true, false_or, or_false, true_and, false_and,
    if_false] <;> split_ifs <;> simp_all [entered]

theorem entersOrLeaves {acting clamps adrift drifts after : Prop} (hnot : acting → ¬adrift)
    (hafter : after ↔ acting ∧ clamps ∨ adrift ∧ ¬drifts) : acting ∧ clamps ∨ adrift ∧ drifts ↔ ¬(adrift ↔ after) := by tauto

section Course

variable {lookFirst : Bool} {s before t : State} (h : PeriodEnd lookFirst s before t) (hhanded : s.clock.handed = none)
  (hclosed : s.advances.closed = true)

include h

theorem PeriodEnd.clampDue : before.clampDue = s.clampDue := by
  rw [State.clampDue, State.clampDue, closeDue, closeDue, h.advances, h.same.closeFigures, h.same.clampCountAfter, acting, acting, h.same.state]

theorem PeriodEnd.driftDue : before.driftDue = s.driftDue := by
  have hcount : before.agreement.driftCount = s.agreement.driftCount := by rw [h.same.agreement]
  rw [State.driftDue, State.driftDue, closeDue, closeDue, h.advances, h.same.state, hcount]

include hhanded hclosed

/-- The close that ROUND_CLOSE looks before is the one that enters or leaves ADRIFT. -/
theorem PeriodEnd.changesAdrift : (s.clampDue || s.driftDue) = true ↔ ¬(s.agreement.state = .adrift ↔ t.agreement.state = .adrift) := by
  obtain ⟨hstate, -⟩ := agreementIs_iff.1 (h.transit hhanded hclosed)
  have hadrift := transit_adrift s.config.id s.closeFigures { s.agreement with clampCount := s.clampCountAfter s.closeFigures }
  rw [← hstate] at hadrift
  have hclamp : s.clampDue = true ↔ Acting s ∧ 3 ≤ s.clampCountAfter s.closeFigures := by
    rw [State.clampDue, closeDue, hclosed, Bool.true_and, Bool.and_eq_true, acting_iff, decide_eq_true_eq]
  have hdrift : s.driftDue = true ↔ s.agreement.state = .adrift ∧ 16 ≤ s.agreement.driftCount + 1 := by
    rw [State.driftDue, closeDue, hclosed, Bool.true_and, Bool.and_eq_true, beq_iff_eq, decide_eq_true_eq]
  have hnot : Acting s → s.agreement.state ≠ .adrift := by
    rintro (h' | h' | h') <;> simp [h']
  rw [Bool.or_eq_true, hclamp, hdrift]
  exact entersOrLeaves hnot hadrift

theorem PeriodEnd.closesFirst (hcourse : lookFirst = false ∨ (s.agreement.state = .adrift ↔ t.agreement.state = .adrift)) :
    ClosesFirst lookFirst before := by
  refine if_neg fun hlooks => ?_
  rw [Bool.and_eq_true, h.clampDue, h.driftDue] at hlooks
  rcases hcourse with hfalse | hsame
  · exact absurd (hlooks.1.symm.trans hfalse) (by decide)
  · exact (h.changesAdrift hhanded hclosed).1 hlooks.2 hsame

theorem PeriodEnd.looksFirst (hfirst : lookFirst = true) (hchanges : ¬(s.agreement.state = .adrift ↔ t.agreement.state = .adrift)) :
    before.lookedFirst lookFirst = (before.setClock before.advances.clock).lookSchedule ∧ (Acting s ∨ s.agreement.state = .adrift) := by
  have hdue := (h.changesAdrift hhanded hclosed).2 hchanges
  refine ⟨if_pos ?_, ?_⟩
  · rw [Bool.and_eq_true, h.clampDue, h.driftDue]
    exact ⟨hfirst, hdue⟩
  · rcases Bool.or_eq_true_iff.1 hdue with hclamp | hdrift
    · rw [State.clampDue, Bool.and_eq_true, Bool.and_eq_true, acting_iff] at hclamp
      exact .inl hclamp.1.2
    · rw [State.driftDue, Bool.and_eq_true, Bool.and_eq_true, beq_iff_eq] at hdrift
      exact .inr hdrift.1.2

end Course

/-- The boundary of a close with a forward jump reaches the entry. -/
theorem entryDue_of_closing {s : State} {c : Int} {e : ScheduleEntry} {rest : List ScheduleEntry} {boundary : LineTime} (h : ClosingNow s)
    (hc : (s.agreement.figures s.config.stepLimit).correction = c) (hforward : 0 ≤ c)
    (hboundary : boundary = ⟨s.clock.now.round + 1, c.toNat⟩) (hs : s.schedule = e :: rest)
    (hahead : earlier s.len s.clock.now e.due = true) (hreached : earlier s.len boundary e.due = false)
    (hnext : ∀ x ∈ rest.head?, earlier s.len boundary x.due = true) :
    s.advances.clock.now = boundary ∧ EntryDue s e rest := by
  have hadvances := advances_of_closing h
  have hcorrection : s.closeFigures.correction = c := hc
  rw [hcorrection, closeRound_forward hforward] at hadvances
  have hnow : s.advances.clock.now = boundary := by rw [hadvances, hboundary]; rfl
  exact ⟨hnow, by rw [hadvances], hs, hahead, hnow ▸ hreached, hnow ▸ hnext⟩

end State

open State

section Adrift

variable {s : State} (h : ClosingNow s)

include h

theorem exec_clampLimitAdrift (hacting : Acting s) (hcount : s.agreement.clampCount = 2)
    (hclamped : (s.agreement.figures s.config.stepLimit).clamped = true) :
    exec .clampLimitAdrift s = .next ((inPeriod s).endPeriodClockFirst false) := by
  refine exec_closes (ends := endPeriodClockFirst false) (due := State.clampDue) h.1.1 rfl ?_
  have hthree : (inPeriod s).clampCountAfter (inPeriod s).closeFigures = 3 := by
    have hclamps : s.clampsAfter s.closeFigures = 3 := by rw [clampsAfter, if_pos (show s.closeFigures.clamped = true from hclamped), hcount]
    exact (clampCountAfter_of_acting (s := inPeriod s) hacting _).trans hclamps
  rw [State.clampDue, closeDue_of_closing h, hthree, (acting_iff (inPeriod s)).2 hacting]
  rfl

theorem exec_driftLimitRefound (hstate : s.agreement.state = .adrift) (hcount : s.agreement.driftCount = 15) :
    exec .driftLimitRefound s = .next ((inPeriod s).endPeriodClockFirst false) := by
  refine exec_closes (ends := endPeriodClockFirst false) (due := State.driftDue) h.1.1 rfl ?_
  simp [State.driftDue, closeDue_of_closing h, hstate, hcount]

end Adrift

/-- Settles O18: the outputs are SAFE in ADRIFT whatever the boundary takes, and both commands look at the Schedule after the close. -/
theorem adriftIsEnteredAndLeftAtCloses : Obligations.AdriftIsEnteredAndLeftAtCloses := by
  refine ⟨fun s h hacting hcount hclamped => ?_, fun s h hstate hcount => ?_,
    fun s command c e rest boundary h hc hforward hboundary hs hahead hreached hnext hcalm hcommand => ?_⟩
  · have htaken := closeTaken_clockFirst_of_closing false h
    obtain ⟨hnew, hfounder, -, hclamp, hprogress, hlonely, hdrift⟩ := moved_of_entered (acting_adrift htaken hacting hcount hclamped)
    have hne : s.agreement.state ≠ .adrift := by rcases hacting with h' | h' | h' <;> simp [h']
    refine ⟨_, exec_clampLimitAdrift h hacting hcount hclamped, htaken.frame, htaken.notes, htaken.work, hnew, hfounder, hclamp, hprogress, hlonely,
      hdrift, (latched_of_moved htaken hnew hne.symm).1, fun i => ?_⟩
    rw [outputs_clockFirst]
    exact (periodEnd_clockFirst false (inPeriod s)).outputs_of_adrift (closing_handed h) (closed_of_closing (s := inPeriod s) h) hnew hne i
  · have htaken := closeTaken_clockFirst_of_closing false h
    obtain ⟨hnew, hfounder, -, hclamp, hprogress, hlonely, hdrift⟩ := moved_of_entered (adrift_alone htaken hstate hcount)
    exact ⟨_, exec_driftLimitRefound h hstate hcount, htaken.frame, htaken.notes, htaken.work, hnew, hfounder, hdrift, hclamp,
      (latched_of_moved htaken hnew (by rw [hstate]; decide)).1⟩
  · have htaken := closeTaken_clockFirst_of_closing false h
    obtain ⟨-, he⟩ := entryDue_of_closing (s := inPeriod s) h hc hforward hboundary hs hahead hreached hnext
    have hexec : exec command s = .next ((inPeriod s).endPeriodClockFirst false) := by
      rcases hcommand with ⟨rfl, hacting, hcount, hclamped⟩ | ⟨rfl, hstate, hcount⟩
      · exact exec_clampLimitAdrift h hacting hcount hclamped
      · exact exec_driftLimitRefound h hstate hcount
    have hleft : Acting ((inPeriod s).endPeriodClockFirst false) ∨ ((inPeriod s).endPeriodClockFirst false).agreement.state = .adrift := by
      rcases hcommand with ⟨-, hacting, hcount, hclamped⟩ | ⟨-, hstate, hcount⟩
      · exact .inr (moved_of_entered (acting_adrift htaken hacting hcount hclamped)).1
      · exact .inl (.inl (moved_of_entered (adrift_alone htaken hstate hcount)).1)
    have hend := periodEnd_clockFirst false (inPeriod s)
    have hclosed := closed_of_closing (s := inPeriod s) h
    have hquiet := quietEnd_clockFirst (s := inPeriod s) false (engineYoung_of_none hcalm.2.2.2) he.headAhead
    have hfirst := hend.closesFirst (closing_handed h) hclosed (.inl rfl)
    exact ⟨_, hexec, hend.entry_schedule (closing_handed h) hclosed he hquiet hfirst hleft,
      storeTakes_inPeriod (hend.entry_notes (closing_handed h) hclosed he hquiet hfirst hleft
        (calmEnd_clockFirst (s := inPeriod s) false hcalm he.headAhead (closing_handed h)))⟩

end Sys2Proof.Machine

/-! ROUND_CLOSE, and the plain end of a period in which a round close falls (R2 to R5, R8). -/

namespace Sys2Proof.Machine

set_option Elab.async false

open Safety

namespace State

/-! ### The advances of a doubled period with a close in it (R2) -/

section Double

variable {s : State} {c : Int} {pace : Nat} (h : DoubleAdvance s) (hpace : pace = s.clock.pace + s.clock.trim.natAbs - 1000000)
  (hovertime : s.clock.overtime = 0) (hc : s.closeFigures.correction = c)

include h hpace hovertime hc

/-- The close falls at the second advance. -/
theorem advances_close_second (hphase : s.clock.now.phase + 2 = s.config.roundLength) : s.advances = closeRound s.len c
    ⟨{ s.clock with pace := pace, now := ⟨s.clock.now.round, s.clock.now.phase + 1⟩ }, false, false, false⟩ := by
  have hfirst : singleAdvance s.len c (s.paced pace) = _ := singleAdvance_of_phase hovertime (by simp only [paced, len]; omega)
  rw [advances_of_double h, hc, ← hpace, hfirst]
  exact singleAdvance_of_close hovertime (by simp only [paced, len]; omega)

/-- The close falls at the first advance. -/
theorem advances_close_first (hphase : s.clock.now.phase + 1 = s.config.roundLength) : s.advances =
    singleAdvance s.len c (closeRound s.len c (s.paced pace)) := by
  have hfirst : singleAdvance s.len c (s.paced pace) = _ := singleAdvance_of_close hovertime (by simp only [paced, len]; omega)
  rw [advances_of_double h, hc, ← hpace, hfirst]

theorem advances_close_first_forward (hphase : s.clock.now.phase + 1 = s.config.roundLength) (hforward : 0 ≤ c)
    (hroom : c.toNat + 1 < s.config.roundLength) : s.advances =
    ⟨{ s.clock with
      pace := pace, trim := trimAfter s.len c s.clock.trim
      now := ⟨s.clock.now.round + 1, c.toNat + 1⟩ }, true, true, false⟩ := by
  rw [advances_close_first h hpace hovertime hc hphase, closeRound_forward hforward]
  exact singleAdvance_of_phase hovertime hroom

theorem advances_close_first_last_tick (hphase : s.clock.now.phase + 1 = s.config.roundLength) (hback : c = -1) : s.advances =
    ⟨{ s.clock with
      pace := pace, trim := trimAfter s.len c s.clock.trim, overtime := 0
      now := ⟨s.clock.now.round + 1, 0⟩ }, true, true, true⟩ := by
  rw [advances_close_first h hpace hovertime hc hphase, closeRound_backward (by omega)]
  exact singleAdvance_of_last_tick (by simp only [hback]; rfl)

theorem advances_close_first_backward (hphase : s.clock.now.phase + 1 = s.config.roundLength) (hback : c < -1) : s.advances =
    ⟨{ s.clock with
      pace := pace, trim := trimAfter s.len c s.clock.trim, overtime := c.natAbs - 1 },
      true, false, false⟩ := by
  rw [advances_close_first h hpace hovertime hc hphase, closeRound_backward (by omega)]
  exact singleAdvance_of_overtime (by simp only; omega)

end Double

/-! ### A MUTED transmitter at a close -/

section Muted

variable {s : State} (hhanded : s.clock.handed = none)

include hhanded

theorem muteFalls_named (hboundary : s.advances.boundary = true) : MuteFalls s s.endPeriodNamed :=
  (periodEnd_named s).muteFalls hhanded hboundary (fun h => (mutedKept_named h).1) fun h => (mutedKept_named h).2

theorem muteStays_named (hopen : s.advances.boundary = false) : MuteStays s s.endPeriodNamed :=
  (periodEnd_named s).muteStays hhanded hopen (fun h => (mutedKept_named h).1) fun h => (mutedKept_named h).2

theorem muteFalls_clockFirst (lookFirst : Bool) (hboundary : s.advances.boundary = true) :
    MuteFalls s (s.endPeriodClockFirst lookFirst) :=
  (periodEnd_clockFirst lookFirst s).muteFalls hhanded hboundary (fun h => (mutedKept_clockFirst lookFirst h).1)
    fun h => (mutedKept_clockFirst lookFirst h).2

theorem muteStays_clockFirst (lookFirst : Bool) (hopen : s.advances.boundary = false) :
    MuteStays s (s.endPeriodClockFirst lookFirst) :=
  (periodEnd_clockFirst lookFirst s).muteStays hhanded hopen (fun h => (mutedKept_clockFirst lookFirst h).1)
    fun h => (mutedKept_clockFirst lookFirst h).2

end Muted

end State

open State

/-- REFERENCE_PERIOD where no step has been handed over. -/
theorem exec_referencePeriod {s : State} (hheld : s.resetHeld = false) (hhanded : s.clock.handed = none) :
    exec .referencePeriod s = .next (inPeriod s).endPeriodNamed :=
  (next_unlessHeld hheld State.endPeriod).trans (congrArg Host.Outcome.next (endPeriod_of_not_handed (inPeriod s) hheld hhanded))

theorem exec_roundClose {s : State} (hheld : s.resetHeld = false) (hclosed : s.advances.closed = true) :
    exec .roundClose s = .next ((inPeriod s).endPeriodClockFirst true) :=
  exec_closes (ends := endPeriodClockFirst true) (due := closeDue) hheld rfl hclosed

/-- The end of the period of a close by either command. -/
theorem close_by_command {s : State} {command : Instr} (h : ClosingNow s) (hcommand : command = .roundClose ∨ command = .referencePeriod) :
    ∃ t, exec command s = .next t ∧ CloseTaken s t ∧ (s.advances.boundary = true → MuteFalls s t) ∧
      (s.advances.boundary = false → MuteStays s t) := by
  rcases hcommand with rfl | rfl
  · exact ⟨_, exec_roundClose h.1.1 (closed_of_closing h), closeTaken_clockFirst_of_closing true h,
      muteFalls_clockFirst (s := inPeriod s) (closing_handed h) true, muteStays_clockFirst (s := inPeriod s) (closing_handed h) true⟩
  · exact ⟨_, exec_referencePeriod h.1.1 (closing_handed h), closeTaken_named_of_closing h,
      muteFalls_named (s := inPeriod s) (closing_handed h), muteStays_named (s := inPeriod s) (closing_handed h)⟩

/-- The first clause: a close in a period of one advance. -/
theorem roundClose_single (s : State) (command : Instr) (c : Int) (hcommand : command = .roundClose ∨ command = .referencePeriod)
    (h : ClosingNow s) (hc : (s.agreement.figures s.config.stepLimit).correction = c) :
    ∃ t, exec command s = .next t ∧
      t.clock.trim = max (-200) (min 200 (s.clock.trim + (c * 500000).tdiv s.config.roundLength)) ∧
      t.clock.pace = s.clock.pace + s.clock.trim.natAbs ∧
      (0 ≤ c → t.clock.now = ⟨s.clock.now.round + 1, c.toNat⟩ ∧ t.clock.overtime = 0) ∧
      (c < 0 → t.clock.now = s.clock.now ∧ t.clock.overtime = c.natAbs) ∧
      (c ≠ 0 → t.agreement.adjustCount = s.agreement.adjustCount + 1 ∧ t.agreement.lastAdjust = .correction c) ∧
      (c = 0 → t.agreement.adjustCount = s.agreement.adjustCount ∧ t.agreement.lastAdjust = s.agreement.lastAdjust) ∧
      t.lateHandling = s.framer.ripe ∧ CloseNotes s t ∧ CloseWork s t ∧ (0 ≤ c → MuteFalls s t) ∧
      (c < 0 → MuteStays s t) ∧ PeriodFrame s t := by
  obtain ⟨t, hexec, htaken, hfalls, hstays⟩ := close_by_command h hcommand
  have hadvances := advances_of_closing h
  have hcorrection : s.closeFigures.correction = c := hc
  have hadjust := htaken.adjust
  rw [hcorrection] at hadvances hadjust
  rw [noteCorrection_eq] at hadjust
  have hadjusts : (c ≠ 0 → t.agreement.adjustCount = s.agreement.adjustCount + 1 ∧ t.agreement.lastAdjust = .correction c) ∧
      (c = 0 → t.agreement.adjustCount = s.agreement.adjustCount ∧ t.agreement.lastAdjust = s.agreement.lastAdjust) :=
    ⟨fun hne => by simpa [hne] using hadjust, fun hzero => by simpa [hzero] using hadjust⟩
  refine ⟨t, hexec, ?_⟩
  rw [htaken.clock]
  by_cases hforward : 0 ≤ c
  · rw [closeRound_forward hforward] at hadvances
    have hback : ¬c < 0 := by omega
    rw [hadvances] at hfalls ⊢
    exact ⟨rfl, rfl, fun _ => ⟨rfl, h.2.1⟩, fun h' => absurd h' hback, hadjusts.1, hadjusts.2, htaken.late, htaken.notes, htaken.work,
      fun _ => hfalls rfl, fun h' => absurd h' hback, htaken.frame⟩
  · rw [closeRound_backward (by omega)] at hadvances
    rw [hadvances] at hstays ⊢
    exact ⟨rfl, rfl, fun h' => absurd h' hforward, fun _ => ⟨rfl, rfl⟩, hadjusts.1, hadjusts.2, htaken.late, htaken.notes, htaken.work,
      fun h' => absurd h' hforward, fun _ => hstays rfl, htaken.frame⟩

/-- ROUND_CLOSE where the close is one of the two advances of a doubled period. -/
theorem close_of_double {s : State} (h : DoubleAdvance s) (hclosed : s.advances.closed = true) :
    ∃ t, exec .roundClose s = .next t ∧ t.clock = s.advances.clock ∧
      (s.advances.boundary = true ∨ s.advances.clock.now = s.clock.now → CloseNotes s t) ∧ CloseWork s t ∧
      (s.advances.boundary = true → MuteFalls s t) ∧ PeriodFrame s t := by
  have hhanded : s.clock.handed = none := h.2.2.2.2
  have hend := periodEnd_clockFirst true (inPeriod s)
  exact ⟨_, exec_roundClose h.1 hclosed, hend.clock,
    fun hreading => (closeTaken_inPeriod (closeTaken_clockFirst (s := inPeriod s) hhanded hclosed hreading true)).notes,
    hend.closeWork hhanded hclosed (timePasses_clockFirst true), muteFalls_clockFirst (s := inPeriod s) hhanded true, hend.frame hhanded⟩

/-- The second clause: a close in a doubled period (R2). -/
theorem roundClose_double (s : State) (c : Int) (h : DoubleAdvance s) (hovertime : s.clock.overtime = 0)
    (hc : (s.agreement.figures s.config.stepLimit).correction = c)
    (hphase : s.clock.now.phase + 2 = s.config.roundLength ∨ s.clock.now.phase + 1 = s.config.roundLength)
    (hroom : c.toNat + 1 < s.config.roundLength) :
    ∃ t, exec .roundClose s = .next t ∧
      t.clock.trim = max (-200) (min 200 (s.clock.trim + (c * 500000).tdiv s.config.roundLength)) ∧
      t.clock.pace = s.clock.pace + s.clock.trim.natAbs - 1000000 ∧
      (s.clock.now.phase + 2 = s.config.roundLength →
        (0 ≤ c → t.clock.now = ⟨s.clock.now.round + 1, c.toNat⟩ ∧ t.clock.overtime = 0) ∧
        (c < 0 → t.clock.now = ⟨s.clock.now.round, s.clock.now.phase + 1⟩ ∧ t.clock.overtime = c.natAbs)) ∧
      (s.clock.now.phase + 1 = s.config.roundLength →
        (0 ≤ c → t.clock.now = ⟨s.clock.now.round + 1, c.toNat + 1⟩ ∧ t.clock.overtime = 0) ∧
        (c = -1 → t.clock.now = ⟨s.clock.now.round + 1, 0⟩ ∧ t.clock.overtime = 0) ∧
        (c < -1 → t.clock.now = s.clock.now ∧ t.clock.overtime = c.natAbs - 1)) ∧
      (0 ≤ c ∨ s.clock.now.phase + 1 = s.config.roundLength → CloseNotes s t) ∧ CloseWork s t ∧
      (0 ≤ c ∨ c = -1 ∧ s.clock.now.phase + 1 = s.config.roundLength → MuteFalls s t) ∧ PeriodFrame s t := by
  obtain ⟨pace, hpace⟩ : ∃ pace, pace = s.clock.pace + s.clock.trim.natAbs - 1000000 := ⟨_, rfl⟩
  have hcorrection : s.closeFigures.correction = c := hc
  have taken : s.advances.closed = true → ∃ t, exec .roundClose s = .next t ∧ t.clock = s.advances.clock ∧
      (s.advances.boundary = true ∨ s.advances.clock.now = s.clock.now → CloseNotes s t) ∧ CloseWork s t ∧
      (s.advances.boundary = true → MuteFalls s t) ∧ PeriodFrame s t := close_of_double h
  rw [← hpace]
  rcases hphase with hsecond | hfirst
  · have hadvances := advances_close_second h hpace hovertime hcorrection hsecond
    have hnot : ¬s.clock.now.phase + 1 = s.config.roundLength := by omega
    by_cases hforward : 0 ≤ c
    · rw [closeRound_forward hforward] at hadvances
      rw [hadvances] at taken
      obtain ⟨t, hexec, hclock, hnotes, hwork, hfalls, hframe⟩ := taken rfl
      refine ⟨t, hexec, ?_⟩
      rw [hclock]
      exact ⟨rfl, rfl, fun _ => ⟨fun _ => ⟨rfl, hovertime⟩, fun h' => by omega⟩, fun h' => absurd h' hnot, fun _ => hnotes (.inl rfl),
        hwork, fun _ => hfalls rfl, hframe⟩
    · rw [closeRound_backward (by omega)] at hadvances
      rw [hadvances] at taken
      obtain ⟨t, hexec, hclock, -, hwork, -, hframe⟩ := taken rfl
      refine ⟨t, hexec, ?_⟩
      rw [hclock]
      exact ⟨rfl, rfl, fun _ => ⟨fun h' => absurd h' hforward, fun _ => ⟨rfl, rfl⟩⟩, fun h' => absurd h' hnot,
        fun h' => by omega, hwork, fun h' => by omega, hframe⟩
  · have hnot : ¬s.clock.now.phase + 2 = s.config.roundLength := by omega
    by_cases hforward : 0 ≤ c
    · rw [advances_close_first_forward h hpace hovertime hcorrection hfirst hforward hroom] at taken
      obtain ⟨t, hexec, hclock, hnotes, hwork, hfalls, hframe⟩ := taken rfl
      refine ⟨t, hexec, ?_⟩
      rw [hclock]
      exact ⟨rfl, rfl, fun h' => absurd h' hnot, fun _ => ⟨fun _ => ⟨rfl, hovertime⟩, fun h' => by omega, fun h' => by omega⟩,
        fun _ => hnotes (.inl rfl), hwork, fun _ => hfalls rfl, hframe⟩
    by_cases hback : c = -1
    · rw [advances_close_first_last_tick h hpace hovertime hcorrection hfirst hback] at taken
      obtain ⟨t, hexec, hclock, hnotes, hwork, hfalls, hframe⟩ := taken rfl
      refine ⟨t, hexec, ?_⟩
      rw [hclock]
      exact ⟨rfl, rfl, fun h' => absurd h' hnot, fun _ => ⟨fun h' => absurd h' hforward, fun _ => ⟨rfl, rfl⟩, fun h' => by omega⟩,
        fun _ => hnotes (.inl rfl), hwork, fun _ => hfalls rfl, hframe⟩
    · have hless : c < -1 := by omega
      rw [advances_close_first_backward h hpace hovertime hcorrection hfirst hless] at taken
      obtain ⟨t, hexec, hclock, hnotes, hwork, -, hframe⟩ := taken rfl
      refine ⟨t, hexec, ?_⟩
      rw [hclock]
      exact ⟨rfl, rfl, fun h' => absurd h' hnot, fun _ => ⟨fun h' => absurd h' hforward, fun h' => absurd h' hback, fun _ => ⟨rfl, rfl⟩⟩,
        fun _ => hnotes (.inr rfl), hwork, fun h' => by omega, hframe⟩

/-- Settles O10: the advances decide the clock, and the Schedule's look stands before the close where that enters or leaves ADRIFT. -/
theorem roundCloseTakesTheCorrection : Obligations.RoundCloseTakesTheCorrection := by
  refine ⟨roundClose_single, roundClose_double,
    fun s c e rest boundary h hc hforward hboundary hengine hs hahead hreached hnext => ?_⟩
  have hhanded := closing_handed h
  have hclosed := closed_of_closing (s := inPeriod s) h
  obtain ⟨hnow, he⟩ := entryDue_of_closing (s := inPeriod s) h hc hforward hboundary hs hahead hreached hnext
  have hend := periodEnd_clockFirst true (inPeriod s)
  have hquiet := quietEnd_clockFirst (s := inPeriod s) true (engineYoung_of_none hengine) he.headAhead
  have hcalmEnd : Calm s → CalmEnd (inPeriod s) (inPeriod s).endsTaken ((inPeriod s).endsTaken.clockPeriod true)
      ((inPeriod s).endPeriodClockFirst true) := fun hcalm => calmEnd_clockFirst (s := inPeriod s) true hcalm he.headAhead hhanded
  obtain ⟨t, ht⟩ : ∃ t, t = (inPeriod s).endPeriodClockFirst true := ⟨_, rfl⟩
  rw [← ht] at hend hquiet hcalmEnd
  have hexec : exec .roundClose s = .next t := ht ▸ exec_roundClose h.1.1 (closed_of_closing h)
  refine ⟨t, hexec, fun hstate => ⟨?_, fun hcalm hsame => ?_, fun hcalm hchanges => ?_⟩, fun hadrift hsafe hpulse => ?_,
    fun hadrift hacting => ?_, fun hadrift hacting hdriven hpulse => ?_⟩
  · by_cases hsame : s.agreement.state = .adrift ↔ t.agreement.state = .adrift
    · exact hend.entry_schedule hhanded hclosed he hquiet (hend.closesFirst hhanded hclosed (.inr hsame)) hstate
    · obtain ⟨hlooks, hbefore⟩ := hend.looksFirst hhanded hclosed rfl hsame
      exact hend.entry_first_schedule hhanded hclosed he hquiet hlooks hbefore
  · exact storeTakes_inPeriod (hend.entry_notes hhanded hclosed he hquiet (hend.closesFirst hhanded hclosed (.inr hsame)) hstate
      (hcalmEnd hcalm))
  · obtain ⟨hlooks, hbefore⟩ := hend.looksFirst hhanded hclosed rfl hchanges
    exact storeTakes_inPeriod (hend.entry_first_notes hhanded hclosed he hquiet hlooks hbefore (hcalmEnd hcalm))
  · refine hend.entry_output_of_adrift hhanded hclosed he hquiet ?_ hadrift hsafe hpulse
    by_cases ht : t.agreement.state = .adrift
    · exact .inl ⟨hend.closesFirst hhanded hclosed (.inr (iff_of_true hadrift ht)), ht⟩
    · exact .inr ⟨(hend.looksFirst hhanded hclosed rfl fun hiff => ht (hiff.1 hadrift)).1, ht⟩
  · rw [hquiet.outputsEnds]
    exact hend.outputs_of_adrift hhanded hclosed hadrift (by rcases hacting with h' | h' | h' <;> simp [h']) e.output
  · have hnotAdrift : t.agreement.state ≠ .adrift := by rcases hacting with h' | h' | h' <;> simp [h']
    have houtput := hend.entry_output hhanded hclosed he hquiet
      (hend.closesFirst hhanded hclosed (.inr (iff_of_false hadrift hnotAdrift))) hacting hpulse
    rw [hnow] at houtput
    obtain ⟨o, ho⟩ : ∃ o, o = (s.outputs[e.output]).boundary (s.config.outputs[e.output]) boundary.round := ⟨_, rfl⟩
    have hodriven : o.condition ≠ .undriven := by
      rw [ho, Output.boundary_condition]
      exact hdriven
    have hopulse : o.pulseEnd = none := by
      rw [ho, Output.boundary_pulseEnd]
      exact hpulse
    have houtput' : t.outputs[e.output] =
        (o.act (s.config.outputs[e.output]) s.len boundary e.due e.action).endPulse s.len boundary := ho ▸ houtput
    have hplain : (s.config.outputs[e.output]).mode ≠ .round → o = s.outputs[e.output] := fun hmode =>
      ho.trans (Output.boundary_of_mode hmode)
    refine ⟨fun hmode haction => ?_, fun hmode haction => ?_, fun hmode haction => ?_, fun pulseEnd hmode haction hpulseEnd hlater => ?_,
      fun hmode haction => ?_⟩
    · rw [houtput', haction, Output.act_set hmode hodriven, Output.endPulse_of_none, hplain (by rw [hmode]; decide)]
      exact hopulse
    · rw [houtput', haction, Output.act_clear hmode hodriven, Output.endPulse_of_none, hplain (by rw [hmode]; decide)]
      exact hopulse
    · rw [houtput', haction, Output.act_toggle hmode hodriven, Output.endPulse_of_none, hplain (by rw [hmode]; decide)]
      exact hopulse
    · rw [houtput', haction, Output.act_fire hmode hodriven, ← hpulseEnd, Output.endPulse_of_earlier rfl hlater, hplain (by rw [hmode]; decide)]
    · rw [houtput', haction, Output.act_round hmode hodriven, Output.endPulse_of_none, hopulse, ← hpulse]
      exact hopulse

end Sys2Proof.Machine

/-! The boundary after an overtime, and the end of a MUTED transmitter's count (R5, R10, R85, R144, R151). -/

namespace Sys2Proof.Machine

set_option Elab.async false

open Safety

namespace State

/-! ### The advances that end an overtime (R5) -/

theorem advances_last_tick {s : State} (h : SingleAdvance s) (hovertime : s.clock.overtime = 1) : s.advances =
    ⟨{ s.clock with
      pace := s.clock.pace + s.clock.trim.natAbs, overtime := 0, now := ⟨s.clock.now.round + 1, 0⟩ }, false, true, true⟩ := by
  obtain ⟨pace, hpace⟩ : ∃ pace, pace = s.clock.pace + s.clock.trim.natAbs := ⟨_, rfl⟩
  rw [advances_of_single h, ← hpace]
  exact singleAdvance_of_last_tick hovertime

theorem advances_last_ticks {s : State} (h : DoubleAdvance s) (hovertime : s.clock.overtime = 1 ∨ s.clock.overtime = 2)
    (hlen : 2 ≤ s.config.roundLength) : s.advances =
    ⟨{ s.clock with
      pace := s.clock.pace + s.clock.trim.natAbs - 1000000, overtime := 0
      now := ⟨s.clock.now.round + 1, 2 - s.clock.overtime⟩ }, false, true, true⟩ := by
  obtain ⟨pace, hpace⟩ : ∃ pace, pace = s.clock.pace + s.clock.trim.natAbs - 1000000 := ⟨_, rfl⟩
  obtain ⟨c, hc⟩ : ∃ c, c = s.closeFigures.correction := ⟨_, rfl⟩
  rw [advances_of_double h, ← hpace, ← hc]
  rcases hovertime with hone | htwo
  · have hfirst : singleAdvance s.len c (s.paced pace) = _ := singleAdvance_of_last_tick hone
    rw [hfirst, singleAdvance_of_phase rfl (by exact hlen), hone]
    rfl
  · have hfirst : singleAdvance s.len c (s.paced pace) = _ := singleAdvance_of_overtime (Nat.le_of_eq htwo.symm)
    rw [hfirst, singleAdvance_of_last_tick (by simp [paced, htwo]), htwo]
    rfl

/-! ### A boundary without a close -/

section Open

variable {lookFirst : Bool} {s before t : State} (h : PeriodEnd lookFirst s before t) (hhanded : s.clock.handed = none)
  (hopen : s.advances.closed = false) (hboundary : s.advances.boundary = true)

include h hhanded hopen hboundary

/-- A boundary without a close has the other blocks' reactions alone. -/
theorem PeriodEnd.clocked_open : before.clockPeriod lookFirst = (before.setClock before.advances.clock).boundaryWork := by
  have hclock := clockPeriod_eq lookFirst (s := before) (h.before_clock ▸ hhanded)
  have hnone : ¬(lookFirst && (before.clampDue || before.driftDue)) = true := by
    rw [h.clampDue, h.driftDue, State.clampDue, State.driftDue, closeDue, hopen]
    simp
  rw [h.advances, hopen, hboundary, lookedFirst, if_neg hnone] at hclock
  simpa using hclock

/-- A ROUND output whose latch is of another round than the one that begins loses it (R85). -/
theorem PeriodEnd.round_output (hquiet : QuietEnd s before (before.clockPeriod lookFirst) t) (hempty : s.schedule = []) {i : Fin 8}
    (hmode : (s.config.outputs[i]).mode = .round) (hacting : (s.outputs[i]).condition = .acting)
    (hlatch : (s.outputs[i]).latchRound ≠ some s.advances.clock.now.round) (hpulse : (s.outputs[i]).pulseEnd = none) :
    t.outputs[i] = { s.outputs[i] with level := false, latchRound := none } := by
  obtain ⟨w, hw⟩ : ∃ w, w = before.setClock before.advances.clock := ⟨_, rfl⟩
  have hbw : Frame [.clock] before w := hw ▸ setClock_frame before _
  have hwconfig : w.config = s.config := Eq.trans (hbw.same .config) h.same.config
  have hwround : w.clock.now.round = s.advances.clock.now.round := by rw [hw, setClock_clock, h.advances]
  have hwoutput : w.outputs[i] = s.outputs[i] := by
    have hsame : w.outputs = s.endPulses.outputs := Eq.trans (hbw.same .outputs) hquiet.outputs
    rw [hsame, endPulses_output, Output.endPulse_of_none hpulse]
  have hhead : HeadAhead w.atBoundary :=
    headAhead_of_empty (Eq.trans ((atBoundary_frame w).same .schedule) (Eq.trans (hbw.same .schedule) (hquiet.schedule.trans hempty)))
  have hlost : w.atBoundary.outputs[i] = { s.outputs[i] with level := false, latchRound := none } := by
    rw [atBoundary_output, hwoutput, hwconfig, hwround]
    exact if_pos ⟨hmode, hacting, hlatch⟩
  rw [hquiet.outputsEnds, h.clocked_open hhanded hopen hboundary, ← hw, boundaryWork_outputs, lookSchedule_of_young hhead,
    endPulses_output, hlost, Output.endPulse_of_none]
  exact hpulse

end Open

/-! ### The slot start of a period in which a MUTED transmitter is released (R144, R151) -/

/-- A slot start leaves the counts of collisions and of mute boundaries as they are. -/
theorem takeSlot_counts (s : State) : s.takeSlot.access.collisions = s.access.collisions ∧ s.takeSlot.access.mute = s.access.mute := by
  have assembled : ∀ u : State, u.assemble.access.collisions = u.access.collisions ∧ u.assemble.access.mute = u.access.mute := by
    intro u
    unfold assemble
    split_ifs <;> exact ⟨rfl, rfl⟩
  have reported : ∀ u : State, u.refreshTx.access.collisions = u.access.collisions ∧ u.refreshTx.access.mute = u.access.mute := fun u =>
    ((refreshTx_frame u).same .collisions).2
  unfold takeSlot
  simp only
  split_ifs
  · obtain ⟨hcollisions, hmute⟩ := reported (s.setAccess { s.access with slotTaken := true }).assemble
    obtain ⟨hcollisions', hmute'⟩ := assembled (s.setAccess { s.access with slotTaken := true })
    exact ⟨hcollisions.trans hcollisions', hmute.trans hmute'⟩
  · exact ⟨rfl, rfl⟩
  · exact ⟨rfl, rfl⟩

theorem takeStarts_counts {s : State} (judged : LineTime) (h : EngineYoung s) :
    (s.takeStarts judged).access.collisions = s.access.collisions ∧ (s.takeStarts judged).access.mute = s.access.mute := by
  rw [takeStarts_eq_of_young judged h]
  obtain ⟨-, hcollisions, hmute⟩ := (acceptEdges_frame judged s.refreshTx.takeSlot).same .collisions
  obtain ⟨hcollisions', hmute'⟩ := takeSlot_counts s.refreshTx
  obtain ⟨-, hcollisions'', hmute''⟩ := (refreshTx_frame s).same .collisions
  exact ⟨hcollisions.trans (hcollisions'.trans hcollisions''), hmute.trans (hmute'.trans hmute'')⟩

/-- A transmitter in IDLE or WAITING follows the reports (R143). -/
theorem reportAt_follows {s : State} (t : LineTime) (h : s.access.tx = .idle ∨ s.access.tx = .waiting) :
    (s.reportAt t).access.tx = if (s.reportAt t).contentPending then .waiting else .idle := by
  rw [reportAt_eq]
  simp only [setAccess_access, if_pos h]
  rfl

theorem reportAt_idle_or_waiting {s : State} (t : LineTime) (h : s.access.tx = .idle ∨ s.access.tx = .waiting) :
    (s.reportAt t).access.tx = .idle ∨ (s.reportAt t).access.tx = .waiting := by
  rw [reportAt_follows t h]
  split
  · exact .inr rfl
  · exact .inl rfl

section MuteEnd

variable {s : State} (hhanded : s.clock.handed = none) (hboundary : s.advances.boundary = true) (hengine : s.framer.engine = none)
  (hmuted : s.access.tx = .muted) (hlast : s.access.mute = 1)

include hhanded hboundary hengine hmuted hlast

/-- The station that the slot start of the period finds, with its transmitter released at the boundary. -/
theorem released_starts : ∃ w, w.clock.now = s.clock.now ∧ w.framer.engine = none ∧ w.access.tx = .idle ∧ w.access.mute = 0 ∧
    w.access.yield = s.access.yield ∧ w.access.collisions = s.access.collisions ∧ w.access.rotation = s.access.rotation ∧
    w.slotDue = s.endsTaken.slotDue ∧ Frame (.store :: clockParts) s.endsTaken w ∧
    Frame [.clock, .store] (s.endsTaken.clockPeriod false) w ∧
    Frame [.clock, .store] (w.takeStarts s.endsTaken.storeNow) (s.endsTaken.clockThenStarts false) := by
  have hyoung := engineYoung_of_none hengine
  have h := periodEnd_clockFirst false s
  obtain ⟨htx, hyield, hcollisions, hmute⟩ := (mutedKept_clockFirst false hyoung).1 hmuted
  obtain ⟨hmute', hyield', hcollisions', htx'⟩ := (h.clocked_muted hhanded htx).2 hboundary
  have hx : Frame (.silence :: .receiver :: .counters :: .symbol :: .monitor :: [.filters, .sampled, .schedule, .outputs, .store, .outbox])
      s s.endsTaken := by
    have hlooks := looksSampled_frame s
    exact (hlooks.mono).trans ((takeEnds_frame_of_young (hyoung.of_frame hlooks)).mono)
  obtain ⟨x, hxeq⟩ : ∃ x, x = s.endsTaken := ⟨_, rfl⟩
  rw [← hxeq] at htx hyield hcollisions hmute hmute' hyield' hcollisions' htx' hx ⊢
  obtain ⟨w, hnow, hclocked, hstarted⟩ := clockThenStarts_starts false x
  have hxw : Frame (.store :: clockParts) x w := ((clockPeriod_frame false x).mono).trans (hclocked.mono)
  obtain ⟨hwyield, hwcollisions, hwmute⟩ := hclocked.same .collisions
  refine ⟨w, hnow.trans (congrArg LineClock.now (hx.same .clock)), ?_, ?_, ?_, ?_, ?_, ?_, slotDue_of_monitor (hxw.same .monitor), hxw,
    hclocked, hstarted⟩
  · exact (Eq.trans (hxw.same .engine) (hx.same .engine)).trans hengine
  · rw [(hclocked.same .tx).1, htx', hmute, hlast, if_pos (Nat.le_refl 1)]
  · rw [hwmute, hmute', hmute, hlast]
  · rw [hwyield, hyield', hyield]
  · rw [hwcollisions, hcollisions', hcollisions]
  · exact Eq.trans (hxw.same .rotation) (hx.same .rotation)

/-- What MUTE_END leaves of the Access Unit, whatever slot starts in the period. -/
theorem released_counts : (s.endPeriodClockFirst false).access.mute = 0 ∧
    (s.endPeriodClockFirst false).access.rotation = s.access.rotation ∧
    (s.endPeriodClockFirst false).access.collisions = s.access.collisions := by
  obtain ⟨w, -, hwengine, -, hwmute, -, hwcollisions, hwrotation, -, -, -, hstarted⟩ :=
    released_starts hhanded hboundary hengine hmuted hlast
  obtain ⟨hcollisions, hmute⟩ := takeStarts_counts s.endsTaken.storeNow (engineYoung_of_none hwengine)
  have hrotation : (w.takeStarts s.endsTaken.storeNow).access.rotation = w.access.rotation :=
    (takeStarts_frame_of_young _ (engineYoung_of_none hwengine)).same .rotation
  have hend : Frame (.ripe :: .lateHandling :: .clock :: .store :: .sampled :: .symbol :: .silence :: [.engine, .monitor, .tx])
      (w.takeStarts s.endsTaken.storeNow) (s.endPeriodClockFirst false) := by
    rw [endPeriodClockFirst_eq]
    refine Frame.trans ?_ ((markLate_frame _ s).mono)
    refine Frame.trans ?_ ((reportAt_frame _ _).mono)
    exact (hstarted.mono).trans ((countPeriod_frame _).mono)
  obtain ⟨-, hcollisions', hmute'⟩ := hend.same .collisions
  exact ⟨hmute'.trans (hmute.trans hwmute), (Eq.trans (hend.same .rotation) hrotation).trans hwrotation,
    hcollisions'.trans (hcollisions.trans hwcollisions)⟩

/-- Where no slot starts, the released transmitter follows the reports. -/
theorem released_follows (hslot : NoSlotStart s) : (s.endPeriodClockFirst false).access.tx =
      (if (s.endPeriodClockFirst false).contentPending then .waiting else .idle) ∧
    (s.endPeriodClockFirst false).access.yield = s.access.yield ∧ (s.endPeriodClockFirst false).framer.engine = none := by
  obtain ⟨w, -, hwengine, hwidle, -, hwyield, -, -, hwslot, -, -, hstarted⟩ := released_starts hhanded hboundary hengine hmuted hlast
  have hxslot : s.endsTaken.slotDue = false := takeEnds_slotDue (noSlotStart_of_frame hslot (looksSampled_frame s))
  have hyoung := engineYoung_of_none hwengine
  have hstarts := takeStarts_frame_of_no_slot s.endsTaken.storeNow hyoung (hwslot.trans hxslot)
  have htx : (w.takeStarts s.endsTaken.storeNow).access.tx = .idle ∨ (w.takeStarts s.endsTaken.storeNow).access.tx = .waiting := by
    have hreport : w.refreshTx.slotDue = false := (slotDue_of_monitor ((refreshTx_frame w).same .monitor)).trans (hwslot.trans hxslot)
    rw [takeStarts_eq_of_young _ hyoung, takeSlot_of_not_due hreport, ((acceptEdges_frame _ w.refreshTx).same .tx).1]
    exact reportAt_idle_or_waiting _ (.inl hwidle)
  obtain ⟨z, hz⟩ : ∃ z, z = (s.endsTaken.clockThenStarts false).countPeriod := ⟨_, rfl⟩
  have hcounted : Frame [.clock, .store, .symbol, .silence, .ripe, .engine, .monitor, .sampled] (w.takeStarts s.endsTaken.storeNow) z :=
    hz ▸ (hstarted.mono).trans ((countPeriod_frame _).mono)
  have hztx : z.access.tx = .idle ∨ z.access.tx = .waiting := by
    rw [(hcounted.same .tx).1]
    exact htx
  have hzengine : z.framer.engine = none := by
    have hmap : z.framer.engine = (s.endsTaken.clockThenStarts false).framer.engine.map Engine.period := by rw [hz]; rfl
    rw [hmap, Eq.trans (hstarted.same .engine) ((hstarts.same .engine).trans hwengine)]
    rfl
  have hends : s.endPeriodClockFirst false = (z.reportAt s.now).markLate s := by rw [endPeriodClockFirst_eq, hz]
  have hreport := reportAt_frame z s.now
  rw [hends]
  refine ⟨reportAt_follows _ hztx, ?_, Eq.trans (hreport.same .engine) hzengine⟩
  exact ((hreport.same .collisions).1.trans (hcounted.same .collisions).1).trans ((hstarts.same .collisions).1.trans hwyield)

/-- Without a close nothing in the period sets the latch. -/
theorem released_tap (hopen : s.advances.closed = false) : (s.endPeriodClockFirst false).tap = s.tap := by
  obtain ⟨w, -, hwengine, -, -, -, -, -, -, -, hclocked, hstarted⟩ := released_starts hhanded hboundary hengine hmuted hlast
  have hlooks := looksSampled_frame s
  have hyoung := engineYoung_of_none hengine
  have hends : s.endsTaken.tap = s.tap :=
    (takeEnds_frame_of_young (hyoung.of_frame hlooks)).tap.trans hlooks.tap
  have hclock : (s.endsTaken.clockPeriod false).tap = s.endsTaken.tap := by
    rw [(periodEnd_clockFirst false s).clocked_open hhanded hopen hboundary]
    exact (boundaryWork_frame _).tap
  have hstarts : (s.endsTaken.clockThenStarts false).tap = w.tap :=
    hstarted.tap.trans (takeStarts_frame_of_young _ (engineYoung_of_none hwengine)).tap
  rw [endPeriodClockFirst_eq]
  calc _ = ((s.endsTaken.clockThenStarts false).countPeriod.reportAt s.now).tap := (markLate_frame _ s).tap
    _ = (s.endsTaken.clockThenStarts false).countPeriod.tap := (reportAt_frame _ _).tap
    _ = (s.endsTaken.clockThenStarts false).tap := (countPeriod_frame _).tap
    _ = s.tap := by rw [hstarts, hclocked.tap, hclock, hends]

end MuteEnd

/-! ### The late slot of a released transmitter (R10, R144) -/

/-- In a window no end on the line moves the monitor. -/
theorem takeEnds_monitor_of_window {s : State} (h : s.access.monitor = .window) : Part.monitor.same s s.takeEnds := by
  have hquiet : s.takeQuiet.access = s.access := (takeQuiet_frame s).access
  obtain ⟨q, hq⟩ : ∃ q, q = s.takeQuiet := ⟨_, rfl⟩
  rw [← hq] at hquiet
  have hsymbol : q.endSymbol.access = s.access := by
    unfold endSymbol
    simp only
    split_ifs with hended hbusy
    · rw [hquiet, h] at hbusy
      exact absurd hbusy (by decide)
    · exact hquiet
    · exact hquiet
  have hgap : q.endSymbol.completeGap = q.endSymbol := if_neg fun h' => absurd (h.symm.trans (hsymbol ▸ h'.1)) (by decide)
  have hline : Part.monitor.same s q.endSymbol := by
    rw [Part.same, hsymbol]
    exact ⟨rfl, rfl, rfl, rfl, rfl⟩
  have hframe : Part.monitor.same q.endSymbol s.takeEnds := by
    have hends : s.takeEnds = q.endSymbol.endFrame := by rw [takeEnds, ← hq, hgap]
    rw [hends]
    exact (endFrame_frame _).same .monitor
  obtain ⟨h1, h2, h3, h4, h5⟩ := hline
  obtain ⟨h1', h2', h3', h4', h5'⟩ := hframe
  exact ⟨h1'.trans h1, h2'.trans h2, h3'.trans h3, h4'.trans h4, h5'.trans h5⟩

/-- A WAITING transmitter begins its TIME frame at a slot start that is its own, where the Arm Unit has nothing to send (R145). -/
theorem takeSlot_time {r : State} (hslot : r.slotDue = true) (hwaiting : r.access.tx = .waiting) (hengine : r.framer.engine = none)
    (hbegins : r.slotBegins = true) (hclassA : r.classA = false) (htime : r.agreement.timeFrame = .pending) :
    r.takeSlot.access.tx = .sending ∧ r.takeSlot.access.yield = false ∧
      ∃ e, r.takeSlot.framer.engine = some e ∧ e.kind = .time ∧ e.stamp = r.clock.now ∧ e.age = 0 := by
  obtain ⟨u, hu⟩ : ∃ u, u = r.setAccess { r.access with slotTaken := true } := ⟨_, rfl⟩
  have hupending : u.timePending = true := by
    rw [hu]
    exact beq_iff_eq.2 htime
  have hassemble : u.assemble = u.beginTime := by
    rw [assemble_of_no_classA (.inr (hu ▸ hclassA)), if_pos hupending]
  have hslotted : r.takeSlot = u.beginTime.refreshTx := by
    unfold takeSlot
    rw [if_pos hslot]
    simp only [← hu]
    rw [if_pos ⟨hwaiting, hengine, hbegins⟩, hassemble]
  rw [hslotted, beginTime, beginFrame_refreshTx]
  exact ⟨rfl, rfl, _, rfl, rfl, by rw [hu]; rfl, rfl⟩

theorem classA_of_empty {s : State} (harms : s.arms.outbox = []) (hcancels : s.arms.cancels = []) : s.classA = false := by
  simp [classA, eligibleArms, eligibleCancels, harms, hcancels]

/-- A frame being sent stays at the front of the engine to the end of the period that it is begun in. -/
theorem released_begins {s : State} (hhanded : s.clock.handed = none) (hopen : s.advances.closed = false)
    (hboundary : s.advances.boundary = true) (hengine : s.framer.engine = none) (hmuted : s.access.tx = .muted) (hlast : s.access.mute = 1)
    (hwindow : s.access.monitor = .window) (hcount : s.access.slotCount = 0) (htaken : s.access.slotTaken = false)
    (hyield : s.access.yield = true) (hindex : s.access.slotIndex = 48 + (s.config.id.toNat - 1))
    (htime : s.agreement.timeFrame = .pending) (harms : s.arms.outbox = []) (hcancels : s.arms.cancels = []) :
    (s.endPeriodClockFirst false).access.tx = .sending ∧ (s.endPeriodClockFirst false).access.yield = false ∧
      ∃ e, (s.endPeriodClockFirst false).framer.engine = some e ∧ e.kind = .time ∧ e.stamp = s.clock.now := by
  obtain ⟨w, hwnow, hwengine, hwidle, -, hwyield, -, -, -, -, hclocked, hstarted⟩ :=
    released_starts hhanded hboundary hengine hmuted hlast
  have hsampled := sampleInputs_frame s
  have hlooks : Frame [.filters, .sampled, .schedule, .outputs, .store] s s.sampleInputs.takeLooks :=
    (hsampled.mono).trans ((takeLooks_frame_of_empty (Eq.trans (hsampled.same .outbox) harms)).mono)
  have hx := takeEnds_frame_of_young ((engineYoung_of_none hengine).of_frame hlooks)
  have hxmonitor : Part.monitor.same s.sampleInputs.takeLooks s.endsTaken :=
    takeEnds_monitor_of_window ((hlooks.same .monitor).1.trans hwindow)
  have hends := (periodEnd_clockFirst false s).clocked_open hhanded hopen hboundary
  obtain ⟨q, hq⟩ : ∃ q, q = s.sampleInputs.takeLooks := ⟨_, rfl⟩
  have hxeq : q.takeEnds = s.endsTaken := by rw [hq, endsTaken]
  rw [← hq, hxeq] at hx
  rw [← hq] at hlooks hxmonitor
  obtain ⟨x, hxdef⟩ : ∃ x, x = s.endsTaken := ⟨_, rfl⟩
  rw [← hxdef] at hx hxmonitor hends hclocked hstarted
  have hxempty : x.arms.outbox = [] := Eq.trans (hx.same .outbox) ((hlooks.same .outbox).trans harms)
  have hxw : Frame [.clock, .outputs, .tx, .collisions, .schedule, .store] x w := by
    have hk : Frame [.clock, .outputs, .tx, .collisions, .schedule, .store] x (x.clockPeriod false) := by
      rw [hends]
      exact ((setClock_frame x _).mono).trans
        ((boundaryWork_frame_of_empty (s := x.setClock x.advances.clock) hxempty).mono)
    exact hk.trans (hclocked.mono)
  obtain ⟨r, hr⟩ : ∃ r, r = w.refreshTx := ⟨_, rfl⟩
  have hwr : Frame [.tx] w r := hr ▸ refreshTx_frame w
  have hxr : Frame [.clock, .outputs, .tx, .collisions, .schedule, .store] x r := hxw.trans (hwr.mono)
  have hsx : Frame [.filters, .sampled, .schedule, .outputs, .store, .silence, .receiver, .counters, .symbol, .monitor] s x :=
    (hlooks.mono).trans (hx.mono)
  have hrtime : r.agreement.timeFrame = .pending := Eq.trans (hxr.same .timeFrame) ((hsx.same .timeFrame).trans htime)
  have hrconfig : r.config = s.config := Eq.trans (hxr.same .config) (hsx.same .config)
  have hrclassB : r.classB = true := (classB_eq_true_iff r).2 (.inl hrtime)
  have hrpending : r.contentPending = true := by rw [contentPending, hrclassB, Bool.or_true]
  have hrwaiting : r.access.tx = .waiting := by
    have hfollows := reportAt_follows (s := w) w.now (.inl hwidle)
    have hreq : w.reportAt w.now = r := hr.symm
    rw [hreq, if_pos hrpending] at hfollows
    exact hfollows
  obtain ⟨hmonitor, -, hindex', hcount', htaken'⟩ := hxr.same .monitor
  obtain ⟨hxmonitor', -, hxindex, hxcount, hxtaken⟩ := hxmonitor
  obtain ⟨hlmonitor, -, hlindex, hlcount, hltaken⟩ := hlooks.same .monitor
  have hrslot : r.slotDue = true := (slotDue_iff r).2
    ⟨hmonitor.trans (hxmonitor'.trans (hlmonitor.trans hwindow)), hcount'.trans (hxcount.trans (hlcount.trans hcount)),
      htaken'.trans (hxtaken.trans (hltaken.trans htaken))⟩
  have hryield : r.access.yield = true := ((hwr.same .collisions).1.trans hwyield).trans hyield
  have hrbegins : r.slotBegins = true := by
    refine (slotBegins_iff_of_yield hryield).2 ⟨?_, .inr hrclassB⟩
    rw [hindex', hxindex, hlindex, hindex, hrconfig]
  have hrclassA : r.classA = false :=
    classA_of_empty (Eq.trans (hxr.same .outbox) hxempty) (Eq.trans (hxr.same .cancels) ((hsx.same .cancels).trans hcancels))
  obtain ⟨htx, hyield', e, hsome, hkind, hstamp, hage⟩ :=
    takeSlot_time hrslot hrwaiting (Eq.trans (hwr.same .engine) hwengine) hrbegins hrclassA hrtime
  have hstarts : w.takeStarts x.storeNow = r.takeSlot.acceptEdges x.storeNow := by
    rw [takeStarts_eq_of_young _ (engineYoung_of_none hwengine), hr]
  obtain ⟨z, hz⟩ : ∃ z, z = (x.clockThenStarts false).countPeriod := ⟨_, rfl⟩
  have hslotted : Frame [.events, .store, .outbox, .nextId, .filters, .clock, .symbol, .silence, .ripe, .engine, .monitor, .sampled]
      r.takeSlot z := by
    rw [hz]
    refine Frame.trans ?_ ((countPeriod_frame _).mono)
    rw [hstarts] at hstarted
    exact ((acceptEdges_frame _ _).mono).trans (hstarted.mono)
  have hzengine : z.framer.engine = some e.period := by
    have hmap : z.framer.engine = (x.clockThenStarts false).framer.engine.map Engine.period := by rw [hz]; rfl
    rw [hstarts] at hstarted
    rw [hmap, Eq.trans (hstarted.same .engine) ((acceptEdges_frame _ _).same .engine), hsome]
    rfl
  have hlastly : s.endPeriodClockFirst false = (z.reportAt s.now).markLate s := by rw [endPeriodClockFirst_eq, hz, hxdef]
  have hreport := reportAt_frame z s.now
  have hztx : z.access.tx = .sending := (hslotted.same .tx).1.trans htx
  have hrnow : r.clock.now = s.clock.now := (congrArg LineClock.now (hwr.same .clock)).trans hwnow
  have hperiod : e.period = { e with age := e.age + 1 } := if_pos (by omega)
  rw [hlastly]
  refine ⟨(reportAt_tx _ (by simp [hztx]) (by simp [hztx])).trans hztx, ?_, e.period, Eq.trans (hreport.same .engine) hzengine, ?_, ?_⟩
  · exact ((hreport.same .collisions).1.trans (hslotted.same .collisions).1).trans hyield'
  · rw [hperiod]
    exact hkind
  · rw [hperiod]
    exact hstamp.trans hrnow

end State

open State

theorem exec_overtimeEnd {s : State} (hheld : s.resetHeld = false) (hended : s.advances.overtimeEnded = true) :
    exec .overtimeEnd s = .next ((inPeriod s).endPeriodClockFirst false) :=
  exec_closes (ends := endPeriodClockFirst false) (due := overtimeEndDue) hheld rfl hended

theorem exec_muteEnd {s : State} (hheld : s.resetHeld = false) (hboundary : s.advances.boundary = true) (hmuted : s.access.tx = .muted)
    (hlast : s.access.mute = 1) : exec .muteEnd s = .next ((inPeriod s).endPeriodClockFirst false) := by
  refine exec_closes (ends := endPeriodClockFirst false) (due := muteEndDue) hheld rfl ?_
  have hboundary' : (inPeriod s).advances.boundary = true := hboundary
  simp [muteEndDue, hboundary', hmuted, hlast]

section OpenBoundary

variable {s : State}

/-- What a boundary without a close leaves, by either of its commands. -/
structure OpenBoundary (s t : State) : Prop where
  clock : t.clock = s.advances.clock
  agreement : t.agreement = { s.agreement with timeFrame := t.agreement.timeFrame }
  mute : MuteFalls s t
  frame : PeriodFrame s t
  outputs : s.schedule = [] → s.framer.engine = none → ∀ i : Fin 8, (s.config.outputs[i]).mode = .round →
    (s.outputs[i]).condition = .acting → (s.outputs[i]).latchRound ≠ some s.advances.clock.now.round → (s.outputs[i]).pulseEnd = none →
      t.outputs[i] = { s.outputs[i] with level := false, latchRound := none }

variable (hhanded : s.clock.handed = none) (hopen : s.advances.closed = false) (hboundary : s.advances.boundary = true)

include hhanded hopen hboundary

theorem openBoundary_named : OpenBoundary s s.endPeriodNamed where
  clock := (periodEnd_named s).clock
  agreement := ((periodEnd_named s).agreement_of_open hhanded hopen).agreement
  mute := muteFalls_named hhanded hboundary
  frame := (periodEnd_named s).frame hhanded
  outputs := fun hempty hengine _ hmode hacting hlatch hpulse => (periodEnd_named s).round_output hhanded hopen hboundary
    (quietEnd_named (engineYoung_of_none hengine) (headAhead_of_empty hempty)) hempty hmode hacting hlatch hpulse

theorem openBoundary_clockFirst : OpenBoundary s (s.endPeriodClockFirst false) where
  clock := (periodEnd_clockFirst false s).clock
  agreement := ((periodEnd_clockFirst false s).agreement_of_open hhanded hopen).agreement
  mute := muteFalls_clockFirst hhanded false hboundary
  frame := (periodEnd_clockFirst false s).frame hhanded
  outputs := fun hempty hengine _ hmode hacting hlatch hpulse => (periodEnd_clockFirst false s).round_output hhanded hopen hboundary
    (quietEnd_clockFirst false (engineYoung_of_none hengine) (headAhead_of_empty hempty)) hempty hmode hacting hlatch hpulse

end OpenBoundary

/-- A boundary without a close, of the station whose period a command ends. -/
theorem openBoundary_inPeriod {s t : State} (h : OpenBoundary (inPeriod s) t) : OpenBoundary s t :=
  ⟨h.clock, h.agreement, h.mute, h.frame, h.outputs⟩

theorem open_by_command {s : State} {command : Instr} (hcommand : command = .overtimeEnd ∨ command = .referencePeriod)
    (hheld : s.resetHeld = false) (hhanded : s.clock.handed = none) (hopen : s.advances.closed = false)
    (hboundary : s.advances.boundary = true) (hended : s.advances.overtimeEnded = true) :
    ∃ t, exec command s = .next t ∧ OpenBoundary s t := by
  rcases hcommand with rfl | rfl
  · exact ⟨_, exec_overtimeEnd hheld hended,
      openBoundary_inPeriod (openBoundary_clockFirst (s := inPeriod s) hhanded hopen hboundary)⟩
  · exact ⟨_, exec_referencePeriod hheld hhanded,
      openBoundary_inPeriod (openBoundary_named (s := inPeriod s) hhanded hopen hboundary)⟩

/-- Settles O11: the boundary of a period without a close, and a transmitter that it releases before the slot start. -/
theorem overtimeEndMakesTheBoundary : Obligations.OvertimeEndMakesTheBoundary := by
  refine ⟨fun s command hcommand h hovertime => ?_, fun s h hovertime hengine hmuted hlast => ?_, fun s h hovertime hlen => ?_,
    fun s c h hc hforward hengine hmuted hlast => ?_⟩
  · have hadvances := advances_last_tick h hovertime
    obtain ⟨hheld, -, -, hhanded⟩ := h
    obtain ⟨t, hexec, ht⟩ := open_by_command hcommand hheld hhanded (by rw [hadvances]) (by rw [hadvances]) (by rw [hadvances])
    refine ⟨t, hexec, ht.clock.trans (by rw [hadvances]), ht.agreement, ht.mute, ht.frame, ?_⟩
    have houtputs := ht.outputs
    rw [hadvances] at houtputs
    exact houtputs
  · have hadvances := advances_last_tick h hovertime
    obtain ⟨hheld, -, -, hhanded⟩ := h
    have hopen : s.advances.closed = false := by rw [hadvances]
    have hboundary : s.advances.boundary = true := by rw [hadvances]
    have hend := periodEnd_clockFirst false (inPeriod s)
    have hclock : ((inPeriod s).endPeriodClockFirst false).clock = s.advances.clock := hend.clock
    obtain ⟨hmute, hrotation, hcollisions⟩ := released_counts (s := inPeriod s) hhanded hboundary hengine hmuted hlast
    refine ⟨_, exec_muteEnd hheld hboundary hmuted hlast, hmute, hrotation, hcollisions,
      released_tap (s := inPeriod s) hhanded hboundary hengine hmuted hlast hopen, ?_, hend.frame hhanded,
      released_follows (s := inPeriod s) hhanded hboundary hengine hmuted hlast,
      released_begins (s := inPeriod s) hhanded hopen hboundary hengine hmuted hlast⟩
    rw [hclock, hadvances]
  · have hadvances := advances_last_ticks h hovertime hlen
    obtain ⟨hheld, -, -, -, hhanded⟩ := h
    obtain ⟨t, hexec, ht⟩ := open_by_command (.inl rfl) hheld hhanded (by rw [hadvances]) (by rw [hadvances]) (by rw [hadvances])
    exact ⟨t, hexec, ht.clock.trans (by rw [hadvances]), ht.agreement, ht.mute, ht.frame⟩
  · have hcorrection : s.closeFigures.correction = c := hc
    have hadvances := advances_of_closing h
    rw [hcorrection, closeRound_forward hforward] at hadvances
    have hhanded := closing_handed h
    have hboundary : s.advances.boundary = true := by rw [hadvances]
    have hend := periodEnd_clockFirst false (inPeriod s)
    have hclock : ((inPeriod s).endPeriodClockFirst false).clock = s.advances.clock := hend.clock
    obtain ⟨hmute, hrotation, hcollisions⟩ := released_counts (s := inPeriod s) hhanded hboundary hengine hmuted hlast
    refine ⟨_, exec_muteEnd h.1.1 hboundary hmuted hlast, hmute, hrotation, hcollisions, ?_, hend.frame hhanded,
      released_follows (s := inPeriod s) hhanded hboundary hengine hmuted hlast⟩
    rw [hclock, hadvances]
    rfl

end Sys2Proof.Machine

/-! The counts in reference periods (R117 to R119, R122, R133, R138, R139): what the ends on the line leave of the line monitor, of the
symbol on LRX, of the silence and of the transmit engine, and what one more reference period makes of them. -/

namespace Sys2Proof.Machine

set_option Elab.async false

open Safety

namespace State

/-! ### The ends on the line -/

theorem takeQuiet_silence (s : State) : s.takeQuiet.framer.silence = s.framer.silence := by
  have counted : ((s.setFramer { s.framer with quietFound := true }).count .truncated).framer.silence = s.framer.silence :=
    ((count_frame (s.setFramer { s.framer with quietFound := true }) .truncated).same .silence).1
  unfold takeQuiet
  simp only
  split_ifs
  · split
    · exact counted
    · rfl
    · rfl
  · rfl

theorem takeQuiet_receiver_off (s : State) : s.takeQuiet.framer.receiver = .off ↔ s.framer.receiver = .off := by
  unfold takeQuiet
  simp only
  split_ifs with hdue
  · split
    · next h => simp [setReceiver, h]
    · next h => simp [setReceiver, h]
    · exact Iff.rfl
  · exact Iff.rfl

/-- The line monitor as the end of a kind bit and the end of the gap leave it (R139). -/
def lineMonitor (s : State) : Access :=
  match s.access.monitor with
  | .busy => if s.framer.symbol = .recognised 40 then { s.access with monitor := .gap, gapCount := 0 } else s.access
  | .gap => if s.access.gapCount = 120 then
      { s.access with monitor := .window, slotIndex := 0, slotCount := 0, slotTaken := false }
    else s.access
  | .window => s.access

/-- The ends on the line, but for the end of a frame, by the parts that count reference periods. -/
structure LineEnded (s u : State) : Prop where
  symbol : u.framer.symbol = if s.framer.symbol = .recognised 40 then .none else s.framer.symbol
  silence : u.framer.silence = if s.framer.symbol = .recognised 40 then 0 else s.framer.silence
  receiver : u.framer.receiver = .off ↔ s.framer.receiver = .off
  monitor : u.access.monitor = s.lineMonitor.monitor ∧ u.access.gapCount = s.lineMonitor.gapCount ∧
    u.access.slotIndex = s.lineMonitor.slotIndex ∧ u.access.slotCount = s.lineMonitor.slotCount

theorem endSymbol_framer (s : State) : s.endSymbol.framer = if s.framer.symbol = .recognised 40 then
    { s.framer with symbol := .none, silence := 0, quietFound := false } else s.framer := by
  unfold endSymbol
  simp only
  split_ifs <;> rfl

theorem endSymbol_access (s : State) : s.endSymbol.access = if s.framer.symbol = .recognised 40 ∧ s.access.monitor = .busy then
    { s.access with monitor := .gap, gapCount := 0 } else s.access := by
  unfold endSymbol
  simp only
  split_ifs <;> simp_all

theorem completeGap_access (s : State) : s.completeGap.access = if s.access.monitor = .gap ∧ s.access.gapCount = 120 then
    { s.access with monitor := .window, slotIndex := 0, slotCount := 0, slotTaken := false } else s.access := by
  unfold completeGap
  split_ifs <;> rfl

theorem lineMonitor_eq {s : State} : s.endSymbol.completeGap.access = s.lineMonitor := by
  rw [completeGap_access, endSymbol_access, lineMonitor]
  cases hmonitor : s.access.monitor <;> by_cases hsymbol : s.framer.symbol = .recognised 40 <;> simp [hsymbol, hmonitor]

theorem lineMonitor_of_quiet (s : State) : s.takeQuiet.lineMonitor = s.lineMonitor := by
  have hframe := takeQuiet_frame s
  have hsymbol : s.takeQuiet.framer.symbol = s.framer.symbol := hframe.same .symbol
  rw [lineMonitor, lineMonitor, hframe.access, hsymbol]

theorem lineEnded (s : State) : LineEnded s s.takeQuiet.endSymbol.completeGap := by
  obtain ⟨q, hq⟩ : ∃ q, q = s.takeQuiet := ⟨_, rfl⟩
  have hsymbol : q.framer.symbol = s.framer.symbol := hq ▸ (takeQuiet_frame s).same .symbol
  have hgap := completeGap_frame q.endSymbol
  have hgapSymbol : q.endSymbol.completeGap.framer.symbol = q.endSymbol.framer.symbol := hgap.same .symbol
  have hgapReceiver : q.endSymbol.completeGap.framer.receiver = q.endSymbol.framer.receiver := hgap.same .receiver
  have hmonitor : q.endSymbol.completeGap.access = s.lineMonitor := by rw [lineMonitor_eq, hq, lineMonitor_of_quiet]
  rw [← hq]
  refine ⟨?_, ?_, ?_, by rw [hmonitor]; exact ⟨rfl, rfl, rfl, rfl⟩⟩
  · rw [hgapSymbol, endSymbol_framer, hsymbol]
    split <;> first | rfl | exact hsymbol
  · rw [(hgap.same .silence).1, endSymbol_framer, hsymbol]
    split
    · rfl
    · exact hq ▸ takeQuiet_silence s
  · have hoff : q.endSymbol.framer.receiver = q.framer.receiver := (endSymbol_frame q).same .receiver
    rw [hgapReceiver, hoff, hq]
    exact takeQuiet_receiver_off s

/-- What leaves the line and its counts leaves the ends on the line as they were taken, but for the mark of a slot's start. -/
theorem LineEnded.of_frame {ps : List Part} {s u v : State} (h : LineEnded s u) (hframe : Frame ps u v)
    (hps : ∀ p ∈ [Part.symbol, .silence, .receiver, .monitor], p ∉ ps := by decide) : LineEnded s v := by
  obtain ⟨hmonitor, hgap, hindex, hcount, -⟩ := hframe.same .monitor (hps _ (by decide))
  obtain ⟨hmonitor', hgap', hindex', hcount'⟩ := h.monitor
  have hreceiver : v.framer.receiver = u.framer.receiver := hframe.same .receiver (hps _ (by decide))
  exact ⟨(hframe.same .symbol (hps _ (by decide))).trans h.symbol, (hframe.same .silence (hps _ (by decide))).1.trans h.silence,
    by rw [hreceiver]; exact h.receiver, hmonitor.trans hmonitor', hgap.trans hgap', hindex.trans hindex', hcount.trans hcount'⟩

/-- The slot start changes no more of the line monitor than its mark. -/
theorem takeSlot_monitor (s : State) : s.takeSlot.access.monitor = s.access.monitor ∧ s.takeSlot.access.gapCount = s.access.gapCount ∧
    s.takeSlot.access.slotIndex = s.access.slotIndex ∧ s.takeSlot.access.slotCount = s.access.slotCount := by
  obtain ⟨u, hu⟩ : ∃ u, u = s.setAccess { s.access with slotTaken := true } := ⟨_, rfl⟩
  have hstarted : u.access.monitor = s.access.monitor ∧ u.access.gapCount = s.access.gapCount ∧
      u.access.slotIndex = s.access.slotIndex ∧ u.access.slotCount = s.access.slotCount := by
    rw [hu]
    exact ⟨rfl, rfl, rfl, rfl⟩
  have hbegun : Frame [.armsInFlight, .timeFrame, .eventsInFlight, .engine, .tx, .collisions] u u.assemble.refreshTx :=
    ((assemble_frame u).mono).trans ((refreshTx_frame _).mono)
  unfold takeSlot
  simp only
  rw [← hu]
  split_ifs
  · obtain ⟨h1, h2, h3, h4, -⟩ := hbegun.same .monitor
    exact ⟨h1.trans hstarted.1, h2.trans hstarted.2.1, h3.trans hstarted.2.2.1, h4.trans hstarted.2.2.2⟩
  · exact hstarted
  · exact ⟨rfl, rfl, rfl, rfl⟩

theorem LineEnded.of_takeSlot {s u : State} (h : LineEnded s u) : LineEnded s u.takeSlot := by
  have hframe := takeSlot_frame u
  have hreceiver : u.takeSlot.framer.receiver = u.framer.receiver := hframe.same .receiver
  obtain ⟨hmonitor, hgap, hindex, hcount⟩ := takeSlot_monitor u
  obtain ⟨hmonitor', hgap', hindex', hcount'⟩ := h.monitor
  exact ⟨Eq.trans (hframe.same .symbol) h.symbol, (hframe.same .silence).1.trans h.silence, by rw [hreceiver]; exact h.receiver,
    hmonitor.trans hmonitor', hgap.trans hgap', hindex.trans hindex', hcount.trans hcount'⟩

theorem lineEnded_takeLine (judged : LineTime) (s : State) : LineEnded s (s.takeEnds.takeStarts judged) := by
  have hends : LineEnded s s.takeEnds := (lineEnded s).of_frame (endFrame_frame _)
  exact (((hends.of_frame (endQuash_frame _)).of_frame (refreshTx_frame _)).of_takeSlot).of_frame (acceptEdges_frame judged _)

/-- Stations of one line have the ends on it alike. -/
theorem LineEnded.of_before {ps : List Part} {s u v : State} (h : LineEnded u v) (hframe : Frame ps s u)
    (hps : ∀ p ∈ [Part.symbol, .silence, .receiver, .monitor], p ∉ ps := by decide) : LineEnded s v := by
  obtain ⟨hmonitor, hgap, hindex, hcount, htaken⟩ := hframe.same .monitor (hps _ (by decide))
  have hsymbol : u.framer.symbol = s.framer.symbol := hframe.same .symbol (hps _ (by decide))
  have hreceiver : u.framer.receiver = s.framer.receiver := hframe.same .receiver (hps _ (by decide))
  have hline : u.lineMonitor.monitor = s.lineMonitor.monitor ∧ u.lineMonitor.gapCount = s.lineMonitor.gapCount ∧
      u.lineMonitor.slotIndex = s.lineMonitor.slotIndex ∧ u.lineMonitor.slotCount = s.lineMonitor.slotCount := by
    rw [lineMonitor, lineMonitor, hmonitor, hgap, hsymbol]
    cases hm : s.access.monitor with
    | busy =>
      simp only
      split
      · exact ⟨rfl, rfl, hindex, hcount⟩
      · exact ⟨hmonitor, hgap, hindex, hcount⟩
    | gap =>
      simp only
      split
      · exact ⟨rfl, hgap, rfl, rfl⟩
      · exact ⟨hmonitor, hgap, hindex, hcount⟩
    | window => exact ⟨hmonitor, hgap, hindex, hcount⟩
  exact ⟨hsymbol ▸ h.symbol, by rw [h.silence, hsymbol, (hframe.same .silence (hps _ (by decide))).1], by rw [h.receiver, hreceiver],
    hline.1 ▸ h.monitor.1, hline.2.1 ▸ h.monitor.2.1, hline.2.2.1 ▸ h.monitor.2.2.1, hline.2.2.2 ▸ h.monitor.2.2.2⟩

theorem lineEnded_takeDue (s : State) : LineEnded s s.takeDue := by
  have hlooks := looksSampled_frame s
  obtain ⟨q, hq⟩ : ∃ q, q = s.sampleInputs.takeLooks := ⟨_, rfl⟩
  have hdue : s.takeDue = q.takeEnds.takeStarts q.storeNow := by rw [hq, takeDue, takeLine]
  rw [← hq] at hlooks
  rw [hdue]
  exact (lineEnded_takeLine q.storeNow q).of_before hlooks

/-! ### One more reference period -/

/-- What follows the counts in the end of a period leaves them. -/
def Counted (u t : State) : Prop := Frame (.freeIndex :: .lateHandling :: clockParts) u.countPeriod t

section Counts

variable {s u t : State} (hline : LineEnded s u) (hcounted : Counted u t)

include hline hcounted

theorem Counted.symbolAges : SymbolAges s t := by
  have hsymbol : t.framer.symbol = u.framer.symbol.period := hcounted.same .symbol
  rw [hline.symbol] at hsymbol
  refine ⟨fun h => ?_, fun noted adjust age h => ⟨fun hage => ?_, fun hage => ?_⟩, fun age h => ⟨fun hage => ?_, fun hage => ?_⟩,
    fun age h => ⟨fun hage => ?_, fun hage => ?_⟩⟩
  · simpa [h, LineSymbol.period] using hsymbol
  · simpa [h, LineSymbol.period, hage] using hsymbol
  · simpa [h, LineSymbol.period, hage] using hsymbol
  · simpa [h, LineSymbol.period, hage] using hsymbol
  · simpa [h, LineSymbol.period, hage] using hsymbol
  · have hne : age ≠ 40 := by omega
    simpa [h, LineSymbol.period, hage, hne] using hsymbol
  · simpa [h, LineSymbol.period, hage] using hsymbol

theorem Counted.silenceCounts : SilenceCounts s t := by
  intro hoff
  have hsilence : t.framer.silence = silencePeriod u.framer.receiver u.framer.symbol u.framer.silence := (hcounted.same .silence).1
  unfold silencePeriod at hsilence
  rw [if_neg fun h => hoff (hline.receiver.1 h), hline.symbol, hline.silence] at hsilence
  refine ⟨?_, ?_, fun h => ?_⟩
  · rintro (h | ⟨noted, adjust, age, h⟩)
    · rw [h] at hsilence
      refine ⟨fun hage => ?_, fun hage => ?_⟩ <;> simpa [hage, Config.symbolTime] using hsilence
    · rw [h] at hsilence
      refine ⟨fun hage => ?_, fun hage => ?_⟩ <;> simpa [hage, Config.symbolTime] using hsilence
  · rintro (⟨age, h⟩ | ⟨age, hage, h⟩)
    · simpa [h] using hsilence
    · have hne : age ≠ 40 := by omega
      simpa [h, hne] using hsilence
  · simpa [h, Config.symbolTime] using hsilence

theorem Counted.monitorCounts : MonitorCounts s t := by
  obtain ⟨hmonitor, hgap, hindex, hcount, htaken⟩ := hcounted.same .monitor
  obtain ⟨hmonitor', hgap', hindex', hcount'⟩ := hline.monitor
  have hperiod : u.countPeriod.access = u.access.period := rfl
  rw [hperiod] at hmonitor hgap hindex hcount htaken
  refine ⟨fun h hlt => ?_, fun h heq => ?_, fun h hlt => ?_, fun h heq => ?_, fun h hne => ?_, fun h heq => ?_⟩
  · have hline : s.lineMonitor = s.access := by simp [lineMonitor, h, Nat.ne_of_lt hlt]
    rw [hline] at hmonitor' hgap'
    simp [Access.period, hmonitor', hgap', h, hlt, Config.gapTime] at hmonitor hgap
    exact ⟨hmonitor, hgap⟩
  · have hline : s.lineMonitor = { s.access with monitor := .window, slotIndex := 0, slotCount := 0, slotTaken := false } := by
      simp [lineMonitor, h, heq]
    rw [hline] at hmonitor' hindex' hcount'
    simp [Access.period, hmonitor', hindex', hcount', Config.symbolTime] at hmonitor hindex hcount
    exact ⟨hmonitor, hindex, hcount⟩
  · have hline : s.lineMonitor = s.access := by simp [lineMonitor, h]
    rw [hline] at hmonitor' hindex' hcount'
    have hroom : s.access.slotCount + 1 < 40 := by omega
    simp [Access.period, hmonitor', hindex', hcount', h, hroom, Config.symbolTime] at hmonitor hindex hcount
    exact ⟨hmonitor, hindex, hcount⟩
  · have hline : s.lineMonitor = s.access := by simp [lineMonitor, h]
    rw [hline] at hmonitor' hindex' hcount'
    simp [Access.period, hmonitor', hindex', hcount', h, heq, Config.symbolTime, Config.windowSlots] at hmonitor hindex hcount htaken
    exact ⟨hmonitor, hindex, hcount, htaken⟩
  · have hline : s.lineMonitor = s.access := by simp [lineMonitor, h, hne]
    rw [hline] at hmonitor'
    simpa [Access.period, hmonitor', h] using hmonitor
  · have hline : s.lineMonitor = { s.access with monitor := .gap, gapCount := 0 } := by simp [lineMonitor, h, heq]
    rw [hline] at hmonitor' hgap'
    simp [Access.period, hmonitor', hgap', Config.gapTime] at hmonitor hgap
    exact ⟨hmonitor, hgap⟩

end Counts

/-! ### The transmit engine (R117, R122, R138) -/

/-- A frame just begun, stamped with `now` (R122, R10). -/
def Begun (now : LineTime) (e : Engine) : Prop := e.index = 0 ∧ e.age = 0 ∧ e.course = .frame ∧ e.stamp = now

theorem assemble_engine (s : State) :
    s.assemble.framer.engine = s.framer.engine ∨ ∃ e, s.assemble.framer.engine = some e ∧ Begun s.clock.now e := by
  have begun : ∀ (u : State) (kind : FrameKind) (body : List Byte), u.clock = s.clock →
      ∃ e, (u.beginFrame kind body).framer.engine = some e ∧ Begun s.clock.now e := fun u kind body hclock =>
    ⟨⟨kind, frameBytes kind u.config.id body, u.now, 0, 0, false, .frame, false⟩, rfl, rfl, rfl, rfl, congrArg LineClock.now hclock⟩
  unfold assemble
  split_ifs
  · exact .inr (begun _ _ _ rfl)
  · exact .inr (begun _ _ _ rfl)
  · exact .inr (begun _ _ _ rfl)
  · exact .inr (begun _ _ _ rfl)
  · exact .inl rfl

/-- The engine sends one frame at a time. -/
theorem takeSlot_engine_of_some {s : State} {e : Engine} (h : s.framer.engine = some e) : s.takeSlot.framer.engine = some e := by
  unfold takeSlot
  split
  · rw [if_neg fun h' => absurd (h.symm.trans h'.2.1) (by simp)]
    exact h
  · exact h

theorem takeSlot_engine_of_none {s : State} (h : s.framer.engine = none) :
    s.takeSlot.framer.engine = none ∨ ∃ e, s.takeSlot.framer.engine = some e ∧ Begun s.clock.now e := by
  unfold takeSlot
  simp only
  split_ifs
  · obtain ⟨u, hu⟩ : ∃ u, u = s.setAccess { s.access with slotTaken := true } := ⟨_, rfl⟩
    have hclock : u.clock = s.clock := by rw [hu]; rfl
    have hnone : u.framer.engine = none := by rw [hu]; exact h
    rw [← hu]
    have hrefresh : u.assemble.refreshTx.framer.engine = u.assemble.framer.engine := (refreshTx_frame _).same .engine
    rw [hrefresh, ← hclock]
    exact (assemble_engine u).imp_left fun hsame => hsame.trans hnone
  · exact .inl h
  · exact .inl h

theorem takeStarts_engine_of_young {s : State} {e : Engine} (judged : LineTime) (h : s.framer.engine = some e) (hage : e.age ≤ 39) :
    (s.takeStarts judged).framer.engine = some e := by
  have hyoung : EngineYoung s := fun e' he' => by
    obtain rfl : e = e' := Option.some.inj (h.symm.trans he')
    exact hage
  rw [takeStarts_eq_of_young judged hyoung]
  exact Eq.trans ((acceptEdges_frame judged _).same .engine) (takeSlot_engine_of_some (Eq.trans ((refreshTx_frame s).same .engine) h))

theorem takeStarts_engine_of_none {s : State} (judged : LineTime) (h : s.framer.engine = none) :
    (s.takeStarts judged).framer.engine = none ∨
      ∃ e, (s.takeStarts judged).framer.engine = some e ∧ Begun s.clock.now e := by
  have hrefresh := refreshTx_frame s
  obtain ⟨r, hr⟩ : ∃ r, r = s.refreshTx := ⟨_, rfl⟩
  have hclock : r.clock = s.clock := hr ▸ hrefresh.same .clock
  have haccept : (r.takeSlot.acceptEdges judged).framer.engine = r.takeSlot.framer.engine := (acceptEdges_frame judged _).same .engine
  rw [takeStarts_eq_of_young judged (engineYoung_of_none h), ← hr, haccept, ← hclock]
  exact takeSlot_engine_of_none (hr ▸ Eq.trans (hrefresh.same .engine) h)

theorem endFrame_engine_of_ended {s : State} {e : Engine} (h : s.framer.engine = some e) (hage : e.age = 40)
    (hend : e.course = .frame ∧ e.bytes.length < e.index ∧ (e.orphan = true ∨ e.readWell = true)) : s.endFrame.framer.engine = none := by
  obtain ⟨hcourse, hindex, hwell⟩ := hend
  have hshut : e.atShut = true := by simp [Engine.atShut, hcourse, hindex]
  unfold endFrame
  rw [h]
  simp only
  rw [if_pos ⟨hcourse, hshut, hage⟩]
  split_ifs with horphan hwell'
  · rfl
  · have hgood : Frame [.outbox, .cancels, .armsInFlight, .filters, .history, .schedule, .outputs, .store, .timeFrame, .events,
        .eventsInFlight, .tx] ((s.setEngine none).setAccess { s.access with rotation := s.config.id, collisions := 0 })
        (s.goodEnd e.kind).refreshTx := by
      refine Frame.trans ?_ ((refreshTx_frame _).mono)
      exact ((reportSent_frame _ _).mono).trans ((setTx_frame _ _).mono)
    exact hgood.same .engine
  · exact absurd hwell (by simp [horphan, hwell'])

theorem endQuash_engine_of_quash {s : State} {e : Engine} (h : s.framer.engine = some e) (hage : e.age = 40) (hquash : e.course = .quash) :
    s.endQuash.framer.engine = none := by
  unfold endQuash
  rw [h]
  simp only
  rw [if_pos ⟨hquash, hage⟩]
  split
  · rfl
  · obtain ⟨r, hr⟩ : ∃ r, r = ((s.setEngine none).setAccess
      { s.access with collisions := s.access.collisions + 1, yield := true }).reportCollided e.kind := ⟨_, rfl⟩
    have hreported : r.framer.engine = none := by
      rw [hr]
      exact (reportCollided_frame _ _).same .engine
    have hif : s.collisionEnd e.kind = if Config.muteCollisions ≤ r.access.collisions then r.muteTx else r.setTx .idle := by
      rw [hr]
      rfl
    have hcollision : Frame [.tx, .collisions, .store, .latch] r (s.collisionEnd e.kind).refreshTx := by
      refine Frame.trans ?_ ((refreshTx_frame _).mono)
      rw [hif]
      split
      · exact (muteTx_frame r).mono
      · exact (setTx_frame r _).mono
    exact Eq.trans (hcollision.same .engine) hreported

/-- Where no slot starts the engine is at rest after the end of a frame. -/
theorem takeStarts_engine_of_no_slot {s : State} (judged : LineTime) (hnone : s.endQuash.framer.engine = none)
    (hslot : s.slotDue = false) : (s.takeStarts judged).framer.engine = none := by
  obtain ⟨q, hq⟩ : ∃ q, q = s.endQuash := ⟨_, rfl⟩
  have hqslot : q.slotDue = false := by
    rw [hq]
    exact (slotDue_of_monitor ((endQuash_frame s).same .monitor)).trans hslot
  rw [← hq] at hnone
  have hyoung := engineYoung_of_none hnone
  have hstarts : s.takeStarts judged = q.takeStarts judged := by rw [takeStarts_eq_of_young judged hyoung, takeStarts, hq]
  rw [hstarts]
  exact Eq.trans ((takeStarts_frame_of_no_slot judged hyoung hqslot).same .engine) hnone

/-- The transmit engine as the happenings of a period leave it before it is counted. -/
structure EngineTaken (s u : State) : Prop where
  none : s.framer.engine = none → u.framer.engine = none ∨ ∃ e, u.framer.engine = some e ∧ Begun s.clock.now e
  young : ∀ e, s.framer.engine = some e → e.age ≤ 39 → u.framer.engine = some e
  ended : ∀ e, s.framer.engine = some e → e.age = 40 →
    e.course = .quash ∨ e.course = .frame ∧ e.bytes.length < e.index ∧ (e.orphan = true ∨ e.readWell = true) →
      NoSlotStart s → u.framer.engine = .none

theorem engineTaken_takeLine (judged : LineTime) (s : State) : EngineTaken s (s.takeEnds.takeStarts judged) where
  none := fun h => by
    have hends := takeEnds_frame_of_young (engineYoung_of_none h)
    have hclock : s.takeEnds.clock = s.clock := hends.same .clock
    have hstarts := takeStarts_engine_of_none judged (s := s.takeEnds) (Eq.trans (hends.same .engine) h)
    rwa [hclock] at hstarts
  young := fun e h hage => by
    have hyoung : EngineYoung s := fun e' he' => by
      obtain rfl : e = e' := Option.some.inj (h.symm.trans he')
      exact hage
    exact takeStarts_engine_of_young judged (Eq.trans ((takeEnds_frame_of_young hyoung).same .engine) h) hage
  ended := fun e h hage hend hslot => by
    refine takeStarts_engine_of_no_slot judged ?_ (takeEnds_slotDue hslot)
    have hline : s.takeQuiet.endSymbol.completeGap.framer.engine = some e := Eq.trans ((lineEnds_frame s).same .engine) h
    rcases hend with hquash | hframe
    · have hends : s.takeEnds.framer.engine = some e := by
        rw [takeEnds, endFrame_of_quash hline hquash]
        exact hline
      exact endQuash_engine_of_quash hends hage hquash
    · have hends : s.takeEnds.framer.engine = .none := endFrame_engine_of_ended hline hage hframe
      rw [endQuash_of_young (engineYoung_of_none hends)]
      exact hends

theorem engineTaken_takeDue (s : State) : EngineTaken s s.takeDue := by
  have hlooks := looksSampled_frame s
  obtain ⟨q, hq⟩ : ∃ q, q = s.sampleInputs.takeLooks := ⟨_, rfl⟩
  have hdue : s.takeDue = q.takeEnds.takeStarts q.storeNow := by rw [hq, takeDue, takeLine]
  rw [← hq] at hlooks
  rw [hdue]
  have hengine : q.framer.engine = s.framer.engine := hlooks.same .engine
  have hnow : q.clock.now = s.clock.now := congrArg LineClock.now (hlooks.same .clock)
  have htaken := engineTaken_takeLine q.storeNow q
  exact ⟨fun h => hnow ▸ htaken.none (hengine.trans h), fun e h => htaken.young e (hengine.trans h),
    fun e h hage hend hslot => htaken.ended e (hengine.trans h) hage hend (noSlotStart_of_frame hslot hlooks)⟩

theorem lde_of_engine {s : State} {e : Engine} (h : s.framer.engine = some e) : s.lde = decide (e.age < 40) := by
  rw [lde, h]

theorem lde_of_none {s : State} (h : s.framer.engine = none) : s.lde = false := by rw [lde, h]

theorem ltx_of_engine {s : State} {e : Engine} (h : s.framer.engine = some e) (hage : e.age < 40) :
    s.ltx = e.symbol.bits.getLsbD (e.age / 4) := by
  rw [ltx, h]
  exact if_pos hage

end State

theorem Engine.nextSymbol_of_frame {e : Engine} (hcourse : e.course = .frame) (hindex : e.index ≤ e.bytes.length) :
    e.nextSymbol = { e with index := e.index + 1, age := 0, readWell := false } := by
  have hshut : e.atShut = false := by simp [Engine.atShut, Nat.not_lt.2 hindex]
  simp [Engine.nextSymbol, hcourse, hshut]

theorem Engine.nextSymbol_of_shut {e : Engine} (hcourse : e.course = .frame) (hindex : e.bytes.length < e.index) :
    e.nextSymbol = { e with age := 40 } := by
  have hshut : e.atShut = true := by simp [Engine.atShut, hcourse, hindex]
  simp [Engine.nextSymbol, hcourse, hshut]

namespace State

theorem Counted.engineMoves {s u t : State} (htaken : EngineTaken s u) (hcounted : Counted u t) : EngineMoves s t := by
  have hengine : t.framer.engine = u.framer.engine.map Engine.period := hcounted.same .engine
  have young : ∀ e, s.framer.engine = some e → e.age ≤ 39 → t.framer.engine = some e.period := fun e he hage => by
    rw [hengine, htaken.young e he hage]
    rfl
  refine ⟨fun hnone => ?_, fun e he => ⟨fun hage => ?_, fun hage => ?_, fun hage => ?_, fun hage hend hslot => ?_⟩⟩
  · rcases htaken.none hnone with hrest | ⟨e, hsome, hindex, hage, hcourse, hstamp⟩
    · exact .inl (by rw [hengine, hrest]; rfl)
    · refine .inr ⟨{ e with age := e.age + 1 }, ?_, hindex, by simp [hage], hcourse, hstamp⟩
      rw [hengine, hsome, Option.map_some, Engine.period, if_pos (by omega)]
  · have ht : t.framer.engine = some { e with age := e.age + 1 } := by
      rw [young e he (by omega), Engine.period, if_pos hage]
    refine ⟨ht, (lde_of_engine ht).trans (by simp; omega), ltx_of_engine ht ?_⟩
    show e.age + 1 < 40
    omega
  · have ht : t.framer.engine = some (if e.readWell = true ∨ e.course ≠ .frame ∨ e.orphan = true then { e with age := 39 } else e) := by
      rw [young e he (by omega), Engine.period, if_neg (by omega), if_pos hage]
    refine ⟨fun hgo => by rw [ht, if_pos hgo], fun hwell hcourse horphan => ?_, ?_⟩
    · rw [ht, if_neg (by simp [hwell, hcourse, horphan])]
    · rw [lde_of_engine ht]
      split <;> simp [hage]
  · have ht : t.framer.engine = some e.nextSymbol := by
      rw [young e he (by omega), Engine.period, if_neg (by omega), if_neg (by omega), if_pos hage]
    refine ⟨fun hcourse hindex => ?_, fun hcourse hindex => ?_, fun hcourse => ?_, fun hcourse => ?_⟩
    · rw [Engine.nextSymbol_of_frame hcourse hindex] at ht
      exact ⟨ht, lde_of_engine ht⟩
    · rw [Engine.nextSymbol_of_shut hcourse hindex] at ht
      exact ⟨ht, lde_of_engine ht⟩
    · have hnext : e.nextSymbol = { e with course := .quash, age := 0 } := by simp [Engine.nextSymbol, hcourse]
      rw [hnext] at ht
      exact ⟨ht, lde_of_engine ht⟩
    · have hnext : e.nextSymbol = { e with age := 40 } := by simp [Engine.nextSymbol, hcourse]
      rw [hnext] at ht
      exact ⟨ht, lde_of_engine ht⟩
  · have ht : t.framer.engine = none := by
      rw [hengine, htaken.ended e he hage hend hslot]
      rfl
    exact ⟨ht, lde_of_none ht⟩

/-! ### The end of a period -/

theorem counted_endPeriod {s : State} (hheld : s.resetHeld = false) : Counted s.takeDue s.endPeriod := by
  obtain ⟨u, hu⟩ : ∃ u, u = s.takeDue := ⟨_, rfl⟩
  rw [endPeriod, if_neg (ne_true_of_eq_false hheld), ← hu]
  refine Frame.trans ?_ ((markLate_frame _ s).mono)
  exact ((plainClockPeriod_frame _).mono).trans ((reportAt_frame _ _).mono)

theorem Counted.sampled {u t : State} (h : Counted u t) : t.sampled = 0 := h.same .sampled

/-- A handling in progress may end from the end of the period on (R133). -/
theorem counted_ripe {s t : State} (h : Counted s.takeDue t)
    (hhandling : ∃ f, s.framer.bufferA = .handling f ∨ s.framer.bufferB = .handling f) : t.framer.ripe = true := by
  obtain ⟨u, hu⟩ : ∃ u, u = s.takeDue := ⟨_, rfl⟩
  obtain ⟨hA, hB, -⟩ := (takeDue_frame s).same .buffers
  rw [← hu] at h hA hB
  have hripe : t.framer.ripe = (u.framer.ripe || u.handlerBusy) := h.same .ripe
  have hbusy : u.handlerBusy = true := by
    rw [handlerBusy, hA, hB]
    obtain ⟨f, hf | hf⟩ := hhandling
    · simp [hf]
    · rw [hf]
      cases s.framer.bufferA <;> rfl
  rw [hripe, hbusy, Bool.or_true]

/-! ### The advance of a period without a close (R1, R2, R5) -/

theorem advances_withheld {s : State} (hrun : s.clock.running = true) (hhanded : s.clock.handed = none)
    (hpace : 1000000 ≤ s.clock.pace + s.clock.trim.natAbs) (htrim : s.clock.trim < 0) :
    s.advances = ⟨{ s.clock with pace := s.clock.pace + s.clock.trim.natAbs - 1000000 }, false, false, false⟩ :=
  advances_of_withheld hrun hhanded hpace htrim

theorem advances_one_phase {s : State} (h : SingleAdvance s) (hovertime : s.clock.overtime = 0)
    (hphase : s.clock.now.phase + 1 < s.config.roundLength) : s.advances = ⟨{ s.clock with
      pace := s.clock.pace + s.clock.trim.natAbs, now := ⟨s.clock.now.round, s.clock.now.phase + 1⟩ }, false, false, false⟩ := by
  obtain ⟨pace, hpace⟩ : ∃ pace, pace = s.clock.pace + s.clock.trim.natAbs := ⟨_, rfl⟩
  rw [advances_of_single h, ← hpace]
  exact singleAdvance_of_phase hovertime hphase

theorem advances_two_phases {s : State} (h : DoubleAdvance s) (hovertime : s.clock.overtime = 0)
    (hphase : s.clock.now.phase + 2 < s.config.roundLength) : s.advances = ⟨{ s.clock with
      pace := s.clock.pace + s.clock.trim.natAbs - 1000000
      now := ⟨s.clock.now.round, s.clock.now.phase + 2⟩ }, false, false, false⟩ := by
  obtain ⟨pace, hpace⟩ : ∃ pace, pace = s.clock.pace + s.clock.trim.natAbs - 1000000 := ⟨_, rfl⟩
  have hfirst : singleAdvance s.len s.closeFigures.correction (s.paced pace) = _ :=
    singleAdvance_of_phase hovertime (by simp only [paced, len]; omega)
  rw [advances_of_double h, ← hpace, hfirst]
  exact singleAdvance_of_phase hovertime (by simp only [paced, len]; omega)

theorem advances_one_tick {s : State} (h : SingleAdvance s) (hovertime : 2 ≤ s.clock.overtime) : s.advances = ⟨{ s.clock with
      pace := s.clock.pace + s.clock.trim.natAbs, overtime := s.clock.overtime - 1 }, false, false, false⟩ := by
  obtain ⟨pace, hpace⟩ : ∃ pace, pace = s.clock.pace + s.clock.trim.natAbs := ⟨_, rfl⟩
  rw [advances_of_single h, ← hpace]
  exact singleAdvance_of_overtime hovertime

theorem advances_two_ticks {s : State} (h : DoubleAdvance s) (hovertime : 3 ≤ s.clock.overtime) : s.advances = ⟨{ s.clock with
      pace := s.clock.pace + s.clock.trim.natAbs - 1000000, overtime := s.clock.overtime - 2 }, false, false, false⟩ := by
  obtain ⟨pace, hpace⟩ : ∃ pace, pace = s.clock.pace + s.clock.trim.natAbs - 1000000 := ⟨_, rfl⟩
  have hfirst : singleAdvance s.len s.closeFigures.correction (s.paced pace) = _ :=
    singleAdvance_of_overtime (by simp only [paced]; omega)
  rw [advances_of_double h, ← hpace, hfirst]
  exact singleAdvance_of_overtime (by simp only [paced]; omega)

/-! ### The commands that change line time, or leave a handling that may be late -/

theorem endHandling_now {s : State} (h : s.lateHandling = false) : s.endHandling.clock.now = s.clock.now := by
  rcases endHandling_clock s with hsame | ⟨base, offset, hhanded | ⟨hlate, -⟩⟩
  · rw [hsame]
  · rw [hhanded]
  · exact absurd (h.symm.trans hlate) (by decide)

theorem scsRise_lateHandling {s : State} (h : s.lateHandling = false) : s.scsRise.lateHandling = false := by
  have habort : s.abortRead.lateHandling = false := by
    unfold abortRead
    split <;> exact h
  unfold scsRise
  simp only
  split_ifs
  · exact h
  · rfl
  · rfl
  · exact habort
  · exact h

theorem bodyDone_lateHandling {s : State} (body : List Byte) (h : s.lateHandling = false) : (s.bodyDone body).lateHandling = false := by
  unfold bodyDone
  simp only
  split
  · split_ifs
    · split
      · obtain ⟨-, -, hlate⟩ := loadGood_reading (s.endRead _) _
        exact hlate.trans h
      · exact h
    · exact h
  · exact h

end State

open State

/-- A period that is not the station's first after a step and brings no close. -/
theorem referencePeriod_open {s : State} {k : LineClock} (hhanded : s.clock.handed = none)
    (hadvances : s.advances = ⟨k, false, false, false⟩) :
    (inPeriod s).endPeriodNamed.clock = k ∧ NoClose s (inPeriod s).endPeriodNamed := by
  have h := periodEnd_named (inPeriod s)
  have hadvances' : (inPeriod s).advances = ⟨k, false, false, false⟩ := hadvances
  refine ⟨h.clock.trans (by rw [hadvances']), (h.agreement_of_open hhanded (by rw [hadvances'])).agreement, ?_⟩
  rw [h.late, hadvances']
  exact Bool.and_false _

theorem exec_referencePeriod_open {s : State} {k : LineClock} (hheld : s.resetHeld = false) (hhanded : s.clock.handed = none)
    (hadvances : s.advances = ⟨k, false, false, false⟩) :
    ∃ t, exec .referencePeriod s = .next t ∧ t.clock = k ∧ NoClose s t ∧ PeriodFrame s t := by
  obtain ⟨hclock, hclose⟩ := referencePeriod_open hhanded hadvances
  exact ⟨_, exec_referencePeriod hheld hhanded, hclock, hclose, (periodEnd_named (inPeriod s)).frame hhanded⟩

/-- The counts that rise whatever else the period brings. -/
theorem exec_referencePeriod_counts {s : State} (hheld : s.resetHeld = false) :
    ∃ t, exec .referencePeriod s = .next t ∧ t.sampled = 0 ∧ MonitorCounts s t ∧ SymbolAges s t ∧ SilenceCounts s t ∧
      EngineMoves s t ∧
      ((∃ f, s.framer.bufferA = .handling f ∨ s.framer.bufferB = .handling f) → t.framer.ripe = true) := by
  have hcounted := counted_endPeriod (s := inPeriod s) hheld
  have hline := lineEnded_takeDue (inPeriod s)
  exact ⟨(inPeriod s).endPeriod, next_unlessHeld hheld State.endPeriod, hcounted.sampled,
    Counted.monitorCounts (s := inPeriod s) hline hcounted, Counted.symbolAges (s := inPeriod s) hline hcounted,
    Counted.silenceCounts (s := inPeriod s) hline hcounted,
    Counted.engineMoves (s := inPeriod s) (engineTaken_takeDue (inPeriod s)) hcounted,
    counted_ripe (s := inPeriod s) hcounted⟩

/-- What alone changes line time, and leaves a released station in which a handling may be late. -/
theorem reading_changed_by {c : Instr} {s t : State} (h : exec c s = .next t) :
    (t.clock.now ≠ s.clock.now →
      EndsPeriod c ∨ c = .fullReset ∨ c = .scsRise ∨ (∃ bytes, c = .bodyReadDone bytes) ∨
        c = .frameHandlingEnd ∧ s.lateHandling = true) ∧
    (s.resetHeld = false → t.lateHandling = true → EndsPeriod c ∨ c = .resetReleased) := by
  by_cases hc : ChangesReading c
  case neg =>
    obtain ⟨u, hexec, ⟨x, hclock⟩, -, hlate⟩ := exec_readingStands c s hc
    obtain rfl : u = t := by simpa [hexec] using h
    exact ⟨fun hne => absurd (by rw [hclock]) hne, fun hheld htrue => absurd ((hlate hheld).symm.trans htrue) (by decide)⟩
  rcases hc with hends | rfl | rfl | ⟨bytes, rfl⟩ | rfl | rfl
  · exact ⟨fun _ => .inl hends, fun _ _ => .inl hends⟩
  · obtain rfl : s.fullReset = t := Host.Outcome.next.inj h
    exact ⟨fun _ => .inr (.inl rfl), fun _ hlate => absurd hlate Bool.false_ne_true⟩
  · refine ⟨fun _ => .inr (.inr (.inl rfl)), fun hheld hlate => ?_⟩
    obtain rfl : (inPeriod s).scsRise = t := Host.Outcome.next.inj ((next_unlessHeld hheld State.scsRise).symm.trans h)
    exact absurd ((scsRise_lateHandling (s := inPeriod s) rfl).symm.trans hlate) (by decide)
  · refine ⟨fun _ => .inr (.inr (.inr (.inl ⟨bytes, rfl⟩))), fun hheld hlate => ?_⟩
    obtain rfl : (inPeriod s).bodyDone bytes = t := Host.Outcome.next.inj ((next_unlessHeld hheld fun u => u.bodyDone bytes).symm.trans h)
    exact absurd ((bodyDone_lateHandling (s := inPeriod s) bytes rfl).symm.trans hlate) (by decide)
  · obtain rfl : (s.whileReleased fun s => s.endHandling.setLateHandling false) = t := Host.Outcome.next.inj h
    refine ⟨fun hne => .inr (.inr (.inr (.inr ⟨rfl, ?_⟩))), fun hheld hlate => ?_⟩
    · by_contra hlate
      refine hne ?_
      unfold whileReleased
      split
      · rfl
      · exact endHandling_now (Bool.eq_false_iff.2 hlate)
    · rw [whileReleased_of_released hheld] at hlate
      exact absurd hlate (by simp)
  · obtain rfl : s.releaseReset = t := Host.Outcome.next.inj h
    refine ⟨fun hne => absurd ?_ hne, fun _ _ => .inr rfl⟩
    unfold releaseReset
    split <;> rfl

/-- Settles O9: by the advances of the period, by the counts that follow them, and by the commands that change line time. -/
theorem referencePeriodAdvancesTheClock : Obligations.ReferencePeriodAdvancesTheClock := by
  refine ⟨fun s hheld hhanded => ?_, fun s h hovertime => ?_, fun s h hovertime => ?_, fun s hheld => exec_referencePeriod_counts hheld,
    fun c s t h => reading_changed_by h⟩
  · refine ⟨_, exec_referencePeriod hheld hhanded, (periodEnd_named (inPeriod s)).frame hhanded, fun hrun => ?_,
      fun hrun hpace htrim => ?_, fun hrun hpace hovertime hphase => ?_, fun hrun hpace htrim hovertime hphase => ?_⟩
    · exact referencePeriod_open hhanded (advances_stopped hrun hhanded)
    · exact referencePeriod_open hhanded (advances_withheld hrun hhanded hpace htrim)
    · exact referencePeriod_open hhanded (advances_one_phase ⟨hheld, hrun, hpace, hhanded⟩ hovertime hphase)
    · exact referencePeriod_open hhanded (advances_two_phases ⟨hheld, hrun, hpace, htrim, hhanded⟩ hovertime hphase)
  · exact exec_referencePeriod_open h.1 h.2.2.2 (advances_one_tick h hovertime)
  · exact exec_referencePeriod_open h.1 h.2.2.2.2 (advances_two_ticks h hovertime)

end Sys2Proof.Machine

/-! The adoption step made (R9, R54, R75, R87, R95): what the blocks make of the new line time. -/

namespace Sys2Proof.Machine

set_option Elab.async false

open Safety

namespace State

/-! ### The Schedule's reaction (R75) -/

/-- The note that an entry leaves with. -/
def entryRecord (s : State) (code : NoteCode) (e : ScheduleEntry) : EventRecord :=
  noteNow s code (BitVec.ofNat 8 e.output.val) e.sender e.tag

theorem foldl_entryNote (code : NoteCode) (es : List ScheduleEntry) (s : State) :
    es.foldl (entryNote · code ·) s = (es.map (s.entryRecord code)).foldl takeRecord s := by
  induction es generalizing s with
  | nil => rfl
  | cons e es ih =>
    have hsame : (s.entryNote code e).entryRecord code = s.entryRecord code := by
      rw [entryNote_eq, takeRecord_eq]
      rfl
    rw [List.foldl_cons, ih, hsame, entryNote_eq]
    rfl

theorem stepSchedule_eq (s : State) : s.stepSchedule =
    (((s.schedule.filter fun e => earlier s.len e.due s.now).map (s.entryRecord .missed)).foldl takeRecord
      (s.setSchedule (s.schedule.filter fun e => !earlier s.len e.due s.now))) := by
  rw [stepSchedule, foldl_entryNote]
  rfl

end State

/-! ### The outputs' reaction (R87) -/

section Output

variable {c : OutputConfig} {len : Nat} {old new : LineTime} {o : Output}

theorem Output.step_of_not_acting (h : o.condition ≠ .acting) : Output.step c len old new o = o := if_neg h

theorem Output.step_of_level (h : c.mode = .level) : Output.step c len old new o = o := by
  unfold Output.step
  rw [h]
  split <;> rfl

theorem Output.step_of_pulse {p : LineTime} (h : o.condition = .acting) (hmode : c.mode = .pulse) (hpulse : o.pulseEnd = some p) :
    Output.step c len old new o = if earlier len new p then o else { o with level := false, pulseEnd := none } := by
  unfold Output.step Output.endPulse reached
  rw [if_pos h, hmode, hpulse]
  cases hreached : earlier len new p <;> simp [hreached]

theorem Output.step_of_round {r : Round} (h : o.condition = .acting) (hmode : c.mode = .round) (hlatch : o.latchRound = some r) :
    Output.step c len old new o = if old.round = new.round then o else { o with level := false, latchRound := none } := by
  unfold Output.step
  rw [if_pos h, hmode, hlatch]
  by_cases hround : old.round = new.round <;> simp [hround]

end Output

namespace State

/-! ### The step made -/

section MakeStep

variable {s : State} {new : LineTime} (hhanded : s.clock.handed = some new)

/-- The Line Clock, the outputs and the inputs after the step, before the Schedule's and the Arm Unit's reactions. -/
def stepDriven (s : State) (new : LineTime) : State :=
  ((s.setClock { s.clock with now := new, overtime := 0, handed := none }).mapOutputs
    fun c o => Output.step c s.len s.now new o).stepCapture

include hhanded

theorem makeStep_reactions : s.makeStep = (s.stepDriven new).stepSchedule.stepArms.lookSchedule := by
  unfold makeStep
  rw [hhanded]
  simp only [LineClock.stepped_of_some _ _ hhanded]
  rfl

/-- The notes of a step in the order in which they are taken: of the Schedule, and then of the arm outbox (R54, R75). -/
def stepNotes (s : State) (new : LineTime) : List EventRecord :=
  (s.schedule.filter fun e => earlier s.len e.due new).map ((s.stepDriven new).entryRecord .missed) ++
    (s.arms.outbox.filter fun r => passedBy s new r && !r.effective).map (s.steppedNote new)

theorem makeStep_eq (hahead : ∀ e ∈ s.schedule, earlier s.len e.due new = true ∨ earlier s.len new e.due = true)
    (hids : (s.arms.outbox.map (·.id)).Nodup) : s.makeStep =
      (((s.stepNotes new).foldl takeRecord
        ((s.stepDriven new).setSchedule (s.schedule.filter fun e => !earlier s.len e.due new))).removeArms (passedBy s new)) := by
  obtain ⟨d, hd⟩ : ∃ d, d = (s.stepDriven new).setSchedule (s.schedule.filter fun e => !earlier s.len e.due new) := ⟨_, rfl⟩
  obtain ⟨q, hq⟩ : ∃ q, q = ((s.schedule.filter fun e => earlier s.len e.due new).map
    ((s.stepDriven new).entryRecord .missed)).foldl takeRecord d := ⟨_, rfl⟩
  have hkept : q = d.setStore q.store := hq ▸ foldl_takeRecord_eq _ _
  have hscheduled : (s.stepDriven new).stepSchedule = q := by
    rw [hq, hd]
    exact stepSchedule_eq _
  have hqarms : q.arms = s.arms := by rw [hkept, hd]; rfl
  have hqpassed : q.armStepped = passedBy s new := by rw [hkept, hd]; rfl
  have hqnote : q.expiredNote = s.steppedNote new := by rw [hkept, hd]; rfl
  have harms : q.stepArms = ((s.stepNotes new).foldl takeRecord d).removeArms (passedBy s new) := by
    rw [stepArms, expireWhere_eq (hqarms ▸ hids), hqpassed, hqarms, hqnote, stepNotes, List.foldl_append, ← hq]
  rw [makeStep_reactions hhanded, hscheduled, harms, ← hd]
  obtain ⟨r, hr⟩ : ∃ r, r = ((s.stepNotes new).foldl takeRecord d).removeArms (passedBy s new) := ⟨_, rfl⟩
  have hframe : Frame [.store, .outbox, .filters] d r := by
    rw [hr]
    exact ((Frame.foldl takeRecord_frame _ d).mono).trans ((removeArms_frame _ _).mono)
  have hschedule : r.schedule = s.schedule.filter fun e => !earlier s.len e.due new := by
    rw [show r.schedule = d.schedule from hframe.same .schedule, hd]
    rfl
  have hnow : r.now = new := by
    rw [now, show r.clock = d.clock from hframe.same .clock, hd]
    rfl
  have hlen : r.len = s.len := by
    rw [len, show r.config = d.config from hframe.same .config, hd]
    rfl
  rw [← hr]
  refine lookSchedule_of_young fun x hx => ?_
  rw [hschedule] at hx
  obtain ⟨hmem, hnot⟩ := List.mem_filter.1 (List.mem_of_mem_head? hx)
  rw [hlen, hnow]
  exact (hahead x hmem).resolve_left (by simpa using hnot)

/-- The station before the looks of the reactions to a step: what they leave but for the store, the outbox and the inputs that its
records release. -/
theorem makeStep_parts (hahead : ∀ e ∈ s.schedule, earlier s.len e.due new = true ∨ earlier s.len new e.due = true)
    (hids : (s.arms.outbox.map (·.id)).Nodup) :
    s.makeStep.schedule = s.schedule.filter (fun e => !earlier s.len e.due new) ∧
    s.makeStep.outputs = (s.stepDriven new).outputs ∧
    s.makeStep.arms = { s.arms with outbox := s.arms.outbox.filter fun r => !passedBy s new r } ∧
    s.makeStep.store = ((s.stepNotes new).foldl takeRecord
      (s.setClock { s.clock with now := new, overtime := 0, handed := none })).store ∧
    s.makeStep.capture.outbox = (s.capture.outbox.map fun e => { e with sure := false }) ∧
    s.makeStep.capture.inFlight = s.capture.inFlight ∧
    ∀ i : Fin 8, (s.makeStep.capture.filters[i]).stable = ((s.stepDriven new).capture.filters[i]).stable ∧
      (s.makeStep.capture.filters[i]).condition = ((s.stepDriven new).capture.filters[i]).condition := by
  obtain ⟨d, hd⟩ : ∃ d, d = (s.stepDriven new).setSchedule (s.schedule.filter fun e => !earlier s.len e.due new) := ⟨_, rfl⟩
  obtain ⟨q, hq⟩ : ∃ q, q = (s.stepNotes new).foldl takeRecord d := ⟨_, rfl⟩
  have hkept : q = d.setStore q.store := hq ▸ foldl_takeRecord_eq _ _
  have hstep : s.makeStep = q.removeArms (passedBy s new) := by
    rw [makeStep_eq hhanded hahead hids, ← hd, ← hq]
  have hleft := removeArms_eq q (passedBy s new)
  have hqstore : q.store = ((s.stepNotes new).foldl takeRecord
      (s.setClock { s.clock with now := new, overtime := 0, handed := none })).store := by
    rw [hq]
    exact foldl_takeRecord_store_congr _ (by rw [hd]; rfl) (by rw [hd]; rfl) (by rw [hd]; rfl) (by rw [hd]; rfl)
  have hqarms : q.arms = s.arms := by rw [hkept, hd]; rfl
  have hqcapture : q.capture = (s.stepDriven new).capture := by rw [hkept, hd]; rfl
  have hqschedule : q.schedule = s.schedule.filter fun e => !earlier s.len e.due new := by rw [hkept, hd]; rfl
  have hqoutputs : q.outputs = (s.stepDriven new).outputs := by rw [hkept, hd]; rfl
  refine ⟨?_, ?_, ?_, ?_, ?_, ?_, fun i => ?_⟩
  · rw [hstep, hleft]
    exact hqschedule
  · rw [hstep, hleft]
    exact hqoutputs
  · rw [hstep, hleft, setCapture_arms, setArms_arms, hqarms]
  · rw [hstep, hleft]
    exact hqstore
  · rw [hstep, hleft, setCapture_capture, hqcapture]
    rfl
  · rw [hstep, hleft, setCapture_capture, hqcapture]
    rfl
  · rw [hstep, removeArms_filters, ← hqcapture]
    split
    · exact ⟨rfl, rfl⟩
    · exact ⟨rfl, rfl⟩

end MakeStep

theorem markStepped_parts (f : InputFilter) : f.markStepped.stable = f.stable ∧
    (f.condition = .stable → f.markStepped.condition = .stable) ∧
    ∀ edge stamp hold stepped, f.condition = .pending edge stamp hold stepped →
      f.markStepped.condition = .pending edge stamp hold true := by
  unfold InputFilter.markStepped
  cases hcondition : f.condition with
  | stable => exact ⟨rfl, fun _ => hcondition, fun _ _ _ _ h => absurd h (by simp)⟩
  | pending edge stamp hold stepped =>
    refine ⟨rfl, fun h => absurd h (by simp), fun edge' stamp' hold' stepped' h => ?_⟩
    obtain ⟨rfl, rfl, rfl, -⟩ := by simpa using h
    rfl

theorem stepDriven_filters (s : State) (new : LineTime) (i : Fin 8) :
    (s.stepDriven new).capture.filters[i] = (s.capture.filters[i]).markStepped := by
  show (Vector.ofFn fun j : Fin 8 => (s.capture.filters[j]).markStepped)[i.val] = _
  rw [Vector.getElem_ofFn]

theorem stepDriven_outputs (s : State) (new : LineTime) (i : Fin 8) :
    (s.stepDriven new).outputs[i] = Output.step (s.config.outputs[i]) s.len s.now new (s.outputs[i]) := by
  show (Vector.ofFn fun j : Fin 8 => Output.step (s.config.outputs[j]) s.len s.now new (s.outputs[j]))[i.val] = _
  rw [Vector.getElem_ofFn]

/-- What a step makes of an output (R87). -/
theorem stepDriven_output (s : State) (new : LineTime) (i : Fin 8) :
    ((s.outputs[i]).condition ≠ .acting → (s.stepDriven new).outputs[i] = s.outputs[i]) ∧
    ((s.config.outputs[i]).mode = .level → (s.stepDriven new).outputs[i] = s.outputs[i]) ∧
    (∀ p, (s.outputs[i]).condition = .acting → (s.config.outputs[i]).mode = .pulse → (s.outputs[i]).pulseEnd = some p →
      (s.stepDriven new).outputs[i] = if earlier s.len new p then s.outputs[i]
        else { s.outputs[i] with level := false, pulseEnd := none }) ∧
    ∀ r, (s.outputs[i]).condition = .acting → (s.config.outputs[i]).mode = .round → (s.outputs[i]).latchRound = some r →
      (s.stepDriven new).outputs[i] = if s.clock.now.round = new.round then s.outputs[i]
        else { s.outputs[i] with level := false, latchRound := none } := by
  rw [stepDriven_outputs]
  exact ⟨Output.step_of_not_acting, Output.step_of_level, fun _ h hmode hpulse => Output.step_of_pulse h hmode hpulse,
    fun _ h hmode hlatch => Output.step_of_round h hmode hlatch⟩

/-- The notes of a step in GATHERING, as the claim writes them. -/
theorem stepNotes_of_gathering {s : State} (new : LineTime) (h : s.agreement.state = .gathering) : s.stepNotes new =
    ((s.schedule.filter fun e => earlier s.len e.due new).map (fun e : ScheduleEntry =>
        (⟨.note .missed (BitVec.ofNat 8 e.output.val), e.sender, false, e.tag, new, false, false, false⟩ : EventRecord))) ++
      (s.arms.outbox.filter fun r =>
          earlier s.len r.action new && !s.arms.inFlight.carriesArm r.id && !r.effective).map (fun r : ArmRecord =>
        (⟨.note .armExpired r.id, s.config.id, false, r.tag, new, false, false, false⟩ : EventRecord)) := by
  have hmissed : (s.stepDriven new).entryRecord .missed = fun e : ScheduleEntry =>
      (⟨.note .missed (BitVec.ofNat 8 e.output.val), e.sender, false, e.tag, new, false, false, false⟩ : EventRecord) := by
    funext e
    have hstate : (s.stepDriven new).agreement.state = .gathering := h
    rw [entryRecord, noteNow, hstate]
    rfl
  have hexpired : s.steppedNote new = fun r : ArmRecord =>
      (⟨.note .armExpired r.id, s.config.id, false, r.tag, new, false, false, false⟩ : EventRecord) := by
    funext r
    rw [steppedNote, h]
    rfl
  rw [stepNotes, hmissed, hexpired]
  rfl

/-! ### The period in which a step is made (R9) -/

/-- An advance that brings no close leaves the trim and the pace count. -/
theorem singleAdvance_open {len : Nat} {c : Int} {a : Advance} (h : (singleAdvance len c a).closed = false) :
    ∃ now overtime, (singleAdvance len c a).clock = { a.clock with now := now, overtime := overtime } := by
  unfold singleAdvance at h ⊢
  split_ifs at h ⊢
  · unfold spendOvertime
    split_ifs
    · exact ⟨_, _, rfl⟩
    · exact ⟨a.clock.now, _, rfl⟩
  · unfold closeRound at h
    split_ifs at h
  · exact ⟨_, a.clock.overtime, rfl⟩

section Handed

variable {s u : State} {new : LineTime} (hrun : s.clock.running = true) (hhanded : s.clock.handed = some new)
  (hpace : s.clock.pace + s.clock.trim.natAbs < 1000000) (hsame : SameAgreement s u) (hclock : u.clock = s.clock)

include hrun hhanded hpace hsame hclock

theorem advances_after_step (hphase : new.phase + 1 < s.config.roundLength) : u.advances = ⟨{ s.clock with
    pace := s.clock.pace + s.clock.trim.natAbs, now := ⟨new.round, new.phase + 1⟩, overtime := 0, handed := none },
    false, false, false⟩ := by
  obtain ⟨pace, hp⟩ : ∃ pace, pace = s.clock.pace + s.clock.trim.natAbs := ⟨_, rfl⟩
  rw [advances_congr hsame hclock, advances, if_pos hrun, LineClock.stepped_of_some _ _ hhanded, LineClock.period]
  simp only [paceStep, if_pos hpace]
  rw [← hp]
  exact singleAdvance_of_phase rfl hphase

omit hhanded hsame in
theorem advancesBefore_open (hopen : u.advancesBefore.closed = false) : ∃ now overtime, u.advancesBefore.clock =
    { s.clock with pace := s.clock.pace + s.clock.trim.natAbs, now := now, overtime := overtime, handed := none } := by
  obtain ⟨v, hv⟩ : ∃ v, v = u.setClock { u.clock with handed := none } := ⟨_, rfl⟩
  have hbefore : u.advancesBefore = v.advances := by rw [hv, advancesBefore]
  have hvclock : v.clock = { s.clock with handed := none } := by rw [hv, hclock]; rfl
  have hvperiod : v.advances = singleAdvance v.len v.closeFigures.correction (v.paced (v.clock.pace + v.clock.trim.natAbs)) := by
    rw [advances_running_eq (by rw [hvclock]; exact hrun) (by rw [hvclock]), LineClock.period, paceStep,
      if_pos (by rw [hvclock]; exact hpace)]
    rfl
  rw [hbefore] at hopen ⊢
  rw [hvperiod] at hopen ⊢
  obtain ⟨now, overtime, h⟩ := singleAdvance_open hopen
  refine ⟨now, overtime, h.trans ?_⟩
  rw [paced, hvclock]

theorem plainClockPeriod_after_step (hphase : new.phase + 1 < s.config.roundLength) : SameAgreement s u.plainClockPeriod ∧
    (u.plainClockPeriod.clock = { s.clock with
        pace := s.clock.pace + s.clock.trim.natAbs, now := new, overtime := 0, handed := none } ∨
      u.plainClockPeriod.clock = { s.clock with
        pace := s.clock.pace + s.clock.trim.natAbs, now := ⟨new.round, new.phase + 1⟩, overtime := 0, handed := none }) := by
  have hne : u.clock.handed ≠ none := by rw [hclock, hhanded]; simp
  have hadvances := advances_after_step hrun hhanded hpace hsame hclock hphase
  have hperiod : u.clockPeriod false = u.makeStep.setClock u.advances.clock := by
    unfold clockPeriod
    simp [hadvances]
  have hindexed : ∀ v : State, SameAgreement v (v.setFreeIndex (u.freeIndex + 1)) := fun v => ⟨rfl, rfl⟩
  have hmade : SameAgreement s (u.clockPeriod false) := by
    rw [hperiod]
    exact (hsame.trans (.of_frame (makeStep_frame u))).trans (.of_frame (setClock_frame _ _))
  have hfirst : SameAgreement s u.advanceThenStep :=
    hsame.trans (.of_frame (((setClock_frame u _).mono).trans (((takeLooks_frame _).mono).trans ((makeStep_frame _).mono)) :
      Frame [.clock, .outputs, .filters, .events, .schedule, .store, .outbox] u u.advanceThenStep))
  unfold plainClockPeriod
  rw [if_neg hne]
  cases hchoice : u.advancesFirst with
  | false => exact ⟨hmade.trans (hindexed _), .inr (by rw [setFreeIndex_clock]; simp [clockPeriod_clock, hadvances])⟩
  | true =>
    refine ⟨hfirst.trans (hindexed _), .inl ?_⟩
    have hopen : u.advancesBefore.closed = false := by
      simp only [advancesFirst, Bool.and_eq_true, Bool.not_eq_true'] at hchoice
      exact hchoice.1.1
    obtain ⟨now, overtime, hbefore⟩ := advancesBefore_open hrun hpace hclock hopen
    rw [setFreeIndex_clock, if_pos rfl, advanceThenStep_clock, hbefore, hclock, hhanded]
    rfl

end Handed

theorem endPeriod_after_step {s : State} {new : LineTime} (hheld : s.resetHeld = false) (hrun : s.clock.running = true)
    (hhanded : s.clock.handed = some new) (hpace : s.clock.pace + s.clock.trim.natAbs < 1000000)
    (hphase : new.phase + 1 < s.config.roundLength) : SameAgreement s s.endPeriod ∧
    (s.endPeriod.clock = { s.clock with
        pace := s.clock.pace + s.clock.trim.natAbs, now := new, overtime := 0, handed := none } ∨
      s.endPeriod.clock = { s.clock with
        pace := s.clock.pace + s.clock.trim.natAbs, now := ⟨new.round, new.phase + 1⟩, overtime := 0, handed := none }) := by
  obtain ⟨u, hu⟩ : ∃ u, u = s.takeDue.countPeriod := ⟨_, rfl⟩
  have hframe : Frame (.ripe :: dueParts) s u := hu ▸ ((takeDue_frame s).mono).trans ((countPeriod_frame _).mono)
  obtain ⟨hsame, hclock⟩ := plainClockPeriod_after_step hrun hhanded hpace (.of_frame hframe) (hframe.same .clock) hphase
  have hend : Frame [.tx, .lateHandling] u.plainClockPeriod s.endPeriod := by
    rw [endPeriod, if_neg (ne_true_of_eq_false hheld), ← hu]
    exact ((reportAt_frame _ _).mono).trans ((markLate_frame _ s).mono)
  have hlast : s.endPeriod.clock = u.plainClockPeriod.clock := hend.same .clock
  rw [hlast]
  exact ⟨hsame.trans (.of_frame hend), hclock⟩

/-! ### What the step leaves aside -/

theorem stepSchedule_aside {g : State → State} (h : Aside g) (s : State) : (g s).stepSchedule = g s.stepSchedule := by
  rw [stepSchedule, h.schedule, h.len, h.now, h.setSchedule, foldl_aside fun s e => h.entryNote s .missed e]
  rfl

/-- The step made does not turn on the Framer, the Access Unit or the mark of a late handling. -/
theorem makeStep_line {s : State} {new : LineTime} (hhanded : s.clock.handed = some new) (f : Framer) (a : Access) (late : Bool) :
    (((s.setFramer f).setAccess a).setLateHandling late).makeStep = ((s.makeStep.setFramer f).setAccess a).setLateHandling late := by
  have h := asideArms_line f a late
  obtain ⟨d, hd⟩ : ∃ d, d = s.stepDriven new := ⟨_, rfl⟩
  have hdriven : (((s.setFramer f).setAccess a).setLateHandling late).stepDriven new =
      ((d.setFramer f).setAccess a).setLateHandling late := by
    rw [hd]
    rfl
  have hreactions : (((d.setFramer f).setAccess a).setLateHandling late).stepSchedule.stepArms.lookSchedule =
      ((d.stepSchedule.stepArms.lookSchedule.setFramer f).setAccess a).setLateHandling late := by
    have hschedule := stepSchedule_aside h.toAside d
    have harms := h.stepArms d.stepSchedule
    have hlook := h.toAside.lookSchedule d.stepSchedule.stepArms
    exact (congrArg (fun x : State => x.stepArms.lookSchedule) hschedule).trans ((congrArg lookSchedule harms).trans hlook)
  rw [makeStep_reactions (s := ((s.setFramer f).setAccess a).setLateHandling late) (new := new) hhanded, hdriven, hreactions,
    makeStep_reactions hhanded, hd]

end State

open State

/-- The step made, in GATHERING. -/
theorem makeStep_in_gathering (s : State) (new : LineTime) (hhanded : s.clock.handed = some new)
    (hgathering : s.agreement.state = .gathering)
    (hahead : ∀ e ∈ s.schedule, earlier s.len e.due new = true ∨ earlier s.len new e.due = true) (hdistinct : ArmIdsDistinct s) :
    s.makeStep.clock = { s.clock with now := new, overtime := 0, handed := none } ∧
    s.makeStep.agreement = s.agreement ∧ s.makeStep.access = s.access ∧ s.makeStep.framer = s.framer ∧
    s.makeStep.tap = s.tap ∧ s.makeStep.config = s.config ∧
    s.makeStep.schedule = s.schedule.filter (fun e => !earlier s.len e.due new) ∧
    s.makeStep.arms = { s.arms with
      outbox := s.arms.outbox.filter fun r => !(earlier s.len r.action new && !s.arms.inFlight.carriesArm r.id) } ∧
    s.makeStep.store =
      (((s.schedule.filter fun e => earlier s.len e.due new).map (fun e : ScheduleEntry =>
          (⟨.note .missed (BitVec.ofNat 8 e.output.val), e.sender, false, e.tag, new, false, false, false⟩ : EventRecord)) ++
        (s.arms.outbox.filter fun r =>
            earlier s.len r.action new && !s.arms.inFlight.carriesArm r.id && !r.effective).map (fun r : ArmRecord =>
          (⟨.note .armExpired r.id, s.config.id, false, r.tag, new, false, false, false⟩ : EventRecord))).foldl
        State.takeRecord
        (s.setClock { s.clock with now := new, overtime := 0, handed := none })).store ∧
    s.makeStep.capture.outbox = (s.capture.outbox.map fun e => { e with sure := false }) ∧
    s.makeStep.capture.inFlight = s.capture.inFlight ∧
    (∀ i : Fin 8, (s.makeStep.capture.filters[i]).stable = (s.capture.filters[i]).stable ∧
      ((s.capture.filters[i]).condition = .stable → (s.makeStep.capture.filters[i]).condition = .stable) ∧
      ∀ edge stamp hold stepped, (s.capture.filters[i]).condition = .pending edge stamp hold stepped →
        (s.makeStep.capture.filters[i]).condition = .pending edge stamp hold true) ∧
    ∀ i : Fin 8,
      ((s.outputs[i]).condition ≠ .acting → s.makeStep.outputs[i] = s.outputs[i]) ∧
      ((s.config.outputs[i]).mode = .level → s.makeStep.outputs[i] = s.outputs[i]) ∧
      (∀ p, (s.outputs[i]).condition = .acting → (s.config.outputs[i]).mode = .pulse →
        (s.outputs[i]).pulseEnd = some p →
        s.makeStep.outputs[i] = if earlier s.len new p then s.outputs[i]
          else { s.outputs[i] with level := false, pulseEnd := none }) ∧
      ∀ r, (s.outputs[i]).condition = .acting → (s.config.outputs[i]).mode = .round →
        (s.outputs[i]).latchRound = some r →
        s.makeStep.outputs[i] = if s.clock.now.round = new.round then s.outputs[i]
          else { s.outputs[i] with level := false, latchRound := none } := by
  obtain ⟨hids, -, -⟩ := hdistinct
  obtain ⟨hschedule, houtputs, harms, hstore, hevents, hflight, hfilters⟩ := makeStep_parts hhanded hahead hids
  have hframe := makeStep_frame s
  rw [stepNotes_of_gathering new hgathering] at hstore
  refine ⟨(makeStep_clock s).trans (LineClock.stepped_of_some _ _ hhanded), hframe.agreement, hframe.access, hframe.framer, hframe.tap,
    hframe.same .config, hschedule, harms, hstore, hevents, hflight, fun i => ?_, fun i => ?_⟩
  · obtain ⟨hstable, hcondition⟩ := hfilters i
    obtain ⟨hstable', hkept, hmarked⟩ := markStepped_parts (s.capture.filters[i])
    rw [stepDriven_filters] at hstable hcondition
    rw [hstable, hcondition]
    exact ⟨hstable', hkept, hmarked⟩
  · rw [houtputs]
    exact stepDriven_output s new i

/-- REFERENCE_PERIOD after a hand-over: the new line time, or that time advanced. -/
theorem exec_referencePeriod_after_step (s : State) (new : LineTime) (hheld : s.resetHeld = false) (hrun : s.clock.running = true)
    (hhanded : s.clock.handed = some new) (hpace : s.clock.pace + s.clock.trim.natAbs < 1000000)
    (hphase : new.phase + 1 < s.config.roundLength) :
    ∃ t, exec .referencePeriod s = .next t ∧ t.agreement = { s.agreement with timeFrame := t.agreement.timeFrame } ∧
      (t.clock = { s.clock with
          pace := s.clock.pace + s.clock.trim.natAbs, now := new, overtime := 0, handed := none } ∨
        t.clock = { s.clock with
          pace := s.clock.pace + s.clock.trim.natAbs, now := ⟨new.round, new.phase + 1⟩, overtime := 0,
          handed := none }) := by
  obtain ⟨hsame, hclock⟩ := endPeriod_after_step (s := inPeriod s) hheld hrun hhanded hpace hphase
  exact ⟨(inPeriod s).endPeriod, next_unlessHeld hheld State.endPeriod, hsame.agreement, hclock⟩

end Sys2Proof.Machine

/-! An adoption (R9, R23 to R25, R108, R109): what it hands over and notes, part by part, and where its handling may be late. -/

namespace Sys2Proof.Machine

set_option Elab.async false

open Safety

/-! ### The notes of an adoption in the Event Store -/

theorem insertByKey_last {len : Nat} {now : LineTime} {r : EventRecord} {l : List EventRecord}
    (h : ∀ x ∈ l, keyLater len now x r = false) : insertByKey len now r l = l ++ [r] := by
  induction l with
  | nil => rfl
  | cons x l ih =>
    rw [insertByKey, if_neg (ne_true_of_eq_false (h x List.mem_cons_self)), ih fun y hy => h y (List.mem_cons_of_mem _ hy)]
    rfl

theorem keyLater_same {len : Nat} {now : LineTime} {a b : EventRecord} (hstamp : a.stamp = b.stamp) (horigin : a.origin = b.origin) :
    keyLater len now a b = false := by
  simp [keyLater, hstamp, horigin]

/-- Records of one origin at the store's time stand in the settling list in the order in which they come (R102, R104). -/
theorem EventStore.take_at_now {len horizon : Nat} {now : LineTime} {r : EventRecord} {st : EventStore} (hroom : st.total < 128)
    (hmark : st.mark = none) (hreach : 0 < horizon * len) (hr : r.stamp = now)
    (hsame : ∀ x ∈ st.settling, x.stamp = now ∧ x.origin = r.origin) :
    st.take len horizon now r = { st with settling := st.settling ++ [r] } := by
  have hinsert : insertByKey len now r st.settling = st.settling ++ [r] :=
    insertByKey_last fun x hx => keyLater_same ((hsame x hx).1.trans hr.symm) (hsame x hx).2
  have hyoung : ∀ x : EventRecord, x.stamp = now → settled len horizon now x = false := fun x hx => by
    refine settled_eq_false ?_
    rw [hx, timeDiff_self]
    omega
  have hlate : beforeMark len now st.mark r = false := by rw [hmark]; rfl
  rw [EventStore.take_settling hroom hlate, hinsert, EventStore.look_of_young]
  · simp only [hmark]
    rfl
  · intro x hx
    rcases List.mem_append.1 (List.mem_of_mem_head? hx) with hx | hx
    · exact hyoung x (hsame x hx).1
    · rw [List.mem_singleton.1 hx]
      exact hyoung r hr

namespace State

/-! ### The looks before an adoption -/

/-- Where the looks of the present reading have been taken, no more than the release mark ages. -/
theorem takeLooks_of_taken {s : State} (h : LooksTaken s) :
    s.takeLooks = s.setStore { s.store with mark := ageMark s.len s.storeNow s.store.mark } := by
  obtain ⟨hschedule, hpulses, harms, hstore⟩ := h
  have hlook : s.lookSchedule = s := lookSchedule_of_young hschedule
  have hend : s.endPulses = s := by
    have houtputs : (Vector.ofFn fun i : Fin 8 => (s.outputs[i]).endPulse s.len s.now) = s.outputs := by
      refine Vector.ext fun i hi => ?_
      rw [Vector.getElem_ofFn]
      have hahead := hpulses ⟨i, hi⟩
      unfold Output.endPulse
      split
      · rfl
      · next t ht => exact if_neg (by simp only [reached, now, hahead t ht]; decide)
    exact congrArg s.setOutputs houtputs
  have hexpire : s.expireArms = s := expireWhere_none fun r hr => by
    rw [armPassed, passed, now, harms r hr]
    rfl
  rw [takeLooks, hlook, hend, hexpire, lookStore, EventStore.look_of_young fun x hx => settled_eq_false (hstore x hx)]

/-! ### What an adoption hands over and notes -/

/-- The station at the reading to which an adoption hands over, before the adoption's notes. -/
def adoptedAt (s : State) (founder : StationId) (new : LineTime) : State :=
  ((s.takeLooks.handStep new).adoptAgreement founder).setClock { s.clock with now := new, handed := some new }

/-- The notes of an adoption: STEP, and AGREEMENT where the state changes (R16, R25, R108). -/
def adoptionNotes (s h : State) (founder : StationId) : State :=
  if s.agreement.state = .gathering then h.stepNote founder else (h.stepNote founder).enterAgreement .gathering

section HandAdoption

variable {s : State} (founder : StationId) (offset : Int) {new : LineTime} (hnew : new = timeAdd s.len s.now offset)

include hnew in
theorem handAdoption_eq : s.handAdoption founder offset =
    (s.adoptionNotes (s.adoptedAt founder new) founder).setClock { s.clock with handed := some new } := by
  have hclock := takeLooks_clock s
  unfold handAdoption
  simp only
  rw [← hnew, atReading, atReadings]
  obtain ⟨w, hw⟩ : ∃ w, w = (s.takeLooks.handStep new).adoptAgreement founder := ⟨_, rfl⟩
  have hwclock : w.clock = { s.clock with handed := some new } := by
    rw [hw, ← hclock]
    rfl
  have hadopted : s.adoptedAt founder new = w.setClock { s.clock with now := new, handed := some new } := by rw [hw, adoptedAt]
  rw [← hw, hadopted, storeNow, hwclock]
  rfl

theorem adoptedAt_kept : Frame [.clock, .agreement, .store, .schedule, .outputs, .outbox, .filters] s (s.adoptedAt founder new) := by
  obtain ⟨v, hv⟩ : ∃ v, v = s.takeLooks := ⟨_, rfl⟩
  have hlooks : Frame [.schedule, .outputs, .store, .outbox, .filters] s v := hv ▸ takeLooks_frame s
  have hstep : Frame [.clock, .agreement, .store] v
      (((v.handStep new).adoptAgreement founder).setClock { s.clock with now := new, handed := some new }) := by
    intro p hp
    cases p <;> first | exact absurd (by decide) hp | rfl | simp [Part.same, handStep, flushStore, adoptAgreement]
  have hadopted : s.adoptedAt founder new =
      ((v.handStep new).adoptAgreement founder).setClock { s.clock with now := new, handed := some new } := by rw [hv, adoptedAt]
  rw [hadopted]
  exact (hlooks.mono).trans (hstep.mono)

/-- The Agreement Unit's part of an adoption (R25). -/
def adoption (a : Agreement) (founder : StationId) : Agreement :=
  { a with
    adjustCount := a.adjustCount + 1
    lastAdjust := .step
    founder := some founder
    peers := Vector.ofFn fun i => (a.peers[i]).stale
    clampCount := 0
    progress := 0
    lonelyCount := 0
    listenCount := 0 }

theorem adoptedAt_agreement : (s.adoptedAt founder new).agreement = adoption s.agreement founder := by
  have hlooks : s.takeLooks.agreement = s.agreement := (takeLooks_frame s).agreement
  exact congrArg (adoption · founder) hlooks

theorem entered_gathering {a : Agreement} (hzero : a.clampCount = 0 ∧ a.progress = 0 ∧ a.lonelyCount = 0) :
    entered a .gathering = { a with state := .gathering } := by
  obtain ⟨hclamp, hprogress, hlonely⟩ := hzero
  simp [entered, hclamp, hprogress, hlonely]

/-- What the notes of an adoption leave, and what they make of the Agreement Unit, the latch and the store. -/
theorem adoptionNotes_parts (h : State) (hzero : h.agreement.clampCount = 0 ∧ h.agreement.progress = 0 ∧ h.agreement.lonelyCount = 0)
    (hstate : h.agreement.state = s.agreement.state) :
    Frame [.agreement, .timeFrame, .store, .latch, .outputs, .tx] h (s.adoptionNotes h founder) ∧
    (s.adoptionNotes h founder).outputs = h.outputs ∧
    (s.adoptionNotes h founder).agreement = { h.agreement with state := .gathering } ∧
    (s.agreement.state ≠ .gathering → (s.adoptionNotes h founder).tap = { h.tap with latch := true, setSinceTake := true }) ∧
    (s.agreement.state = .gathering → (s.adoptionNotes h founder).tap = h.tap) := by
  obtain ⟨n, hn⟩ : ∃ n, n = h.stepNote founder := ⟨_, rfl⟩
  have hkept : n = h.setStore n.store := by
    rw [hn]
    exact takeRecord_eq _ _
  have hnframe : Frame [.agreement, .timeFrame, .store, .latch, .outputs, .tx] h n := hn ▸ (takeRecord_frame h _).mono
  have hnagreement : n.agreement = h.agreement := by rw [hkept]; rfl
  have hnoutputs : n.outputs = h.outputs := by rw [hkept]; rfl
  have hntap : n.tap = h.tap := by rw [hkept]; rfl
  by_cases hgathering : s.agreement.state = .gathering
  · rw [adoptionNotes, if_pos hgathering, ← hn]
    refine ⟨hnframe, hnoutputs, ?_, fun hne => absurd hgathering hne, fun _ => hntap⟩
    rw [hnagreement, ← hgathering, ← hstate]
  · obtain ⟨hagreement, htap, houtputs, -⟩ := enterAgreement_parts n .gathering
    rw [adoptionNotes, if_neg hgathering, ← hn]
    refine ⟨hnframe.trans (enterAgreement_frame n _), houtputs.trans hnoutputs, ?_, fun _ => htap.trans (by rw [hntap]),
      fun hyes => absurd hyes hgathering⟩
    rw [hagreement, hnagreement]
    exact entered_gathering hzero

/-- The parts that a hand-over touches. -/
def handedParts : List Part := [.clock, .agreement, .timeFrame, .store, .latch, .outputs, .tx, .filters, .schedule, .outbox]

/-- An adoption, part by part. -/
structure HandedAdoption (s t : State) (founder : StationId) (new : LineTime) : Prop where
  clock : t.clock = { s.clock with handed := some new }
  agreement : t.agreement = { adoption s.agreement founder with state := .gathering }
  latched : s.agreement.state ≠ .gathering → t.tap = { s.tap with latch := true, setSinceTake := true }
  tap : s.agreement.state = .gathering → t.tap = s.tap
  frame : Frame handedParts s t
  looked : t.schedule = s.takeLooks.schedule ∧ t.outputs = s.takeLooks.outputs ∧ t.arms = s.takeLooks.arms ∧
    t.capture = s.takeLooks.capture

include hnew in
theorem handAdoption_parts : HandedAdoption s (s.handAdoption founder offset) founder new := by
  have heq := handAdoption_eq founder offset hnew
  obtain ⟨w, hw⟩ : ∃ w, w = s.adoptedAt founder new := ⟨_, rfl⟩
  have hwagreement : w.agreement = adoption s.agreement founder := hw ▸ adoptedAt_agreement founder
  have hwtap : w.tap = s.tap := hw ▸ (adoptedAt_kept founder).tap
  obtain ⟨hnotes, houtputs, hagreement, hlatched, htap⟩ :=
    adoptionNotes_parts (s := s) founder w (by rw [hwagreement]; exact ⟨rfl, rfl, rfl⟩) (by rw [hwagreement]; rfl)
  rw [← hw] at heq
  have hframe : Frame handedParts s (s.handAdoption founder offset) := by
    rw [heq]
    refine Frame.trans ?_ ((setClock_frame _ _).mono)
    exact ((hw ▸ adoptedAt_kept founder).mono).trans (hnotes.mono)
  have hlooked : w.schedule = s.takeLooks.schedule ∧ w.outputs = s.takeLooks.outputs ∧ w.arms = s.takeLooks.arms ∧
      w.capture = s.takeLooks.capture := by
    rw [hw]
    exact ⟨rfl, rfl, rfl, rfl⟩
  refine ⟨?_, ?_, fun hne => ?_, fun hyes => ?_, hframe, ?_⟩
  · rw [heq]
    rfl
  · rw [heq, setClock_agreement, hagreement, hwagreement]
  · rw [heq, setClock_tap, hlatched hne, hwtap]
  · rw [heq, setClock_tap, htap hyes, hwtap]
  · obtain ⟨hschedule', houtputs', harms', hcapture'⟩ := hlooked
    rw [heq]
    exact ⟨(hnotes.same .schedule).trans hschedule', houtputs.trans houtputs', hnotes.arms.trans harms', hnotes.capture.trans hcapture'⟩

end HandAdoption

/-! ### The store after an adoption (R108, R109) -/

theorem enterAgreement_gathering_store (s : State) : (s.enterAgreement .gathering).store =
    ((s.setAgreement (entered s.agreement .gathering)).takeRecord
      ⟨.note .agreement 3, s.config.id, false, 0, s.clock.now, false, false, false⟩).store := by
  obtain ⟨-, -, -, hstore, -⟩ := enterAgreement_parts s .gathering
  exact hstore

/-- The STEP note of an adoption. -/
def stepRecord (s : State) (founder : StationId) (new : LineTime) : EventRecord :=
  ⟨.note .step founder, s.config.id, false, 0, new, false, false, false⟩

/-- The AGREEMENT note of an adoption. -/
def gatheringRecord (s : State) (new : LineTime) : EventRecord :=
  ⟨.note .agreement 3, s.config.id, false, 0, new, false, false, false⟩

theorem adoptionNotes_store {s h : State} (founder : StationId) {new : LineTime} (hset : h.agreement.state ≠ .unset)
    (hclock : h.clock.now = new ∧ h.clock.handed = some new) (hsettling : h.store.settling = []) (hmark : h.store.mark = none)
    (hroom : h.store.lane.length + 2 ≤ 128) (hreach : 0 < h.config.horizon * h.len) :
    (s.adoptionNotes h founder).store = { h.store with
      settling := h.stepRecord founder new :: if s.agreement.state = .gathering then [] else [h.gatheringRecord new] } := by
  obtain ⟨hnow, hhanded⟩ := hclock
  have hstoreNow : h.storeNow = new := by rw [storeNow, hhanded]; rfl
  have htotal : h.store.total = h.store.lane.length := by rw [EventStore.total, hsettling]; simp
  have hstep : h.stepNote founder = h.setStore { h.store with settling := [h.stepRecord founder new] } := by
    rw [stepNote, takeRecord_of_set hset, hstoreNow, EventStore.take_at_now (by omega) hmark hreach hnow (by simp [hsettling]),
      hsettling, now, hnow]
    rfl
  by_cases hgathering : s.agreement.state = .gathering
  · rw [adoptionNotes, if_pos hgathering, if_pos hgathering, hstep]
    rfl
  · obtain ⟨n, hn⟩ : ∃ n, n = h.setStore { h.store with settling := [h.stepRecord founder new] } := ⟨_, rfl⟩
    have hnstore : n.store = { h.store with settling := [h.stepRecord founder new] } := by rw [hn]; rfl
    have hnnow : n.clock.now = new := by rw [hn]; exact hnow
    have hnhanded : n.clock.handed = some new := by rw [hn]; exact hhanded
    have hnconfig : n.config = h.config := by rw [hn]; rfl
    rw [adoptionNotes, if_neg hgathering, if_neg hgathering, hstep, ← hn, enterAgreement_gathering_store,
      takeRecord_of_set (by simp [entered])]
    have hnStoreNow : (n.setAgreement (entered n.agreement .gathering)).storeNow = new := by
      rw [storeNow, setAgreement_clock, hnhanded]
      rfl
    have hnlen : (n.setAgreement (entered n.agreement .gathering)).len = h.len := by rw [len, setAgreement_config, hnconfig]; rfl
    rw [hnStoreNow, hnlen, setAgreement_config, hnconfig, hnnow, setStore_store, setAgreement_store, hnstore]
    refine (EventStore.take_at_now (r := h.gatheringRecord new)
      (st := { h.store with settling := [h.stepRecord founder new] }) (hreach := hreach) ?_ hmark rfl ?_).trans ?_
    · simp only [EventStore.total, List.length_singleton]
      omega
    · intro x hx
      rw [List.mem_singleton.1 hx]
      exact ⟨rfl, rfl⟩
    · rfl

/-- The Event Store after an adoption for which the looks of the present reading have been taken. -/
theorem handAdoption_store {s : State} (founder : StationId) (offset : Int) {new : LineTime} (hnew : new = timeAdd s.len s.now offset)
    (hset : s.agreement.state ≠ .unset) (hlooks : LooksTaken s) (hlen : 1 ≤ s.config.roundLength) (hhorizon : 1 ≤ s.config.horizon)
    (hroom : s.store.settling.length + s.store.lane.length + 2 ≤ 128) :
    (s.handAdoption founder offset).store =
      { settling := s.stepRecord founder new :: if s.agreement.state = .gathering then [] else [s.gatheringRecord new]
        lane := s.store.lane ++ s.store.settling.map fun r => { r with stepped := true }
        mark := none
        gap := s.store.gap } := by
  obtain ⟨w, hw⟩ : ∃ w, w = s.adoptedAt founder new := ⟨_, rfl⟩
  have hwconfig : w.config = s.config := hw ▸ (adoptedAt_kept founder).same .config
  have hwstore : w.store = ⟨[], s.store.lane ++ s.store.settling.map fun r => { r with stepped := true }, none, s.store.gap⟩ := by
    rw [hw, adoptedAt, takeLooks_of_taken hlooks]
    rfl
  have hwclock : w.clock.now = new ∧ w.clock.handed = some new := by
    rw [hw]
    exact ⟨rfl, rfl⟩
  have hwset : w.agreement.state ≠ .unset := by
    rw [hw, adoptedAt_agreement]
    exact hset
  have hwreach : 0 < w.config.horizon * w.len := by
    rw [len, hwconfig]
    exact Nat.mul_pos hhorizon hlen
  have hwroom : w.store.lane.length + 2 ≤ 128 := by
    rw [hwstore]
    simp only [List.length_append, List.length_map]
    omega
  have hnotes := adoptionNotes_store (s := s) founder hwset hwclock (by rw [hwstore]) (by rw [hwstore]) hwroom hwreach
  rw [handAdoption_eq founder offset hnew, ← hw, setClock_store, hnotes, hwstore, stepRecord, gatheringRecord, hwconfig]
  rfl

/-! ### A handling that may be late (R9, log 5) -/

theorem expireArms_setLateHandling (s : State) (late : Bool) : (s.setLateHandling late).expireArms = s.expireArms.setLateHandling late :=
  foldl_aside (g := (State.setLateHandling · late)) (asideArms_late late).expireArm (s.arms.outbox.filter s.armPassed) s

theorem takeLooks_setLateHandling (s : State) (late : Bool) : (s.setLateHandling late).takeLooks = s.takeLooks.setLateHandling late := by
  have hschedule := (asideArms_late late).toAside.lookSchedule s
  have hexpire := expireArms_setLateHandling s.lookSchedule.endPulses late
  exact (congrArg (fun x : State => x.endPulses.expireArms.lookStore) hschedule).trans (congrArg lookStore hexpire)

theorem enterAgreement_setLateHandling (s : State) (late : Bool) (new : AgreementState) :
    (s.setLateHandling late).enterAgreement new = (s.enterAgreement new).setLateHandling late := by
  obtain ⟨r, hr⟩ : ∃ r, r = noteNow (s.setAgreement (entered s.agreement new)) .agreement (BitVec.ofNat 8 new.code) s.config.id 0 :=
    ⟨_, rfl⟩
  obtain ⟨v, hv⟩ : ∃ v, v = ((s.setAgreement (entered s.agreement new)).takeRecord r).setLatch := ⟨_, rfl⟩
  obtain ⟨d, hd⟩ : ∃ d, d = if new = .adrift then v.safeOutputs else v := ⟨_, rfl⟩
  have hplain : s.enterAgreement new =
      if s.access.tx = .off ∧ (new = .alone ∨ new = .gathering) then d.setAccess { d.access with tx := .idle } else d := by
    rw [hd, hv, hr]
    rfl
  have hnoted : (((s.setLateHandling late).setAgreement (entered s.agreement new)).takeRecord r).setLatch = v.setLateHandling late := by
    rw [hv]
    exact congrArg setLatch (takeRecord_setLateHandling (s.setAgreement (entered s.agreement new)) late r)
  have hdriven : (if new = .adrift then (v.setLateHandling late).safeOutputs else v.setLateHandling late) = d.setLateHandling late := by
    rw [hd]
    exact ite_aside (g := (State.setLateHandling · late)) Iff.rfl rfl rfl
  have hlate : (s.setLateHandling late).enterAgreement new =
      if s.access.tx = .off ∧ (new = .alone ∨ new = .gathering) then
        (d.setLateHandling late).setAccess { d.access with tx := .idle } else d.setLateHandling late := by
    rw [show d.access = (d.setLateHandling late).access from rfl, ← hdriven, ← hnoted, hr]
    rfl
  rw [hlate, hplain]
  exact ite_aside (g := (State.setLateHandling · late)) Iff.rfl rfl rfl

theorem adoptionNotes_setLateHandling (s h : State) (founder : StationId) (late : Bool) :
    s.adoptionNotes (h.setLateHandling late) founder = (s.adoptionNotes h founder).setLateHandling late := by
  have hstep : (h.setLateHandling late).stepNote founder = (h.stepNote founder).setLateHandling late :=
    takeRecord_setLateHandling h late _
  unfold adoptionNotes
  refine ite_aside (g := (State.setLateHandling · late)) Iff.rfl hstep ?_
  rw [hstep, enterAgreement_setLateHandling]

theorem handAdoption_setLateHandling (s : State) (founder : StationId) (offset : Int) (late : Bool) :
    (s.setLateHandling late).handAdoption founder offset = (s.handAdoption founder offset).setLateHandling late := by
  obtain ⟨new, hnew⟩ : ∃ new, new = timeAdd s.len s.now offset := ⟨_, rfl⟩
  have hadopted : (s.setLateHandling late).adoptedAt founder new = (s.adoptedAt founder new).setLateHandling late :=
    congrArg (fun x : State => ((x.handStep new).adoptAgreement founder).setClock { s.clock with now := new, handed := some new })
      (takeLooks_setLateHandling s late)
  rw [handAdoption_eq founder offset hnew, handAdoption_eq (s := s.setLateHandling late) founder offset hnew, hadopted]
  exact congrArg (fun x : State => x.setClock { s.clock with handed := some new })
    (adoptionNotes_setLateHandling s (s.adoptedAt founder new) founder late)

theorem reportAt_setLateHandling (s : State) (late : Bool) (t : LineTime) :
    (s.setLateHandling late).reportAt t = (s.reportAt t).setLateHandling late := by
  rw [reportAt_eq, reportAt_eq]
  rfl

theorem reportAt_setFreeIndex (s : State) (k : Nat) (t : LineTime) :
    (s.setFreeIndex k).reportAt t = (s.reportAt t).setFreeIndex k := by
  rw [reportAt_eq, reportAt_eq]
  rfl

/-! ### The handling of a TIME frame that causes an adoption (R24) -/

theorem adopts_of_lower {s : State} {b : Byte} {sent : AgreementState} {founder : StationId}
    (hbyte : b = 2 ∧ sent = .alone ∨ b = 4 ∧ sent = .locked)
    (h : s.agreement.state = .listening ∨ s.agreement.state = .adrift ∨
      (s.agreement.state = .alone ∨ s.agreement.state = .gathering ∨ s.agreement.state = .locked) ∧
        ∃ own, s.agreement.founder = some own ∧ founder.toNat < own.toNat) : s.adopts sent founder = true := by
  have hsent : (sent == .locked || sent == .alone) = true := by
    rcases hbyte with ⟨-, rfl⟩ | ⟨-, rfl⟩ <;> rfl
  rw [adopts, hsent, Bool.true_and]
  rcases h with h | h | ⟨hacting, own, hown, hlower⟩
  · rw [h]
  · rw [h]
  · rcases hacting with h | h | h <;> rw [h, hown] <;> exact decide_eq_true hlower

/-- The station with the sender's entry updated by the frame (R21). -/
def heardPeer (s : State) (f : ReceivedFrame) (sent : AgreementState) (o : Int) : State :=
  s.setPeer f.sender ((s.peerOf f.sender).heardFrom sent (byteAt f.body 1) (some o) s.closingRound)

section Handling

variable {s : State} {f : ReceivedFrame} {after : Framer} {sent : AgreementState} {o : Int} (hends : HandlingEnds s f after)
  (hkind : f.kind = .time) (hbyte : byteAt f.body 0 = 2 ∧ sent = .alone ∨ byteAt f.body 0 = 4 ∧ sent = .locked)
  (hstate : s.agreement.state = .listening ∨ s.agreement.state = .adrift ∨
    (s.agreement.state = .alone ∨ s.agreement.state = .gathering ∨ s.agreement.state = .locked) ∧
      ∃ own, s.agreement.founder = some own ∧ (byteAt f.body 1).toNat < own.toNat)
  (hbarred : (s.peerOf f.sender).state ≠ .barred) (hoffset : FrameOffset s f (some o))

include hends hkind hbyte hstate hbarred hoffset

theorem exec_adoption : exec .frameHandlingEnd s =
    .next ((((s.heardPeer f sent o).adopt (byteAt f.body 1) o).setFramer after).setLateHandling false) := by
  have hset : s.agreement.state ≠ .unset := by
    rcases hstate with h | h | ⟨h | h | h, -⟩ <;> rw [h] <;> decide
  have hover := (handOver_time (s := s) hkind (senderStateOf_eq (hbyte.imp_right fun h => .inr (.inl h)))).trans
    (takeTimeFrame_of_adoption hset (frameOffset_eq hoffset) hbarred (adopts_of_lower hbyte hstate))
  rw [exec_frameHandlingEnd hends, hover]
  rfl

end Handling

/-- Where the handling is of the period now running, the step is handed over. -/
theorem adopt_in_period {v : State} (founder : StationId) (o : Int) (after : Framer) :
    (((v.setLateHandling false).adopt founder o).setFramer after).setLateHandling false =
      ((((v.handAdoption founder o).reportAt v.now).setFramer after)).setLateHandling false := by
  rw [adopt_of_not_late (v.setLateHandling false) founder o rfl, handAdoption_setLateHandling, reportAt_setLateHandling]
  rfl

/-- Where the handling may be of the period that ended last, the step is handed over, or made at once (R9, R25). -/
theorem adopt_late {v h t : State} {founder : StationId} {o : Int} {after : Framer} {new : LineTime} (hlate : v.lateHandling = true)
    (hnew : new = timeAdd v.len v.now o)
    (hh : h = (((v.handAdoption founder o).reportAt v.now).setFramer after).setLateHandling false)
    (ht : t = ((v.adopt founder o).setFramer after).setLateHandling false) :
    t.freeIndex = v.freeIndex + 1 ∧ t.lateHandling = false ∧
      (t = h.setFreeIndex (v.freeIndex + 1) ∨
        t.clock = { v.clock with now := new, overtime := 0, handed := none } ∧ t.agreement = h.agreement ∧
          t.framer = after ∧ t.tap = h.tap ∧ t.config = v.config ∧ t.loader = v.loader ∧
          t.schedule = h.makeStep.schedule ∧ t.outputs = h.makeStep.outputs ∧ t.arms = h.makeStep.arms ∧
          t.capture = h.makeStep.capture ∧ t.store = h.makeStep.store) := by
  have hparts := handAdoption_parts founder o hnew
  obtain ⟨made, hmade, hadopt⟩ := adopt_of_late v founder o hlate
  obtain ⟨w, hw⟩ : ∃ w, w = v.handAdoption founder o := ⟨_, rfl⟩
  rw [← hw] at hparts hmade hadopt hh
  have hindex : w.freeIndex = v.freeIndex := hparts.frame.same .freeIndex
  rw [hadopt, reportAt_setFreeIndex, hindex] at ht
  refine ⟨by rw [ht]; rfl, by rw [ht]; rfl, ?_⟩
  rcases hmade with rfl | rfl
  · exact .inl (by rw [ht, hh]; rfl)
  · right
    have hhanded : w.clock.handed = some new := by rw [hparts.clock]
    have hstepped : w.makeStep.clock = { v.clock with now := new, overtime := 0, handed := none } := by
      rw [makeStep_clock, LineClock.stepped_of_some _ _ hhanded, hparts.clock]
    have hline : h = ((w.setFramer after).setAccess (w.reportAt v.now).access).setLateHandling false := by
      rw [hh, reportAt_eq]
      rfl
    have hstep : h.makeStep = ((w.makeStep.setFramer after).setAccess (w.reportAt v.now).access).setLateHandling false := by
      rw [hline, makeStep_line hhanded]
    have hmake := makeStep_frame w
    obtain ⟨m, hm⟩ : ∃ m, m = w.makeStep := ⟨_, rfl⟩
    have hreport := reportAt_frame m v.now
    rw [← hm] at hstepped hstep hmake ht
    obtain ⟨r, hr⟩ : ∃ r, r = m.reportAt v.now := ⟨_, rfl⟩
    rw [← hr] at hreport ht
    have hagreement : r.agreement = w.agreement := hreport.agreement.trans hmake.agreement
    have htap : r.tap = w.tap := hreport.tap.trans hmake.tap
    have hconfig : r.config = v.config := Eq.trans (hreport.same .config) (Eq.trans (hmake.same .config) (hparts.frame.same .config))
    have hloader : r.loader = v.loader := Eq.trans (hreport.same .loader) (Eq.trans (hmake.same .loader) (hparts.frame.same .loader))
    rw [hstep, hline, ht]
    exact ⟨Eq.trans (hreport.same .clock) hstepped, hagreement, rfl, htap, hconfig, hloader, hreport.same .schedule,
      hreport.same .outputs, hreport.arms, hreport.capture, hreport.same .store⟩

/-- The peer table of an adoption, at the frame's sender and elsewhere (R21, R23). -/
theorem adoption_peers {s : State} {f : ReceivedFrame} {sent : AgreementState} {o : Int} (hbarred : (s.peerOf f.sender).state ≠ .barred)
    {t : State} (ht : t.agreement.peers = Vector.ofFn fun i => ((s.heardPeer f sent o).agreement.peers[i]).stale) :
    (∀ i : Fin 24, i ≠ stationIx f.sender → t.agreement.peers[i] =
      if (s.agreement.peers[i]).state = .live then { s.agreement.peers[i] with fresh := false } else s.agreement.peers[i]) ∧
    (t.peerOf f.sender).offset = some o ∧ (t.peerOf f.sender).fresh = false ∧ (t.peerOf f.sender).heard = true ∧
      (t.peerOf f.sender).state = .live ∧ (t.peerOf f.sender).founder = some (byteAt f.body 1) := by
  obtain ⟨p, hp⟩ : ∃ p, p = (s.peerOf f.sender).heardFrom sent (byteAt f.body 1) (some o) s.closingRound := ⟨_, rfl⟩
  have hpeers : ∀ i : Fin 24, t.agreement.peers[i] = ((s.agreement.peers.set (stationIx f.sender).val p)[i.val]).stale := fun i => by
    show t.agreement.peers[i.val] = _
    simp only [ht]
    rw [Vector.getElem_ofFn, hp]
    rfl
  obtain ⟨hlive, hheard, -⟩ := Peer.heardFrom_live sent (byteAt f.body 1) (some o) s.closingRound hbarred
  obtain ⟨-, hoffset, -⟩ := Peer.heardFrom_offset sent (byteAt f.body 1) s.closingRound hbarred o
  have hfounder : p.founder = some (byteAt f.body 1) := hp ▸ Peer.heardFrom_founder ..
  rw [← hp] at hlive hheard hoffset
  have hsender : t.peerOf f.sender = { p with fresh := false } := by
    rw [peerOf, hpeers, Vector.getElem_set_self, Peer.stale, if_pos hlive]
  refine ⟨fun i hi => ?_, ?_⟩
  · rw [hpeers, Vector.getElem_set_ne _ _ fun h => hi (Fin.ext h.symm)]
    rfl
  · rw [hsender]
    exact ⟨hoffset, rfl, hheard, hlive, hfounder⟩

end State

open State

/-- Settles O19: the hand-over of an adoption part by part, the step it makes, and the period that ends after it. -/
theorem adoptionStepsTheClock : Obligations.AdoptionStepsTheClock := by
  refine ⟨fun s f after o new hends hkind hbyte hstate hbarred hoffset hnew => ?_, makeStep_in_gathering, exec_referencePeriod_after_step⟩
  obtain ⟨sent, hsent⟩ : ∃ sent : AgreementState, byteAt f.body 0 = 2 ∧ sent = .alone ∨ byteAt f.body 0 = 4 ∧ sent = .locked := by
    rcases hbyte with h | h
    · exact ⟨_, .inl ⟨h, rfl⟩⟩
    · exact ⟨_, .inr ⟨h, rfl⟩⟩
  have hexec := exec_adoption hends hkind hsent hstate hbarred hoffset
  obtain ⟨v, hv⟩ : ∃ v, v = s.heardPeer f sent o := ⟨_, rfl⟩
  have hset : s.agreement.state ≠ .unset := by
    rcases hstate with h | h | ⟨h | h | h, -⟩ <;> rw [h] <;> decide
  have hnew' : new = timeAdd v.len v.now o := by rw [hv]; exact hnew
  have hparts := handAdoption_parts (byteAt f.body 1) o hnew'
  obtain ⟨w, hw⟩ : ∃ w, w = (((v.handAdoption (byteAt f.body 1) o).reportAt v.now).setFramer after).setLateHandling false := ⟨_, rfl⟩
  refine ⟨fun hlate => ?_, fun hlate => ?_⟩
  · have hexec' := exec_adoption (s := s.setLateHandling false) hends hkind hsent hstate hbarred hoffset
    have hearly : exec .frameHandlingEnd (s.setLateHandling false) = .next w := by
      rw [hw, ← adopt_in_period, hv]
      exact hexec'
    obtain ⟨hindex, hoff, hcases⟩ := adopt_late (by rw [hv]; exact hlate) hnew' hw rfl
    rw [← hv] at hexec
    refine ⟨w, _, hearly, hexec, ?_⟩
    rw [hv] at hindex hoff hcases ⊢
    exact ⟨hindex, hoff, hcases⟩
  · obtain ⟨H, hH⟩ : ∃ H, H = v.handAdoption (byteAt f.body 1) o := ⟨_, rfl⟩
    have hstore := handAdoption_store (byteAt f.body 1) o hnew'
    rw [← hH] at hparts hw hstore
    have hline : w = ((H.setFramer after).setAccess (H.reportAt v.now).access).setLateHandling false := by
      rw [hw, reportAt_eq]
      rfl
    have hnext : exec .frameHandlingEnd s = .next w := by
      rw [hexec, ← hv, adopt_of_not_late v _ _ (by rw [hv]; exact hlate), ← hH, hw]
    have hagreement : w.agreement = { adoption v.agreement (byteAt f.body 1) with state := .gathering } := by
      rw [hline]
      exact hparts.agreement
    obtain ⟨hothers, hoffset', hfresh, hheard, hlive, hfounder⟩ := adoption_peers (s := s) (sent := sent) (o := o) hbarred (t := w) (by rw [hagreement, hv]; rfl)
    have hrotation : w.access.rotation = v.access.rotation := by
      rw [hline]
      exact Eq.trans ((reportAt_frame H v.now).same .rotation) (hparts.frame.same .rotation)
    obtain ⟨hschedule, houtputs, harms, hcapture⟩ := hparts.looked
    refine ⟨w, hnext, ?_, by rw [hagreement], by rw [hagreement]; rfl, by rw [hagreement, hv]; rfl, by rw [hagreement]; rfl,
      fun _ => by rw [hagreement]; rfl, by rw [hagreement]; rfl, by rw [hagreement]; rfl, by rw [hagreement]; rfl,
      by rw [hagreement, hv]; rfl, hothers, hoffset', hfresh, hheard, hlive, hfounder,
      fun hne => ?_, fun hyes => ?_, by rw [hline]; rfl, ?_, ?_, ?_, ?_, ?_, ?_, by rw [hrotation, hv]; rfl,
      fun hlooks => ?_⟩
    · rw [hline]
      exact hparts.clock.trans (by rw [hv]; rfl)
    · rw [hline]
      exact (hparts.latched (by rw [hv]; exact hne)).trans (by rw [hv]; rfl)
    · rw [hline]
      exact (hparts.tap (by rw [hv]; exact hyes)).trans (by rw [hv]; rfl)
    · rw [hline]
      exact Eq.trans (hparts.frame.same .config) (by rw [hv]; rfl)
    · rw [hline]
      exact Eq.trans (hparts.frame.same .loader) (by rw [hv]; rfl)
    · rw [hline]
      exact Eq.trans (hparts.frame.same .history) (by rw [hv]; rfl)
    · rw [hline]
      exact Eq.trans (hparts.frame.same .cancels) (by rw [hv]; rfl)
    · rw [hline]
      exact Eq.trans (hparts.frame.same .armsInFlight) (by rw [hv]; rfl)
    · rw [hline]
      exact Eq.trans (hparts.frame.same .events) (by rw [hv]; rfl)
    · have hvlooks : LooksTaken v := by rw [hv]; exact hlooks
      have hvlook := takeLooks_of_taken hvlooks
      rw [hvlook] at hschedule houtputs harms hcapture
      rw [hline]
      refine ⟨hschedule.trans (by rw [hv]; rfl), houtputs.trans (by rw [hv]; rfl), harms.trans (by rw [hv]; rfl),
        hcapture.trans (by rw [hv]; rfl), fun hlen hhorizon hroom => ?_⟩
      rw [hv] at hstore hvlooks
      exact hstore hset hvlooks hlen hhorizon hroom

end Sys2Proof.Machine
